-- ==== Sys2Proof/Word.lean ====
section
/-!
DEFINITION. The words of the Larir: bytes, 32-bit register words (R15), SM3 digests, and lists of bytes.
Byte order and bit fields are in Machine/Bits.lean.
-/
set_option Elab.async false

namespace Sys2Proof

/-- One byte. -/
abbrev Byte := BitVec 8

/-- A register word (R15). -/
abbrev Word := BitVec 32

/-- An SM3 digest, 32 bytes, most significant byte first (R14). -/
abbrev Digest := BitVec 256

/-- A run of bytes, lowest address first. -/
abbrev Bytes := List Byte

end Sys2Proof
end

