-- ==== Sys2Proof/Syntax.lean ====
section
/-!
DEFINITION. The commands: one constructor per row of spec/opcode_table.json, and the operand records they carry.
An operand is what the outside world brings with the command: what a host clocks in, what a flash device, a sensor, the
adapter or the partner sends, what a core writes.
-/
namespace Sys2Proof

/-- What every host command brings (R92, R96, R97): the welt, the host chip select, the first and (in octal modes) second
command byte, the address as clocked, the host clock in MHz, and whether command and address were complete when the chip
select rose (R101). -/
structure HostCmd where
  welt : Fin 64
  cs : Fin 2
  opcode : Byte
  second : Byte
  addr : BitVec 32
  clockMHz : Nat
  complete : Bool
  deriving DecidableEq, Repr

/-- What a host read brings: the bytes the host clocks out, when the data path was ready (tenths of ns after the last address
cycle; the bounds of R117 and R118 cap it), what the flash device drives on a pass-through, the mirror sectors whose copy
failed its tag or ECC, the sectors whose tread line failed its SRAM check (R203, R204, R209), and whether the sole channel
overran in the cycle of the first data (R83). -/
structure ReadArgs where
  len : Nat
  ready : Nat
  flash : Bytes
  badSectors : List Nat
  badLines : List Nat
  overrun : Bool
  /-- what a unit that shadows sees on the host bus (R524) -/
  bus : Bytes := []
  deriving DecidableEq, Repr

/-- What a host write brings: its data bytes, and whether the chip select rose on a byte boundary (R125, R126). -/
structure WriteArgs where
  data : Bytes
  byteAligned : Bool
  deriving DecidableEq, Repr

/-- What a stitch ends with: the sources of overruns (R81, R90) with the cycle of each sole channel's (R56, R226; none named:
the last), the mirror sectors, as page and sector, that fail when scrub reads them (R225), channels that reported a corrected
error, new sensor samples (R608), and volatile key slots whose SRAM check fails (R357). -/
structure StitchFacts where
  overruns : List Nat
  ovrCycles : List (Nat × Nat)
  scrubFails : List (Nat × Nat)
  corrected : List Nat
  samples : List (Nat × Nat)
  keyBad : List Nat
  /-- SHANK_A_N and SHANK_B_N read high (R507) -/
  shankA : Bool
  shankB : Bool
  deriving DecidableEq, Repr

/-- What a page read of an awl was for (R214, R252, R293, R523). -/
inductive ReadFor where
  /-- the fill of a last -/
  | fill (last : Nat)
  /-- step 4 of an activation of a platform -/
  | activation (p : Nat)
  /-- a mirror page of the partner's rejoin list -/
  | rejoin (page : Nat)
  deriving DecidableEq, Repr

/-- Who opens a digest context, a core or a VAMP channel, and the fault of the comparator where the context opened is compared at
once (R324, R334): none, or what both of its outputs show. -/
structure Opener where
  who : Nat
  cmpFault : Option Bool
  deriving DecidableEq, Repr

/-- What a core writes and in how many bytes (R15). -/
structure CoreData where
  value : Word
  width : Nat
  deriving DecidableEq, Repr

/-- The straps (R501) and what the power rails show at a start (R659). -/
structure Straps where
  unitId : Fin 8
  pairEn : Bool
  domainPairs : Fin 4
  /-- the welt banks in mV: VDDIO_H0 to H3, then VDDIO_F0 to F3 (R659) -/
  banks : List Nat
  deriving DecidableEq, Repr

/-- Which lease a lease expiry concerns (R290, R453). -/
inductive LeaseId where
  | platform (p : Nat)
  | firmware
  | pattern
  | certs
  deriving DecidableEq, Repr

/-- What arrives on the JTAG port (R645, R648). -/
inductive JtagOp where
  | bypass
  | idcode
  | samplePreload
  /-- bytes of a scan chain -/
  | chainRead (chain offset count : Nat)
  /-- CORE_DEBUG: halt, step, read a register, read a core SRAM word -/
  | halt (core : Nat)
  | step (core : Nat)
  | readRegister (core reg : Nat)
  | readSram (core addr : Nat)
  deriving DecidableEq, Repr

/-- The header of a ring frame as it arrives (R532, R540): port, sender, receiver, hops left, sequence. -/
structure RingHdr where
  port : Fin 4
  src : Fin 8
  dst : Nat
  hops : Nat
  seq : Nat
  deriving DecidableEq, Repr

/-- The commands of the Larir, one constructor per row of the command table. -/
inductive Instr where
  /-- STITCH_BOUNDARY (R54). -/
  | stitchBoundary (f : StitchFacts)
  /-- STITCH_COUNT_LO_READ (R55). -/
  | stitchCountLoRead (reader : Nat)
  /-- SCHEDULE_SWITCH (R78). -/
  | scheduleSwitch
  /-- READ (R98). -/
  | read (h : HostCmd) (r : ReadArgs)
  /-- FAST_READ (R98). -/
  | fastRead (h : HostCmd) (r : ReadArgs)
  /-- PROGRAM (R124). -/
  | program (h : HostCmd) (w : WriteArgs)
  /-- ERASE_4K (R98). -/
  | erase4K (h : HostCmd)
  /-- ERASE_32K (R167). -/
  | erase32K (h : HostCmd)
  /-- ERASE_64K (R167). -/
  | erase64K (h : HostCmd)
  /-- ERASE_CHIP (R154). -/
  | eraseChip (h : HostCmd)
  /-- WRITE_STATUS (R102). -/
  | writeStatus (h : HostCmd) (v : Byte)
  /-- WRITE_CONFIGURATION (R105). -/
  | writeConfiguration (h : HostCmd) (v : Byte)
  /-- ENTER_4BYTE_ADDRESS (R98). -/
  | enter4ByteAddress (h : HostCmd)
  /-- EXIT_4BYTE_ADDRESS (R98). -/
  | exit4ByteAddress (h : HostCmd)
  /-- CLEAR_FLAG_STATUS (R104). -/
  | clearFlagStatus (h : HostCmd)
  /-- READ_STATUS (R99). -/
  | readStatus (h : HostCmd) (len : Nat)
  /-- READ_FLAG_STATUS (R103). -/
  | readFlagStatus (h : HostCmd) (len : Nat)
  /-- READ_CONFIGURATION (R105). -/
  | readConfiguration (h : HostCmd) (len : Nat)
  /-- READ_ID (R107). -/
  | readId (h : HostCmd) (len : Nat)
  /-- READ_SFDP (R108). -/
  | readSfdp (h : HostCmd) (len : Nat)
  /-- RESET_ENABLE (R114). -/
  | resetEnable (h : HostCmd)
  /-- RESET (R114). -/
  | reset (h : HostCmd)
  /-- SUSPEND (R134). -/
  | suspend (h : HostCmd)
  /-- RESUME (R134). -/
  | resume (h : HostCmd)
  /-- SECURITY_REG_READ (R98). -/
  | securityRegRead (h : HostCmd) (len : Nat)
  /-- SECURITY_REG_PROGRAM (R98). -/
  | securityRegProgram (h : HostCmd) (w : WriteArgs)
  /-- SECURITY_REG_ERASE (R98). -/
  | securityRegErase (h : HostCmd)
  /-- WRITE_ENABLE (R102). -/
  | writeEnable (h : HostCmd)
  /-- WRITE_DISABLE (R102). -/
  | writeDisable (h : HostCmd)
  /-- VENDOR (R153). -/
  | vendor (h : HostCmd) (w : WriteArgs) (r : ReadArgs)
  /-- HRST_LOW (R115). -/
  | hrstLow (welt : Fin 64)
  /-- HRST_RISE (R115). -/
  | hrstRise (welt : Fin 64)
  /-- STATUS_POLL (R131). -/
  | statusPoll (eyelet : Nat) (status : Byte) (suspendReported : Bool)
  /-- EYELET_INIT (R135). -/
  | eyeletInit (eyelet : Nat) (id : Bytes)
  /-- BOOT_DONE (R285). -/
  | bootDone (p : Nat)
  /-- ACTIVATE_REQUEST (R293). -/
  | activateRequest (p : Nat)
  /-- MAILBOX_STATUS (R285). -/
  | mailboxStatus (p : Nat)
  /-- MEASURE_EXTEND (R285). -/
  | measureExtend (p : Nat)
  /-- ACTIVATION_COMMIT (R293). -/
  | activationCommit (p : Nat)
  /-- ACTIVATE_DEADLINE (R294). -/
  | activateDeadline (p : Nat)
  /-- FILL_JOB_START (R193). -/
  | fillJobStart (p : Nat)
  /-- LAST_HEADER_READ (R243). -/
  | lastHeaderRead (last : Nat) (header : Bytes)
  /-- LAST_HEADER_VERIFIED (R244). -/
  | lastHeaderVerified (last : Nat)
  /-- TABLE_STREAM_DONE (R249). -/
  | tableStreamDone (last : Nat) (table : Bytes) (cmpFault : Bool)
  /-- PAGE_READ_DONE (R252). -/
  | pageReadDone (what : ReadFor) (data : Bytes) (cmpFault : Bool)
  /-- PAGE_SEALED (R251). -/
  | pageSealed (welt : Fin 64)
  /-- PLATFORM_RELEASE (R278). -/
  | platformRelease (p : Nat)
  /-- PWRGD_HIGH (R275). -/
  | pwrgdHigh (p : Nat)
  /-- PWRGD_LOW (R279). -/
  | pwrgdLow (p : Nat)
  /-- DONE_RISE (R275). -/
  | doneRise (p : Nat)
  /-- BOOT_TIMER_EXPIRY (R275). -/
  | bootTimerExpiry (p : Nat)
  /-- LEASE_EXPIRY (R290). -/
  | leaseExpiry (which : LeaseId)
  /-- REFILL_START (R214). -/
  | refillStart (c : Fin 8)
  /-- REFILL_DONE (R214). -/
  | refillDone (c : Fin 8) (data : Bytes) (cmpFault : Bool)
  /-- SUSPECT_EXPIRY (R212). -/
  | suspectExpiry (c : Fin 8) (page : Nat)
  /-- SOLE_SELF_TEST_DONE (R221). -/
  | soleSelfTestDone (c : Fin 8) (trained : Bool) (failing : List Nat)
  /-- SOLE_APERTURE_READ (R44). -/
  | soleApertureRead (core : Nat) (offset : BitVec 28) (len : Nat) (bad : Bool)
  /-- HOT_REFRESH_CHANGE (R223). -/
  | hotRefreshChange (code : Nat)
  /-- COBBLER_JOB_START (R301). -/
  | cobblerJobStart (p : Nat)
  /-- COBBLER_SOURCE_VERIFIED (R302). -/
  | cobblerSourceVerified (p : Nat) (header : Bytes) (table : Bytes) (cmpFault : Bool)
  /-- RECOVERY_WAIT_EXPIRY (R301). -/
  | recoveryWaitExpiry (p : Nat)
  /-- COBBLER_READ (R304). -/
  | cobblerRead (p : Nat) (data : Bytes) (cmpFault : Bool)
  /-- COBBLER_ERASE (R304). -/
  | cobblerErase (p : Nat)
  /-- COBBLER_PROGRAM (R304). -/
  | cobblerProgram (p : Nat) (ready : Bool)
  /-- COBBLER_CHECK (R304). -/
  | cobblerCheck (p : Nat) (ready : Bool) (data : Bytes) (cmpFault : Bool)
  /-- WRITEBACK_START (R300). -/
  | writebackStart (p : Nat)
  /-- HEEL_RING_TAIL_WRITE (R478). -/
  | heelRingTailWrite (core : Nat) (value : Word)
  /-- HEEL_HOLD (R480). -/
  | heelHold
  /-- RETIRE_PLATFORM (R480). -/
  | retirePlatform
  /-- PHASE (R480). -/
  | phase
  /-- SLOT_MAP (R480). -/
  | slotMap
  /-- EXCLUDE (R280). -/
  | exclude
  /-- FILL_RUNNING (R480). -/
  | fillRunning
  /-- TABLE_SWITCH (R179). -/
  | tableSwitch
  /-- RETIRE (R621). -/
  | retire
  /-- MGMT_RESET (R480). -/
  | mgmtReset
  /-- DEVICE_RESET (R480). -/
  | deviceReset
  /-- TRIAL_CONFIRM (R459). -/
  | trialConfirm
  /-- SETTINGS_COMMIT (R464). -/
  | settingsCommit
  /-- STAGED_READY (R480). -/
  | stagedReady
  /-- PATTERN_FLAG (R480). -/
  | patternFlag
  /-- COPY_JOURNAL (R480). -/
  | copyJournal
  /-- FUSE_GATE (R424). -/
  | fuseGate
  /-- PATTERN_PARAMS (R480). -/
  | patternParams
  /-- SHANK (R480). -/
  | shank
  /-- QUIESCE (R491). -/
  | quiesce
  /-- HEEL_TIMER_SVC_WRITE (R485). -/
  | heelTimerSvcWrite (core : Nat) (value : Word)
  /-- HEEL_TIMER_EXPIRY (R487). -/
  | heelTimerExpiry
  /-- ARMED_SECOND_CLEAR (R487). -/
  | armedSecondClear
  /-- MANAGEMENT_RESET (R38). -/
  | managementReset
  /-- WARM_HAND_OVER (R451). -/
  | warmHandOver
  /-- COLD_POWER_ON (R657). -/
  | coldPowerOn (straps : Straps)
  /-- DEV_RST (R657). -/
  | devRst
  /-- ROOT_UNWRAP (R446). -/
  | rootUnwrap
  /-- FIRMWARE_COPY_UNIT (R455). -/
  | firmwareCopyUnit
  /-- HAND_OVER (R449). -/
  | handOver
  /-- TRIAL_DEADLINE (R457). -/
  | trialDeadline
  /-- FLOOR_RAISE (R461). -/
  | floorRaise (words : List (Nat × Nat))
  /-- PATTERN_CHOICE (R466). -/
  | patternChoice
  /-- PATTERN_LOAD (R599). -/
  | patternLoad
  /-- FRAME_RECEIVED (R554). -/
  | frameReceived (lace : Option (Fin 4)) (bytes : Bytes) (ended codeError : Bool)
  /-- DATA (R556). -/
  | data
  /-- ACK (R560). -/
  | ack
  /-- NAK (R560). -/
  | nak
  /-- TRAIN (R555). -/
  | train
  /-- REPLAY_TIMEOUT (R560). -/
  | replayTimeout
  /-- LINK_LOSS (R562). -/
  | linkLoss
  /-- LINK_RETRAIN (R552). -/
  | linkRetrain
  /-- LINK_KEEPALIVE (R558). -/
  | linkKeepalive
  /-- SESSION_EXPIRED (R571). -/
  | sessionExpired (ch : Nat)
  /-- HELLO (R567). -/
  | hello (ch : Nat)
  /-- SESSION_CLOSE (R571). -/
  | sessionClose (ch : Nat)
  /-- STATUS_GET_DEVICE (R574). -/
  | statusGetDevice (ch : Nat)
  /-- STATUS_GET_COMMAND (R580). -/
  | statusGetCommand (ch : Nat)
  /-- REG_READ (R682). -/
  | regRead (ch : Nat)
  /-- REG_WRITE (R685). -/
  | regWrite (ch : Nat)
  /-- LOG_DRAIN (R574). -/
  | logDrain (ch : Nat)
  /-- ATTEST (R77). -/
  | attest (ch : Nat)
  /-- STATEMENT_DONE (R396). -/
  | statementDone (id : Nat)
  /-- DOMAIN_ATTEST (R402). -/
  | domainAttest (ch : Nat)
  /-- DOMAIN_COLLECTION_END (R404). -/
  | domainCollectionEnd (job : Nat)
  /-- STAGE_OPEN (R297). -/
  | stageOpen (ch : Nat)
  /-- STAGE_DATA (R298). -/
  | stageData (ch : Nat)
  /-- STAGE_CLOSE (R299). -/
  | stageClose (ch : Nat)
  /-- STAGE_CLOSE_FIRMWARE (R454). -/
  | stageCloseFirmware (ch : Nat)
  /-- STAGE_CLOSE_PATTERN (R467). -/
  | stageClosePattern (ch : Nat)
  /-- STAGE_CLOSE_CERTS (R468). -/
  | stageCloseCerts (ch : Nat)
  /-- STAGE_ABORT (R572). -/
  | stageAbort (ch : Nat)
  /-- PLATFORM_CTL_HOLD (R309). -/
  | platformCtlHold (ch : Nat)
  /-- PLATFORM_CTL_REFILL (R309). -/
  | platformCtlRefill (ch : Nat)
  /-- PLATFORM_CTL_RECOVER (R309). -/
  | platformCtlRecover (ch : Nat)
  /-- UPDATE_OPEN (R288). -/
  | updateOpen (ch : Nat)
  /-- UPDATE_CLOSE (R309). -/
  | updateClose (ch : Nat)
  /-- PLATFORM_CTL_RETIRE (R309). -/
  | platformCtlRetire (ch : Nat)
  /-- PLATFORM_CTL_QUIESCE (R579). -/
  | platformCtlQuiesce (ch : Nat)
  /-- KEY_IMPORT (R367). -/
  | keyImport (ch : Nat)
  /-- KEY_REPLACE (R367). -/
  | keyReplace (ch : Nat)
  /-- KEY_DESTROY (R367). -/
  | keyDestroy (ch : Nat)
  /-- KEY_INFO (R362). -/
  | keyInfo (ch : Nat)
  /-- DIGEST_RUN (R578). -/
  | digestRun (ch : Opener)
  /-- DGST_OPEN (R320). -/
  | dgstOpen (core : Opener)
  /-- DGST_FEED (R326). -/
  | dgstFeed (core : Nat) (c : Fin 64)
  /-- DGST_FINISH (R329). -/
  | dgstFinish (core : Nat) (c : Fin 64)
  /-- DGST_CLOSE (R332). -/
  | dgstClose (core : Nat) (c : Fin 64)
  /-- DIGEST_DONE (R333). -/
  | digestDone (c : Fin 64) (fault : Option Bool)
  /-- FUSE_READ (R432). -/
  | fuseRead (ch : Nat)
  /-- FUSE_SHADOW_SET (R422). -/
  | fuseShadowSet (ch : Nat)
  /-- FUSE_PROGRAM (R425). -/
  | fuseProgram (ch : Nat)
  /-- FUSE_LOCK (R430). -/
  | fuseLock (ch : Nat)
  /-- LIFECYCLE_ADVANCE (R431). -/
  | lifecycleAdvance (ch : Nat)
  /-- FUSE_PROGRAM_DONE (R429). -/
  | fuseProgramDone (tight loose lockTight lockLoose : Nat)
  /-- FUSE_PROGRAM_ENV (R428). -/
  | fuseProgramEnv (tight loose : Nat)
  /-- SWAP (R539). -/
  | swap (ch : Nat)
  /-- SWAP_RESULT (R539). -/
  | swapResult
  /-- SOLO (R539). -/
  | solo (ch : Nat)
  /-- SOLO_CLEAR (R539). -/
  | soloClear (ch : Nat)
  /-- FREEZE_READ (R644). -/
  | freezeRead (ch : Nat)
  /-- DEBUG_TOKEN (R647). -/
  | debugToken (ch : Nat)
  /-- SHANK_RELEASE_SEEN (R507). -/
  | shankReleaseSeen (aHigh bHigh : Bool)
  /-- CLAIM_START (R514). -/
  | claimStart (aHigh bHigh : Bool)
  /-- CLAIM_SECOND_LINE (R514). -/
  | claimSecondLine (secondHigh : Bool)
  /-- CLAIM_CONFIRM (R516). -/
  | claimConfirm (low3 : Bool)
  /-- SHANK_DISAGREE (R508). -/
  | shankDisagree (aHigh bHigh : Bool)
  /-- SHANK_READBACK_FAULT (R506). -/
  | shankReadbackFault (aHigh bHigh : Bool)
  /-- HEARTBEAT_SEND (R534). -/
  | heartbeatSend
  /-- HEARTBEAT (R535). -/
  | heartbeat (port : Fin 4) (frameOk : Bool) (payload : Bytes)
  /-- LACE_PORT_LOST (R536). -/
  | lacePortLost (port : Fin 4)
  /-- LACE_PORT_TRAINED (R530). -/
  | lacePortTrained (port : Fin 4) (ok : Bool)
  /-- PORT_KEY (R533). -/
  | portKey (port : Fin 4) (key : Bytes)
  /-- STATE (R520). -/
  | state (records : List (Nat × Bytes))
  /-- MIRROR (R527). -/
  | mirror (seq : Nat) (isFlag : Bool) (index value : Nat)
  /-- MIRROR_ACK (R527). -/
  | mirrorAck (seq : Nat)
  /-- MIRROR_REPEAT (R528). -/
  | mirrorRepeat
  /-- MIRROR_TIMEOUT (R528). -/
  | mirrorTimeout
  /-- SNAPSHOT (R530). -/
  | snapshot (flags counters : List Nat) (seq : Nat)
  /-- PAGE_CHECK (R521). -/
  | pageCheck (last page readNo : Nat) (digest : Digest)
  /-- ANSWER_CHECK (R524). -/
  | answerCheck (welt : Fin 64) (addr : BitVec 32) (stitch : Nat) (ownCopyBad partnerCopyBad : Bool)
  /-- REJOIN (R523). -/
  | rejoin (pages : List Nat)
  /-- DRILL (R513). -/
  | drill (stitch : Nat)
  /-- KEY_XFER (R531). -/
  | keyXfer (payload : Bytes)
  /-- DOMAIN_STATE (R541). -/
  | domainState (r : RingHdr) (role : Nat) (debug : Bool) (lead : Nat)
  /-- DOMAIN_STATE_SEND (R534). -/
  | domainStateSend
  /-- MEMBER_REQ (R403). -/
  | memberReq (r : RingHdr) (nonce : Bytes) (mask : Nat) (certs : Bool)
  /-- MEMBER_RESP (R405). -/
  | memberResp (r : RingHdr) (nonce : Bytes) (status code : Nat) (statement : Bytes)
  /-- SENSOR_TRIP (R614). -/
  | sensorTrip (sensor : Fin 64) (code : Nat)
  /-- ENV_EXCURSION (R610). -/
  | envExcursion (sensor : Fin 4) (code : Nat)
  /-- SCUTTLE_FUSE_BLOW (R617). -/
  | scuttleFuseBlow (tight loose lockTight lockLoose : Nat)
  /-- FATAL_FAULT (R622). -/
  | fatalFault (cause : Nat)
  /-- FREEZE_REQUEST (R638). -/
  | freezeRequest
  /-- MAINPG_FALL (R662). -/
  | mainpgFall
  /-- MAINPG_RISE (R662). -/
  | mainpgRise
  /-- WAKE (R493). -/
  | wake (cause : Nat)
  /-- MAIN_POWER_TIMEOUT (R663). -/
  | mainPowerTimeout
  /-- REGISTER_WRITE (R11). -/
  | registerWrite (core : Nat) (addr : Word) (value : CoreData)
  /-- VAMP_LANE_LOCK (R552). -/
  | vampLaneLock (lane : Fin 2)
  /-- UPDATE_POINT_OPERATION_DONE (R573). -/
  | updatePointOperationDone (ident : Nat)
  /-- JTAG_INSTRUCTION (R645). -/
  | jtagInstruction (op : JtagOp)
  /-- DOMAIN_MEMBER_SILENT (R541). -/
  | domainMemberSilent (unit : Fin 8)
  deriving DecidableEq, Repr

end Sys2Proof
end

