-- ==== Sys2Proof/Decode.lean ====
section
/-!
DEFINITION. The words of spec/opcode_table.json. The table gives none of its rows any bits: a command of this block is an event
on a bus, a link or a pin, and is no word. So no word spells a command.
-/
namespace Sys2Proof

/-- The command that a word spells by the table's bits: none, since the table gives no row bits. -/
def decodeTableWord (_nbits _w : Nat) : Option Instr := none

end Sys2Proof
end

