-- ==== Sys2Proof/Machine/Codes.lean ====
section
/-!
DEFINITION. The status codes of R691 to R697, each under the name the index gives it.
-/
namespace Sys2Proof.Machine.Code

/-- OK: carried out (R17). -/
abbrev ok : Nat := 0x0000
/-- BUSY: refused at once; nothing changed (R18). -/
abbrev busy : Nat := 0x0001
/-- PATTERN_SCHEDULE_OVERFLOW: schedule check failed (R605). -/
abbrev patternScheduleOverflow : Nat := 0x0101
/-- PATTERN_ZERO_FIELD: forbidden 0 (R605). -/
abbrev patternZeroField : Nat := 0x0102
/-- PATTERN_FORMAT_BAD: header, directory, order or reserved field (R605). -/
abbrev patternFormatBad : Nat := 0x0103
/-- PATTERN_SIGNATURE_BAD: owner signature fails (R605). -/
abbrev patternSignatureBad : Nat := 0x0104
/-- PATTERN_OWNER_UNKNOWN: signer not in bank 3 (R605). -/
abbrev patternOwnerUnknown : Nat := 0x0105
/-- PATTERN_RANGE_BAD: out of range or beyond variant (R605). -/
abbrev patternRangeBad : Nat := 0x0106
/-- PATTERN_LAYOUT_BAD: cross-reference or placement (R605). -/
abbrev patternLayoutBad : Nat := 0x0107
/-- PATTERN_WINDOW_BAD: clicker load check (R605). -/
abbrev patternWindowBad : Nat := 0x0108
/-- PATTERN_TIMING_BAD: dummy, pass-through or heel period (R605). -/
abbrev patternTimingBad : Nat := 0x0109
/-- LAST_SIGNATURE_BAD: last signature fails (R263). -/
abbrev lastSignatureBad : Nat := 0x0201
/-- PAGE_DIGEST_MISMATCH: same wrong digest three times (R263). -/
abbrev pageDigestMismatch : Nat := 0x0202
/-- ROLLBACK_REJECTED: version below class counter (R263). -/
abbrev rollbackRejected : Nat := 0x0203
/-- LAST_FORMAT_BAD: header format (R263). -/
abbrev lastFormatBad : Nat := 0x0204
/-- LAST_FIELD_BAD: header field disagrees with entry (R263). -/
abbrev lastFieldBad : Nat := 0x0205
/-- LAST_ANCHOR_UNKNOWN: signer not an anchor (R263). -/
abbrev lastAnchorUnknown : Nat := 0x0206
/-- TABLE_DIGEST_MISMATCH: block digest table wrong (R263). -/
abbrev tableDigestMismatch : Nat := 0x0207
/-- PAGE_READ_UNSTABLE: three reads disagree (R263). -/
abbrev pageReadUnstable : Nat := 0x0208
/-- VERIFY_COMPARE_FAULT: comparators disagree (R263). -/
abbrev verifyCompareFault : Nat := 0x0209
/-- BOOT_SET_INCOMPLETE: boot-set last not latched (R310). -/
abbrev bootSetIncomplete : Nat := 0x0301
/-- PLATFORM_QUARANTINED: held; no good source (R310). -/
abbrev platformQuarantined : Nat := 0x0302
/-- PLATFORM_RETIRED: platform RETIRED (R310). -/
abbrev platformRetired : Nat := 0x0303
/-- PHASE_REFUSED: not permitted now (R310). -/
abbrev phaseRefused : Nat := 0x0304
/-- MAILBOX_FORMAT_BAD: command block malformed (R310). -/
abbrev mailboxFormatBad : Nat := 0x0305
/-- NO_RECOVERY_SOURCE: no source passed (R310). -/
abbrev noRecoverySource : Nat := 0x0306
/-- PLATFORM_DEGRADED: released with exclusions (R310). -/
abbrev platformDegraded : Nat := 0x0307
/-- EPOCH_EXHAUSTED: no new fill epoch (R310). -/
abbrev epochExhausted : Nat := 0x0308
/-- KEY_CORRUPT: record check fails (R374). -/
abbrev keyCorrupt : Nat := 0x0401
/-- KEY_ORPHANED: parent or root changed (R374). -/
abbrev keyOrphaned : Nat := 0x0402
/-- KEY_USAGE_DENIED: wrong usage (R374). -/
abbrev keyUsageDenied : Nat := 0x0403
/-- KEY_SLOT_RESERVED: slot 0–15 or above 1,279 (R374). -/
abbrev keySlotReserved : Nat := 0x0404
/-- KEY_SLOT_OCCUPIED: import to a full slot (R374). -/
abbrev keySlotOccupied : Nat := 0x0405
/-- KEY_SLOT_EMPTY: no key (R374). -/
abbrev keySlotEmpty : Nat := 0x0406
/-- KEY_CHECK_FAILED: check value differs (R374). -/
abbrev keyCheckFailed : Nat := 0x0407
/-- KEY_UNWRAP_FAILED: blob does not open (R374). -/
abbrev keyUnwrapFailed : Nat := 0x0408
/-- KEY_FORM_BAD: blob, depth or parent rule (R374). -/
abbrev keyFormBad : Nat := 0x0409
/-- KEY_GEN_EXHAUSTED: generation counter full (R374). -/
abbrev keyGenExhausted : Nat := 0x040A
/-- KEY_STORE_SCUTTLED: SCUTTLED (R374). -/
abbrev keyStoreScuttled : Nat := 0x040B
/-- KEY_LIFECYCLE_DENIED: form not permitted (R374). -/
abbrev keyLifecycleDenied : Nat := 0x040C
/-- DIGEST_BUSY: no context or FEED queue full (R340). -/
abbrev digestBusy : Nat := 0x0501
/-- DIGEST_SHORT: FINISH before declared bytes (R340). -/
abbrev digestShort : Nat := 0x0502
/-- DIGEST_COMPARE_FAULT: comparators disagree (R340). -/
abbrev digestCompareFault : Nat := 0x0503
/-- DIGEST_LENGTH_BAD: declared or FEED length (R340). -/
abbrev digestLengthBad : Nat := 0x0504
/-- DIGEST_NOT_OWNER: not the owner (R340). -/
abbrev digestNotOwner : Nat := 0x0505
/-- DIGEST_MISMATCH: values unequal (R340). -/
abbrev digestMismatch : Nat := 0x0506
/-- DIGEST_SOURCE_BAD: FEED outside permitted regions (R340). -/
abbrev digestSourceBad : Nat := 0x0507
/-- DIGEST_DEST_BAD: illegal combination or child slot (R340). -/
abbrev digestDestBad : Nat := 0x0508
/-- DIGEST_STATE_BAD: wrong context state (R340). -/
abbrev digestStateBad : Nat := 0x0509
/-- FRAME_LENGTH_MISMATCH: length against symbols (R584). -/
abbrev frameLengthMismatch : Nat := 0x0601
/-- SESSION_REQUIRED: needs a session (R584). -/
abbrev sessionRequired : Nat := 0x0602
/-- FRAME_CRC_BAD: CRC fails (R584). -/
abbrev frameCrcBad : Nat := 0x0603
/-- FRAME_SEQ_GAP: out of sequence (R584). -/
abbrev frameSeqGap : Nat := 0x0604
/-- VAMP_OPCODE_UNKNOWN: unknown opcode (R584). -/
abbrev vampOpcodeUnknown : Nat := 0x0605
/-- VAMP_BODY_BAD: body wrong (R584). -/
abbrev vampBodyBad : Nat := 0x0606
/-- VAMP_TAG_IN_USE: tag still running (R584). -/
abbrev vampTagInUse : Nat := 0x0607
/-- VAMP_REG_DENIED: REG_WRITE not permitted (R584). -/
abbrev vampRegDenied : Nat := 0x0608
/-- HELLO_KEY_UNKNOWN: adapter key refused (R584). -/
abbrev helloKeyUnknown : Nat := 0x0609
/-- SESSION_TAG_BAD: sealed frame fails (R584). -/
abbrev sessionTagBad : Nat := 0x060A
/-- SESSION_EXPIRED: session idle (R584). -/
abbrev sessionExpired : Nat := 0x060B
/-- LINK_REPLAY: frame replayed (R584). -/
abbrev linkReplay : Nat := 0x060C
/-- LINK_DOWN: link lost (R584). -/
abbrev linkDown : Nat := 0x060D
/-- PARTNER_LOST: no partner heartbeat (R544). -/
abbrev partnerLost : Nat := 0x0701
/-- SHANK_DISAGREE: lines disagree (R544). -/
abbrev shankDisagree : Nat := 0x0702
/-- SHADOW_MISMATCH: page digests differ (R544). -/
abbrev shadowMismatch : Nat := 0x0703
/-- ANSWER_MISMATCH: host burst differs (R544). -/
abbrev answerMismatch : Nat := 0x0704
/-- PAIR_NOT_READY: SWAP refused (R544). -/
abbrev pairNotReady : Nat := 0x0705
/-- CLAIM_YIELDED: odd unit yielded (R544). -/
abbrev claimYielded : Nat := 0x0706
/-- MIRROR_TIMEOUT: MIRROR unacknowledged (R544). -/
abbrev mirrorTimeout : Nat := 0x0707
/-- PATTERN_DIFFERS: patterns differ (R544). -/
abbrev patternDiffers : Nat := 0x0708
/-- LACE_PORT_DOWN: port lost or retired (R544). -/
abbrev lacePortDown : Nat := 0x0709
/-- STRAP_CONFLICT: straps inconsistent (R544). -/
abbrev strapConflict : Nat := 0x070A
/-- TAKEOVER: became ACTIVE (R544). -/
abbrev takeover : Nat := 0x070B
/-- SWAP_FAILED: partner did not take over (R544). -/
abbrev swapFailed : Nat := 0x070C
/-- DUAL_ACTIVE: both units ACTIVE (R544). -/
abbrev dualActive : Nat := 0x070D
/-- NO_FIT_UNIT: released while unfit (R544). -/
abbrev noFitUnit : Nat := 0x070E
/-- TAMPER_CLEAR: CLEAR carried out (R631). -/
abbrev tamperClear : Nat := 0x0801
/-- CHANNEL_RETIRED: item retired (R631). -/
abbrev channelRetired : Nat := 0x0802
/-- TAMPER_LOGGED: trip at level LOG (R631). -/
abbrev tamperLogged : Nat := 0x0803
/-- TAMPER_SCUTTLED: SCUTTLE carried out (R631). -/
abbrev tamperScuttled : Nat := 0x0804
/-- SCUTTLE_PENDING: awaits VFPROG (R631). -/
abbrev scuttlePending : Nat := 0x0805
/-- ENV_EXCURSION: temperature range left or regained (R631). -/
abbrev envExcursion : Nat := 0x0806
/-- FATAL_FAULT: fatal fault (R631). -/
abbrev fatalFault : Nat := 0x0807
/-- FATAL_REPEAT: RESCUE after repeated fatals (R631). -/
abbrev fatalRepeat : Nat := 0x0808
/-- FAULT_PERMANENT: threshold reached (R631). -/
abbrev faultPermanent : Nat := 0x0809
/-- EYELET_STUCK: eyelet busy too long (R631). -/
abbrev eyeletStuck : Nat := 0x080A
/-- LOG_RECORDS_LOST: FIFO dropped records (R631). -/
abbrev logRecordsLost : Nat := 0x080B
/-- FREEZE_ACTIVE: frozen (R651). -/
abbrev freezeActive : Nat := 0x080C
/-- FREEZE_CHAIN_DENIED: chain not readable (R651). -/
abbrev freezeChainDenied : Nat := 0x080D
/-- DEBUG_TOKEN_BAD: token refused (R651). -/
abbrev debugTokenBad : Nat := 0x080E
/-- FREEZE_ENTERED: freeze preceded start (R651). -/
abbrev freezeEntered : Nat := 0x080F
/-- FREEZE_NOT_ACTIVE: not frozen (R651). -/
abbrev freezeNotActive : Nat := 0x0810
/-- IO_BANK_VOLTAGE_BAD: welt bank voltage (R679). -/
abbrev ioBankVoltageBad : Nat := 0x0811
/-- MAIN_POWER_TIMEOUT: MAINPG late at wake (R679). -/
abbrev mainPowerTimeout : Nat := 0x0812
/-- MAIN_POWER_LOST: MAINPG fell (R679). -/
abbrev mainPowerLost : Nat := 0x0813
/-- SOLE_SECTOR_FAILED: sole sector failed; page refilled (R631). -/
abbrev soleSectorFailed : Nat := 0x0814
/-- FUSE_MARGINAL: TIGHT and LOOSE differ (R433). -/
abbrev fuseMarginal : Nat := 0x0901
/-- FUSE_BANK_INCOMPLETE: bank invalid or unlocked (R433). -/
abbrev fuseBankIncomplete : Nat := 0x0902
/-- FUSE_WORD_DENIED: target not permitted (R433). -/
abbrev fuseWordDenied : Nat := 0x0903
/-- FUSE_LOCKED: bank locked (R433). -/
abbrev fuseLocked : Nat := 0x0904
/-- FUSE_PROGRAM_ENV: VFPROG or temperature (R433). -/
abbrev fuseProgramEnv : Nat := 0x0905
/-- FUSE_PROGRAM_FAILED: bit not blown (R433). -/
abbrev fuseProgramFailed : Nat := 0x0906
/-- FUSE_LOCK_CONFLICT: CHECK conflicts (R433). -/
abbrev fuseLockConflict : Nat := 0x0907
/-- STAGING_LEASE_HELD: lease held by another (R311). -/
abbrev stagingLeaseHeld : Nat := 0x0A01
/-- TRIAL_FALLBACK: trial not confirmed (R470). -/
abbrev trialFallback : Nat := 0x0A02
/-- LEASE_EXPIRED: lease idle (R311). -/
abbrev leaseExpired : Nat := 0x0A03
/-- STAGE_LENGTH_BAD: length mismatch (R311). -/
abbrev stageLengthBad : Nat := 0x0A04
/-- ACTIVATE_DEADLINE: commit not reached (R311). -/
abbrev activateDeadline : Nat := 0x0A05
/-- SLOT_VERIFY_FAILED: slot or bundle fails (R311). -/
abbrev slotVerifyFailed : Nat := 0x0A06
/-- FLIP_PENDING: flip not in force (R311). -/
abbrev flipPending : Nat := 0x0A07
/-- STAGE_CAPACITY: staging area too small (R311). -/
abbrev stageCapacity : Nat := 0x0A08
/-- FW_IMAGE_BAD: firmware image fails (R470). -/
abbrev fwImageBad : Nat := 0x0A09
/-- FW_ROLLBACK: firmware below floor (R470). -/
abbrev fwRollback : Nat := 0x0A0A
/-- SEQUENCE_STALE: sequence not newer (R470). -/
abbrev sequenceStale : Nat := 0x0A0B
/-- RESCUE_ACTIVE: ROM in RESCUE (R470). -/
abbrev rescueActive : Nat := 0x0A0C
/-- APPLY_REFUSED: reset not granted (R470). -/
abbrev applyRefused : Nat := 0x0A0D
/-- SETTINGS_REJECTED: settings area fails (R470). -/
abbrev settingsRejected : Nat := 0x0A0E
/-- NO_PATTERN: no pattern chosen (R470). -/
abbrev noPattern : Nat := 0x0A0F
/-- DIRECTORY_BAD: directory fails (R470). -/
abbrev directoryBad : Nat := 0x0A10
/-- STITCH_OVERRUN: step overran (R85). -/
abbrev stitchOverrun : Nat := 0x0B01
/-- TIMING_FAULT_PERMANENT: three overruns (R85). -/
abbrev timingFaultPermanent : Nat := 0x0B02
/-- HEEL_TIMER_EXPIRED: no service (R495). -/
abbrev heelTimerExpired : Nat := 0x0B03
/-- HEEL_SERVICE_EARLY: early or repeated service (R495). -/
abbrev heelServiceEarly : Nat := 0x0B04
/-- HEEL_SERVICE_BAD: wrong service value (R495). -/
abbrev heelServiceBad : Nat := 0x0B05
/-- HEEL_REQUEST_BAD: malformed ring request (R495). -/
abbrev heelRequestBad : Nat := 0x0B06
/-- HEEL_EVIDENCE_MISSING: evidence absent (R495). -/
abbrev heelEvidenceMissing : Nat := 0x0B07

end Sys2Proof.Machine.Code
end

