-- ==== Sys2Proof/Config.lean ====
section
/-!
DEFINITION. What the spec leaves to outside standards, to the implementation or open: uninterpreted constants with no
body, so no proof can lean on a value of them. Each is named in the assumption log.
-/
namespace Sys2Proof.Config
open Sys2Proof

/-- SM3 of GB/T 32905 on a message that is not empty (R324 gives the empty one). Log entry 1. -/
opaque sm3 : Bytes → Digest

/-- SM2 verification of GB/T 32918 under the identifier of R239: key (x then y), message, signature (r then s),
for r and s in range. Log entry 1. -/
opaque sm2Verify : Bytes → Bytes → Bytes → Bool

/-- The order n of the recommended curve (R239). Log entry 1. -/
opaque sm2Order : Nat

/-- An SM2 signature made with a secret key over a message, with a drawn value. Log entry 1. -/
opaque sm2Sign : Nat → Bytes → Nat → Bytes

/-- The SM2 public key (x then y) of a secret key. Log entry 1. -/
opaque sm2Public : Nat → Bytes

/-- The point (x then y) lies on the recommended curve. Log entry 1. -/
opaque sm2OnCurve : Bytes → Bool

/-- The shared key of an SM2 key agreement: own secrets (long-term, ephemeral), the peer's keys (long-term, ephemeral),
context bytes. Log entry 1. -/
opaque sm2Agree : Nat → Nat → Bytes → Bytes → Bytes → BitVec 256

/-- The first 16 bytes of the KDF of GB/T 32918 over x ‖ y of secret key times point (R364). Log entry 1. -/
opaque sm2Kdf : Nat → Bytes → BitVec 128

/-- The SM2 secret scalar's ephemeral public key and S_B of GB/T 32918.3: own secret, drawn value, the peer's static and
ephemeral keys, identities. Log entry 1. -/
opaque sm2Confirm : Nat → Nat → Bytes → Bytes → Bytes → Bytes

/-- The public keys (x then y) under which a signature on a message can verify: what a request that carries a signature and
no key is checked against (R427, R431). Log entry 1. -/
opaque sm2Recover : Bytes → Bytes → List Bytes

/-- SM4 of GB/T 32907 on one 16-byte block. Log entry 1. -/
opaque sm4Block : BitVec 128 → BitVec 128 → BitVec 128

/-- CRC-32 of a run of bytes, the polynomial the spec names. Log entry 1. -/
opaque crc32 : Bytes → Word

/-- The value the hardware leaves open at its `n`-th open point: random draws, scan-chain contents and the like. Log entry 2. -/
opaque free : Nat → BitVec 256

/-- The bytes JESD216F fixes that the spec does not give, for a presented device's table address (R108, R109).
Arguments: address, the bits of the record the field depends on. Log entry 3. -/
opaque jesd216 : Nat → Bytes → Byte

/-- The keystream that encrypts the material of a stored half: bytes 0 to 15 of slot 2, slot, half index, OWN_GEN (R354
gives what the counter block holds and not its layout). Log entry 1. -/
opaque storeStream : BitVec 128 → Nat → Nat → Nat → BitVec 256

/-- The opcode of a read on the flash port, by the eyelet's MODE: the spec does not give it. Log entry 42. -/
opaque flashReadOp : Nat → Byte

/-- The keystream that wraps epoch keys and volatile slots under slot 3 in retention SRAM (R227, R373 name the key and not
the format): slot 3, place. Log entry 76. -/
opaque wrapStream : Digest → Nat → BitVec 256

/-- The running firmware can parse a settings area (R458; the format is the firmware's own). Log entry 86. -/
opaque settingsParse : Bytes → Bool

/-- The device's PUF-derived key. Log entry 6. -/
opaque pufKey : Digest

/-- A root unwrapped from its 32 fuse bytes with the PUF-derived key (R446). Log entry 6. -/
opaque pufUnwrap : Bytes → Digest

/-- TEST_ROOT, a constant in ROM (R369). Log entry 6. -/
opaque testRoot : Digest

/-- The boot ROM's words (R40, R420). Log entry 6. -/
opaque romWord : Nat → Word

/-- The SM2 subject public key (x then y) of the leaf of a DER certificate chain, none where it holds none (R398). Log
entry 1. -/
opaque leafKey : Bytes → Option Bytes

/-- The die stepping, wired, starting at 0x01 (R47). Log entry 4. -/
opaque dieStep : Byte

end Sys2Proof.Config
end

