-- ==== Sys2Proof/Machine/Bits.lean ====
section
/-!
DEFINITION. Byte order (R14: big-endian), bit fields, saturating counts, and the sparse tables in which the model
keeps everything that exists once per welt, page, platform, slot and so on.
-/
namespace Sys2Proof.Machine
open Sys2Proof

/-- The value of a big-endian run of bytes (R14). -/
def beNat (bs : Bytes) : Nat := bs.foldl (fun a b => a * 256 + b.toNat) 0

/-- `n` as `len` big-endian bytes (R14); higher bits are dropped. -/
def natBE : Nat → Nat → Bytes
  | 0, _ => []
  | len + 1, n => BitVec.ofNat 8 (n / 256 ^ len) :: natBE len n

/-- The `len` bytes at byte offset `off`. -/
def bytesAt (bs : Bytes) (off len : Nat) : Bytes := (bs.drop off).take len

/-- The big-endian field of `len` bytes at byte offset `off`. -/
def fieldAt (bs : Bytes) (off len : Nat) : Nat := beNat (bytesAt bs off len)

/-- All of the bytes are zero. -/
def allZero (bs : Bytes) : Bool := bs.all (· == 0)

/-- Bits `hi` down to `lo` of a value. -/
def bitsOf (n hi lo : Nat) : Nat := (n >>> lo) % 2 ^ (hi + 1 - lo)

/-- A flag as the value of its one bit. -/
def b2n (b : Bool) : Nat := if b then 1 else 0

/-- `n + 1`, staying at `lim`. -/
def satInc (lim n : Nat) : Nat := if n < lim then n + 1 else lim

/-- `n + k`, staying at `lim`. -/
def satAdd (lim n k : Nat) : Nat := min lim (n + k)

/-- Division rounded up; 0 when the divisor is 0. -/
def ceilDiv (a b : Nat) : Nat := if b = 0 then 0 else (a + b - 1) / b

/-- A digest as 32 bytes. -/
def digestBytes (d : Digest) : Bytes := natBE 32 d.toNat

/-- The bytes of a digest field. -/
def digestOfBytes (bs : Bytes) : Digest := BitVec.ofNat 256 (beNat bs)

/-- `n` copies of a byte. -/
def fill (n : Nat) (b : Byte) : Bytes := List.replicate n b

/-- `n` bytes of all-ones. -/
def ones (n : Nat) : Bytes := fill n 0xFF

/-- `bs` cut or padded with `b` to exactly `n` bytes. -/
def fit (n : Nat) (b : Byte) (bs : Bytes) : Bytes := bs.take n ++ fill (n - bs.length) b

/-- The indices of the bits set in the low `n` bits of `m`, ascending. -/
def bitList (n m : Nat) : List Nat := (List.range n).filter (fun i => m.testBit i)

/-- The mask of a list of bit numbers. -/
def maskOf (l : List Nat) : Nat := l.foldl (fun a i => a ||| (1 <<< i)) 0

/-- A sparse table: keys strictly rising, no entry equal to the table's default value. -/
abbrev Tbl (α : Type) := List (Nat × α)

/-- What entry `k` of the table reads as; `d` is what an unlisted entry reads as. -/
def tget {α : Type} (d : α) : Tbl α → Nat → α
  | [], _ => d
  | (a, v) :: t, k => if k = a then v else tget d t k

/-- The table with entry `k` listed as `v`, keys kept rising. -/
def tput {α : Type} : Tbl α → Nat → α → Tbl α
  | [], k, v => [(k, v)]
  | (a, w) :: t, k, v =>
    if k < a then (k, v) :: (a, w) :: t
    else if k = a then (k, v) :: t
    else (a, w) :: tput t k v

/-- The table with entry `k` unlisted. -/
def terase {α : Type} : Tbl α → Nat → Tbl α
  | [], _ => []
  | (a, w) :: t, k => if k = a then terase t k else (a, w) :: terase t k

/-- The table with entry `k` made `v`, in canonical form. -/
def tset {α : Type} [DecidableEq α] (d : α) (t : Tbl α) (k : Nat) (v : α) : Tbl α :=
  if v = d then terase t k else tput t k v

/-- Entry `k` changed by `f`. -/
def tmod {α : Type} [DecidableEq α] (d : α) (t : Tbl α) (k : Nat) (f : α → α) : Tbl α :=
  tset d t k (f (tget d t k))

/-- Every listed entry changed by `f`, in canonical form. -/
def tmapAll {α : Type} [DecidableEq α] (d : α) (t : Tbl α) (f : Nat → α → α) : Tbl α :=
  (t.map (fun e => (e.1, f e.1 e.2))).filter (fun e => e.2 ≠ d)

/-- The listed entry, if there is one. -/
def tfind {α : Type} : Tbl α → Nat → Option α
  | [], _ => none
  | (a, v) :: t, k => if k = a then some v else tfind t k

/-- The keys are strictly rising from above `lo`. -/
def keysRise {α : Type} : Option Nat → Tbl α → Bool
  | _, [] => true
  | none, (a, _) :: t => keysRise (some a) t
  | some l, (a, _) :: t => decide (l < a) && keysRise (some a) t

/-- The canonical form of a table whose unlisted entries read as `d`. -/
def twf {α : Type} [DecidableEq α] (d : α) (t : Tbl α) : Bool :=
  keysRise none t && t.all (fun e => decide (e.2 ≠ d))

/-- An addressed memory: a list of `Host.Cell`s, an unlisted byte reading as the memory's blank byte. -/
abbrev Memory := Tbl Byte

/-- The byte at an address of a memory whose unlisted bytes read as `d`. -/
def Memory.read (d : Byte) (m : Memory) (a : Nat) : Byte := tget d m a

/-- One byte written. -/
def Memory.write (d : Byte) (m : Memory) (a : Nat) (b : Byte) : Memory := tset d m a b

/-- The `n` bytes from address `a`. -/
def Memory.readN (d : Byte) (m : Memory) (a n : Nat) : Bytes :=
  (List.range n).map (fun i => Memory.read d m (a + i))

/-- A run of bytes written from address `a`. -/
def Memory.writeN (d : Byte) : Memory → Nat → Bytes → Memory
  | m, _, [] => m
  | m, a, b :: bs => Memory.writeN d (Memory.write d m a b) (a + 1) bs

/-- The canonical form of a memory. -/
abbrev Memory.wf (d : Byte) (m : Memory) : Bool := twf d m

end Sys2Proof.Machine
end

