-- ==== Sys2Proof/Machine/Gcm.lean ====
section
/-!
DEFINITION. SM4-GCM (R195, R354, R569, R534): counter mode and GHASH over the SM4 block of Config, as the GCM standard
builds them (log entry 1).
-/
namespace Sys2Proof.Machine
open Sys2Proof

/-- One step of the product in GF(2^128): the bit of `x`, the running sum and the shifted factor. -/
def gfStep (x : BitVec 128) (a : BitVec 128 × BitVec 128) (i : Nat) : BitVec 128 × BitVec 128 :=
  (if x.getMsbD i then a.1 ^^^ a.2 else a.1,
   if a.2.getLsbD 0 then (a.2 >>> 1) ^^^ 0xE1000000000000000000000000000000#128 else a.2 >>> 1)
/-- The product of GCM's field. -/
def gfMul (x y : BitVec 128) : BitVec 128 := ((List.range 128).foldl (gfStep x) (0, y)).1

/-- Block `i` of a message, filled up with zeros. -/
def gcmBlock (m : Bytes) (i : Nat) : BitVec 128 := BitVec.ofNat 128 (beNat (fit 16 0 (bytesAt m (16 * i) 16)))
/-- The blocks of a message. -/
def gcmBlocks (m : Bytes) : List (BitVec 128) := (List.range (ceilDiv m.length 16)).map (gcmBlock m)
/-- GHASH of the additional data and the ciphertext. -/
def ghash (h : BitVec 128) (aad c : Bytes) : BitVec 128 :=
  (gcmBlocks aad ++ gcmBlocks c ++ [BitVec.ofNat 128 (8 * aad.length * 2 ^ 64 + 8 * c.length)]).foldl
    (fun y b => gfMul (y ^^^ b) h) 0

/-- Counter block `i` of a 96-bit nonce, enciphered. -/
def gcmCounter (k : BitVec 128) (nonce i : Nat) : BitVec 128 :=
  Config.sm4Block k (BitVec.ofNat 128 (nonce * 2 ^ 32 + i))
/-- Byte `i` of the keystream. -/
def gcmStream (k : BitVec 128) (nonce i : Nat) : Byte :=
  BitVec.ofNat 8 ((gcmCounter k nonce (2 + i / 16)).toNat / 256 ^ (15 - i % 16))
/-- A message under the keystream; the same operation takes it off. -/
def gcmXor (k : BitVec 128) (nonce : Nat) (m : Bytes) : Bytes := m.zipIdx.map (fun x => x.1 ^^^ gcmStream k nonce x.2)
/-- The 16-byte tag of a ciphertext. -/
def gcmTag (k : BitVec 128) (nonce : Nat) (aad c : Bytes) : Bytes :=
  natBE 16 (ghash (Config.sm4Block k 0) aad c ^^^ gcmCounter k nonce 1).toNat

/-- SM4-GCM sealing: key, 96-bit nonce, additional data, plaintext; ciphertext then 16-byte tag. -/
def sm4Seal (k : BitVec 128) (nonce : Nat) (aad m : Bytes) : Bytes :=
  gcmXor k nonce m ++ gcmTag k nonce aad (gcmXor k nonce m)
/-- SM4-GCM opening of a ciphertext and its tag; none when the tag fails. -/
def sm4Open (k : BitVec 128) (nonce : Nat) (aad b : Bytes) : Option Bytes :=
  let c := b.take (b.length - 16)
  if b.length < 16 || b.drop (b.length - 16) ≠ gcmTag k nonce aad c then none else some (gcmXor k nonce c)

end Sys2Proof.Machine
end

