-- ==== Sys2Proof/Machine/Records.lean ====
section
/-!
DEFINITION. The records of a pattern image as the machine holds them once parsed (16 R592 to R597, 03 R111, 06 R240,
02 R63), and the names of states, phases and classes.
-/
namespace Sys2Proof.Machine
open Sys2Proof

/-- The custody states of R269. -/
inductive Custody where
  | held | filling | verified | released | running | recovering | quarantined | retired
  deriving DecidableEq, Repr

/-- The phases of R270. -/
inductive Phase where
  | held | boot | runtime | update
  deriving DecidableEq, Repr

/-- The page states of R199. -/
inductive PageState where
  | empty | valid | refill | lost
  deriving DecidableEq, Repr

/-- The 16 command classes of R146. -/
inductive Cls where
  | read | fastRead | program | erase4K | erase32K | erase64K | eraseChip | writeStatus
  | readStatus | readId | readSfdp | reset | suspendResume | securityReg | writeEnable | vendor
  deriving DecidableEq, Repr

/-- The window actions of R156. -/
inductive Action where
  | deny | passR | passRW | sole | slotmap | mailbox | update
  deriving DecidableEq, Repr

/-- The tamper levels of R612, in ascending order. -/
inductive Level where
  | log | clear | scuttle
  deriving DecidableEq, Repr

/-- The DEVICE record (R592). -/
structure DeviceRec where
  heelPeriod : Nat := 0
  tamperLevel : Nat := 0
  freezePermit : Bool := false
  quiescePermit : Nat := 0
  anchors : List Digest := []
  eraseMax : Nat := 0
  programMax : Nat := 0
  deriving DecidableEq, Repr

/-- One entry of the THRESHOLD record (R593); the values without a pattern are R619's. -/
structure ThrRec where
  consecutive : Nat := 3
  count : Nat := 16
  window : Nat := 1000000
  deriving DecidableEq, Repr

/-- An EYELET record (R594). -/
structure EyeletRec where
  mode : Nat := 0
  clock : Nat := 0
  sizePages : Nat := 0
  flashDummy : Nat := 0
  idLen : Nat := 0
  statusOp : Byte := 0
  busyBit : Nat := 0
  pfailBit : Option Nat := none
  efailBit : Option Nat := none
  id : Bytes := []
  resetRecovery : Nat := 0
  tErase4K : Nat := 0
  tErase32K : Nat := 0
  tErase64K : Nat := 0
  tProgram : Nat := 0
  init : List Bytes := []
  deriving DecidableEq, Repr

/-- One segment of a presented device (R111). -/
structure Segment where
  pdStart : Nat := 0
  pageCount : Nat := 0
  eyeletA : Nat := 0
  eyeletB : Option Nat := none
  flashPageA : Nat := 0
  flashPageB : Nat := 0
  solePage : Option Nat := none
  deriving DecidableEq, Repr

/-- A PRESENTED record (R595) but for its directory fields, which live in the CLICK block. -/
structure PdRec where
  sizeLog2 : Nat := 0
  modes : Nat := 0
  powerupMode : Nat := 0
  powerupAddr4 : Bool := false
  clockMax : Nat := 0
  dummy : Nat := 0
  id : Bytes := []
  segments : List Segment := []
  deriving DecidableEq, Repr

/-- A last entry of a PLATFORM record (R240, R597). -/
structure LastEntry where
  entry : Nat := 0
  pd : Nat := 0
  segment : Nat := 0
  boot : Bool := false
  imageClass : Nat := 0
  lastEyelet : Nat := 0
  golden : Option Nat := none
  pageA : Nat := 0
  pageB : Option Nat := none
  pageG : Option Nat := none
  areaPages : Nat := 0
  deriving DecidableEq, Repr

/-- A staging entry of a PLATFORM record (R597). -/
structure StageEntry where
  welt : Nat := 0
  first : Nat := 0
  frames : Nat := 0
  deriving DecidableEq, Repr

/-- A PLATFORM record (R596, R273). -/
structure PlatRec where
  pwrgdUse : Bool := false
  doneUse : Bool := false
  cobblerEn : Bool := false
  runDegraded : Bool := false
  runtimeLossHold : Bool := false
  updateEn : Bool := false
  adapterHold : Bool := false
  runBlind : Bool := false
  welts : List Nat := []
  bootTimer : Nat := 0
  recoveryWait : Nat := 0
  lasts : List LastEntry := []
  anchors : List Digest := []
  staging : List StageEntry := []
  deriving DecidableEq, Repr

/-- A pattern as accepted: its records by number, and what identifies the image. -/
structure Pattern where
  digest : Digest := 0
  signer : Nat := 0
  sequence : Nat := 0
  slot : Nat := 0
  device : DeviceRec := {}
  thresholds : List ThrRec := []
  eyelets : Tbl EyeletRec := []
  pds : Tbl PdRec := []
  plats : Tbl PlatRec := []
  /-- policy digests of its platforms (R390) -/
  policy : Tbl Digest := []
  deriving DecidableEq, Repr

/-- A schedule bank: the rows of R63, each 64 bytes as loaded. -/
structure Sched where
  rows : List Bytes := []
  deriving DecidableEq, Repr

/-- The code of a custody state (R269). -/
def Custody.code : Custody → Nat
  | .held => 0 | .filling => 1 | .verified => 2 | .released => 3
  | .running => 4 | .recovering => 5 | .quarantined => 6 | .retired => 7

/-- The code of a phase (R270). -/
def Phase.code : Phase → Nat
  | .held => 0 | .boot => 1 | .runtime => 2 | .update => 3

/-- The code of a page state (R231). -/
def PageState.code : PageState → Nat
  | .empty => 0 | .valid => 1 | .refill => 2 | .lost => 3

/-- The code of a command class (R146). -/
def Cls.code : Cls → Nat
  | .read => 0 | .fastRead => 1 | .program => 2 | .erase4K => 3 | .erase32K => 4 | .erase64K => 5
  | .eraseChip => 6 | .writeStatus => 7 | .readStatus => 8 | .readId => 9 | .readSfdp => 10 | .reset => 11
  | .suspendResume => 12 | .securityReg => 13 | .writeEnable => 14 | .vendor => 15

/-- The class of a code (R146). -/
def Cls.ofCode : Nat → Cls
  | 0 => .read | 1 => .fastRead | 2 => .program | 3 => .erase4K | 4 => .erase32K | 5 => .erase64K
  | 6 => .eraseChip | 7 => .writeStatus | 8 => .readStatus | 9 => .readId | 10 => .readSfdp | 11 => .reset
  | 12 => .suspendResume | 13 => .securityReg | 14 => .writeEnable | _ => .vendor

/-- The action of a code (R156); 7 to 15 are illegal. -/
def Action.ofCode : Nat → Option Action
  | 0 => some .deny | 1 => some .passR | 2 => some .passRW | 3 => some .sole | 4 => some .slotmap
  | 5 => some .mailbox | 6 => some .update | _ => none

/-- The code of a tamper level (R633). -/
def Level.code : Level → Nat
  | .log => 0 | .clear => 1 | .scuttle => 3

/-- The level of a code; 2 is not issued and reads as the stricter level (R412's restrictive direction). -/
def Level.ofCode : Nat → Level
  | 0 => .log | 1 => .clear | _ => .scuttle

/-- The fields of a window entry (R155, R156), read from its 16 bytes. -/
abbrev WindowWord := BitVec 128

/-- START bits [18:0]. -/
def winStart (w : WindowWord) : Nat := bitsOf w.toNat 114 96
/-- START bits [31:19]. -/
def winStartRsv (w : WindowWord) : Nat := bitsOf w.toNat 127 115
/-- LENGTH. -/
def winLength (w : WindowWord) : Nat := bitsOf w.toNat 83 64
/-- ACTION code. -/
def winActionCode (w : WindowWord) : Nat := bitsOf w.toNat 87 84
/-- ACTION; an illegal code, which no accepted table holds, denies. -/
def winAction (w : WindowWord) : Action := (Action.ofCode (winActionCode w)).getD .deny
/-- PHASE_MASK. -/
def winPhases (w : WindowWord) : Nat := bitsOf w.toNat 91 88
/-- LOG. -/
def winLog (w : WindowWord) : Bool := w.toNat.testBit 92
/-- SPAN bits [31:29]. -/
def winSpanRsv (w : WindowWord) : Nat := bitsOf w.toNat 95 93
/-- CLASS_MASK. -/
def winClasses (w : WindowWord) : Nat := bitsOf w.toNat 63 48
/-- COUNTER. -/
def winCounter (w : WindowWord) : Nat := bitsOf w.toNat 47 32
/-- TAG. -/
def winTag (w : WindowWord) : Nat := bitsOf w.toNat 31 0
/-- The window covers a page (R156). -/
def winCovers (w : WindowWord) (p : Nat) : Bool := winStart w ≤ p && p < winStart w + winLength w

/-- Fields of an opcode-map word (R147). -/
def omEn (w : Word) : Bool := w.getLsbD 0
/-- CLASS. -/
def omCls (w : Word) : Cls := Cls.ofCode (bitsOf w.toNat 4 1)
/-- OCTAL. -/
def omOctal (w : Word) : Bool := w.getLsbD 5
/-- QUAD. -/
def omQuad (w : Word) : Bool := w.getLsbD 6
/-- ADDR. -/
def omAddr (w : Word) : Nat := bitsOf w.toNat 10 8
/-- DUMMY. -/
def omDummy (w : Word) : Nat := bitsOf w.toNat 15 11
/-- DIR. -/
def omDir (w : Word) : Nat := bitsOf w.toNat 17 16
/-- WIDTH. -/
def omWidth (w : Word) : Nat := bitsOf w.toNat 19 18
/-- MAXLEN. -/
def omMaxLen (w : Word) : Nat := bitsOf w.toNat 28 20
/-- WEL_REQ. -/
def omWelReq (w : Word) : Bool := w.getLsbD 29

/-- The directory words of a presented device (R186, R187): LIST, CFG and BARE. -/
structure DirRec where
  list : Word := 0
  cfg : Word := 0
  bare : Word := 0
  deriving DecidableEq, Repr

/-- FIRST. -/
def DirRec.first (d : DirRec) : Nat := bitsOf d.list.toNat 17 0
/-- COUNT. -/
def DirRec.count (d : DirRec) : Nat := bitsOf d.cfg.toNat 15 0
/-- OPMAP. -/
def DirRec.opmap (d : DirRec) : Nat := bitsOf d.cfg.toNat 18 16
/-- DEFAULT_LOG. -/
def DirRec.defaultLog (d : DirRec) : Bool := d.cfg.getLsbD 19
/-- BARE_LOG. -/
def DirRec.bareLog (d : DirRec) : Bool := d.cfg.getLsbD 20
/-- BARE_EYELET, none for 0xFF. -/
def DirRec.bareEyelet (d : DirRec) : Option Nat :=
  let e := bitsOf d.cfg.toNat 28 21
  if e = 0xFF then none else some e
/-- BARE_MASK. -/
def DirRec.bareMask (d : DirRec) : Nat := bitsOf d.bare.toNat 15 0

/-- The code of S8 for channel `c` in channel cycle `k` of a row (R63). -/
def rowS8 (r : Bytes) (c k : Nat) : Nat := bitsOf (fieldAt r (3 * c) 3) (2 * k + 1) (2 * k)
/-- AWL_GRANT of welt `n`, in units of 40 bytes (R63). -/
def rowAwl (r : Bytes) (n : Nat) : Nat :=
  let b := fieldAt r (24 + n / 2) 1
  if n % 2 = 0 then b / 16 else b % 16
/-- PE_OWNER of point engine `e` (R63). -/
def rowPe (r : Bytes) (e : Nat) : Nat := bitsOf (fieldAt r 56 2) (15 - 4 * e) (12 - 4 * e)
/-- DG_OWNER of digest core `k` (R63). -/
def rowDg (r : Bytes) (k : Nat) : Nat :=
  if k = 0 then fieldAt r 58 1 / 16 else fieldAt r 58 1 % 16
/-- COB_GRANT of quarter `q` (R63). -/
def rowCob (r : Bytes) (q : Nat) : Bool := (fieldAt r 59 1).testBit q
/-- LOG_GRANT (R63). -/
def rowLog (r : Bytes) : Bool := (fieldAt r 60 1).testBit 0

/-- The channel of a welt (R25). -/
def weltChannel (n : Nat) : Nat := 2 * (n / 16) + n % 2
/-- The quarter of a welt (R25). -/
def weltQuarter (n : Nat) : Nat := n / 16
/-- The read slot of a welt (R25). -/
def weltSlot (n : Nat) : Nat := (n % 16) / 2
/-- The awl of a welt (R25). -/
def weltAwl (n : Nat) : Nat := 4 * (n / 16) + (n % 16) / 4

end Sys2Proof.Machine
end

