-- ==== Sys2Proof/Machine/Types.lean ====
section
/-!
DEFINITION. What State is made of, block by block: the stitch, the welts, the clicker, the sole, the latches, custody,
the cobbler, faults, sensors and the event log (chapters 01 to 07 and 17).
-/
namespace Sys2Proof.Machine
open Sys2Proof

/-- The STITCH block (R54 to R91, R77). -/
structure StitchSt where
  /-- the 64-bit counter of R54 -/
  count : Nat := 0
  /-- COUNT_HI as latched, one per reader (R55, R683): 0-3 MC0-MC3, 4 HC, 8 and up a VAMP session -/
  hiLatch : Tbl Word := []
  active : Sched := {}
  loading : Sched := {}
  switchPending : Bool := false
  checkNo : Nat := 0
  checkRow : Nat := 0
  checkFailed : Bool := false
  ovrCount : Nat := 0
  ovrSource : Nat := 0
  ovrPermanent : Bool := false
  ovrAt : Nat := 0
  /-- stitches of the overruns inside the window of R84 -/
  ovrTimes : List Nat := []
  busyCount : Nat := 0
  unboundCount : Nat := 0
  /-- ledger_end of R77, one per point engine -/
  ledgerEnd : List Nat := [0, 0, 0, 0]
  deriving DecidableEq, Repr

/-- A page read of the fill path waiting in a welt's fill buffer to be sealed (R61, R251). -/
structure BufPage where
  last : Nat := 0
  page : Nat := 0
  mirror : Nat := 0
  data : Bytes := []
  left : Nat := 16
  /-- PAGE_SEALED has taken the page; it leaves the buffer once its last sector is drained -/
  sealed : Bool := false
  deriving DecidableEq, Repr

/-- One welt (R92 to R145). -/
structure WeltSt where
  hrstLow : Bool := false
  late : Nat := 0
  cross : Nat := 0
  unmapped : Nat := 0
  discarded : Nat := 0
  retired : Bool := false
  /-- bytes granted to the flash-side read in progress (R66) -/
  credit : Nat := 0
  /-- bytes of the stitch's grant that the cobbler has (R66, R704) -/
  cobTook : Nat := 0
  /-- the fill buffer, at most two pages (R61) -/
  buf : List BufPage := []
  /-- the read slot is lent to the welt's own fill writes (R58) -/
  lent : Bool := false
  /-- the digest sector the fill sequencer holds opened: its index in the channel, its 256 bytes (R250) -/
  dsec : Option (Nat × Bytes) := none
  deriving DecidableEq, Repr

/-- The emulated state of one presented device (R102 to R106) and its clicker counts (R174, R177). -/
structure PdSt where
  mode : Nat := 0
  addr4 : Bool := false
  wel : Bool := false
  bp : Nat := 0
  srwd : Bool := false
  prot : Bool := false
  pfail : Bool := false
  efail : Bool := false
  psusp : Bool := false
  esusp : Bool := false
  /-- 0x66 was the latest command on the chip select (R114) -/
  armed : Bool := false
  defaultDeny : Nat := 0
  suppressed : Nat := 0
  /-- stitch of the latest CLICK_DENY record (R177) -/
  lastRec : Option Nat := none
  /-- the page of its MAILBOX window (R157, R282) -/
  mailbox : Tbl Byte := []
  deriving DecidableEq, Repr

/-- The kinds of operation the Larir forwards to an eyelet (R619). -/
inductive FwdKind where
  | program | erase4K | erase32K | erase64K | vendor
  deriving DecidableEq, Repr

/-- A forwarded operation an eyelet is busy with. -/
structure FwdOp where
  kind : FwdKind
  pd : Nat
  start : Nat
  /-- a suspend has been forwarded and is not yet reported (R134) -/
  suspendSent : Bool := false
  /-- the stuck limit of R619 has been counted -/
  stuck : Bool := false
  deriving DecidableEq, Repr

/-- Where an eyelet stands in R135. -/
inductive EyePhase where
  | inReset | pulse (until_ : Nat) | recovery (until_ : Nat) | ready
  deriving DecidableEq, Repr

/-- One eyelet (R131 to R138, R144). -/
structure EyeSt where
  phase : EyePhase := .inReset
  busy : Option FwdOp := none
  suspended : List FwdOp := []
  /-- stitch of the latest status read (R131) -/
  polled : Option Nat := none
  idBad : Bool := false
  idRead : Bool := false
  retired : Bool := false
  /-- the reset goes low once the eyelet is seen not busy (R24) -/
  resetWhenIdle : Bool := false
  deriving DecidableEq, Repr

/-- The CLICK block (R181 to R188). -/
structure ClickSt where
  loaded : Bool := false
  switchPending : Bool := false
  switches : Nat := 0
  checkNo : Nat := 0
  checkEntry : Nat := 0
  checkFailed : Bool := false
  records : Nat := 0
  suppressed : Nat := 0
  dirA : Tbl DirRec := []
  dirL : Tbl DirRec := []
  mapA : Tbl Word := []
  mapL : Tbl Word := []
  winA : Tbl WindowWord := []
  winL : Tbl WindowWord := []
  allow : Tbl Nat := []
  deny : Tbl Nat := []
  deriving DecidableEq, Repr

/-- The descriptor of a mirror page (R199) and the frame that stores it. -/
structure PageDesc where
  state : PageState := .empty
  /-- the spare frame that stores the page, when its own frame is retired -/
  spare : Option Nat := none
  /-- the page's frame was retired and no spare was free: the page has no frame (R199, R219) -/
  noFrame : Bool := false
  deriving DecidableEq, Repr

/-- The refill a channel's sequencer works on (R214, R216). -/
structure Refill where
  page : Nat
  welt : Nat
  /-- bytes granted to its flash-side read so far (R66) -/
  credit : Nat := 0
  /-- the digest entry, once its digest sector is read and opened (R214, step 1) -/
  digest : Option Digest := none
  /-- its page digest has matched (R214, step 5) -/
  matched : Bool := false
  /-- its sectors not yet written in an S8 slot (R214, step 4) -/
  left : Nat := 16
  deriving DecidableEq, Repr

/-- One sole channel (R212, R216, R219, R222, R232, R233). -/
structure ChanSt where
  up : Bool := false
  down : Bool := false
  exhausted : Bool := false
  fails : Nat := 0
  refills : Nat := 0
  passes : Nat := 0
  corrected : Nat := 0
  lineErrors : Nat := 0
  rescues : Nat := 0
  suspects : List (Nat × Nat) := []
  queue : List Nat := []
  running : Option Refill := none
  /-- frames retired since the device start, by the heel or by the self-test -/
  retired : List Nat := []
  /-- spare frames in use -/
  spares : List Nat := []
  /-- pages whose frame has become a permanent fault and is not yet retired (R213) -/
  permanent : List Nat := []
  /-- the self-test of this device start, or the retraining of this wake, has ended (R221, R493) -/
  tested : Bool := false
  /-- the channel came over quiescent-keep: its start is a retraining (R493); the model's own field -/
  kept : Bool := false
  /-- pages that failed in the stitch now running (R211) -/
  failedNow : List Nat := []
  /-- S8 round robin: the channel welt index served last (R59) -/
  rr : Nat := 0
  /-- S9 round robin of the fills' digest-sector reads (R224) -/
  digestRR : Nat := 0
  /-- an aperture read has had its S9 slot of the stitch now running (R224) -/
  aperUsed : Bool := false
  /-- where scrub goes on: channel byte address / 272 (R225) -/
  scrub : Nat := 0
  deriving DecidableEq, Repr

/-- The SOLE block and the mirror (R189 to R234). -/
structure SoleSt where
  pages : Tbl PageDesc := []
  /-- the raw DRAM of the channels: byte `a` of channel `c` at c * 2^32 + a (R189) -/
  raw : Memory := []
  epochKey : Tbl (Option (BitVec 128)) := []
  /-- epoch keys wrapped under slot 3 in always-on retention SRAM (R227) -/
  wrapped : Tbl (Option (BitVec 128)) := []
  epoch : Tbl Nat := []
  chans : Tbl ChanSt := []
  /-- tread cache lines, by welt * 64 + set: mirror sector and its opened bytes, most recently used first (R207) -/
  tread : Tbl (List (Nat × Bytes)) := []
  hotRefresh : Bool := false
  /-- the refresh rate the next boundary brings in (R223) -/
  hotNext : Option Bool := none
  badFound : Nat := 0
  persistDropped : Bool := false
  /-- platforms told EPOCH_EXHAUSTED -/
  exhaustedTold : List Nat := []
  deriving DecidableEq, Repr

/-- STAGE of a latch record (R266). -/
inductive LatchStage where
  | idle | header | signature | table | pages | latched | failed
  deriving DecidableEq, Repr

/-- The source a fill reads (R266). -/
inductive Source where
  | a | b | golden | staged
  deriving DecidableEq, Repr

/-- The latch record of one last (R256). -/
structure Latch where
  stage : LatchStage := .idle
  source : Source := .a
  code : Nat := 0
  header : Bytes := []
  /-- check 1 passed, so that SECURITY_VERSION reads from the header (R267) -/
  formatOk : Bool := false
  /-- checks 1 to 9 all passed -/
  verdict : Bool := false
  /-- none while no table has been compared in this epoch -/
  tableOk : Option Bool := none
  /-- the table has streamed in this epoch, to its end or to an overrun, and is not read again (R249) -/
  tableRead : Bool := false
  matched : Tbl Bool := []
  written : Tbl Bool := []
  bad : List Nat := []
  latched : Bool := false
  deriving DecidableEq, Repr

/-- A point-engine operation in progress or waiting (R67, R705). -/
structure PeOp where
  /-- 1 fill, 2 cobbler, 3 attestation, 4 update (R63) -/
  owner : Nat
  /-- which operation of the owner: last index, platform, or command number -/
  ident : Nat
  engine : Option Nat := none
  steps : Nat
  /-- steps of the whole operation, for a restart from the first step -/
  total : Nat
  /-- OP of R688: 1 verification, 2 signature, 3 recomputation -/
  op : Nat := 1
  /-- the first stitch in which a step of it may run (R77) -/
  start : Nat := 0
  deriving DecidableEq, Repr

/-- The POINT block (20 R688). -/
structure PointSt where
  ops : List PeOp := []
  done : Tbl Nat := []
  aborted : Tbl Nat := []
  deriving DecidableEq, Repr

/-- A fill job of a platform (R193, R197, R254). -/
structure FillJob where
  /-- entries not yet started, ascending -/
  todo : List Nat := []
  /-- the entry being verified -/
  cur : Option Nat := none
  /-- pages of the current last still to judge, ascending -/
  pages : List Nat := []
  /-- digests of the reads of the page being judged -/
  reads : List Digest := []
  /-- only listed and LOST pages are judged again (R254) -/
  again : Bool := false
  /-- a fill of a running platform (R197) -/
  onRunning : Bool := false
  /-- stopped by a management reset until firmware restarts it (R38) -/
  stopped : Bool := false
  /-- the page or the table that was in progress at the reset still completes (R38, R262) -/
  finishing : Bool := false
  deriving DecidableEq, Repr

/-- Who holds a lease (R288). -/
inductive Holder where
  | host
  /-- a VAMP session, by the adapter key that opened it -/
  | session (key : Digest)
  deriving DecidableEq, Repr

/-- What a platform's VAMP lease was opened for (R297). -/
inductive StagePurpose where
  | slot | recovery
  deriving DecidableEq, Repr

/-- The staging lease of a platform (R288 to R291, R297, R298). -/
structure Lease where
  holder : Holder := .host
  purpose : StagePurpose := .slot
  mask : Nat := 0
  length : Nat := 0
  number : Nat := 0
  key : BitVec 128 := 0
  /-- pages received, by bundle page -/
  received : Tbl Bool := []
  lastData : Nat := 0
  /-- an expiry waits for a verification to end (R290) -/
  verifying : Bool := false
  deriving DecidableEq, Repr

/-- A verified bundle (R300, R301). -/
structure Bundle where
  mask : Nat := 0
  number : Nat := 0
  deriving DecidableEq, Repr

/-- An activation of the inactive slot (R293, R294). -/
structure Activation where
  seq : Nat := 0
  /-- the presented device whose mailbox asked for it -/
  pd : Nat := 0
  /-- a write-back's flip rather than a host's request -/
  writeback : Bool := false
  deadline : Nat := 0
  accepted : Nat := 0
  /-- slotted entries whose header is still to check (step 2) -/
  headers : List Nat := []
  /-- the header's table is still to stream (step 3), with its header -/
  table : Option (Nat × Bytes) := none
  /-- tables that matched, by entry: (header, table) -/
  tables : List (Nat × Bytes × Bytes) := []
  /-- entries whose pages are still to judge (step 4) -/
  pages : List Nat := []
  page : Nat := 0
  reads : List Digest := []
  /-- steps 1 to 4 have passed -/
  ready : Bool := false
  /-- the key under which its tables stand in the staging area (R195, R196) -/
  key : BitVec 128 := 0
  committed : Bool := false
  deriving DecidableEq, Repr

/-- The step codes of R304. -/
inductive CobStep where
  | read | erase | program | check
  deriving DecidableEq, Repr

/-- A cobbler job (R301 to R306, R704). -/
structure CobJob where
  entry : Nat := 0
  /-- source orders of R301 not yet tried -/
  orders : List Nat := [0, 1, 2]
  source : Nat := 0
  /-- the source's header once read, and its table once verified -/
  header : Bytes := []
  table : Bytes := []
  /-- the header has passed checks 8 and 9 -/
  signed : Bool := false
  verified : Bool := false
  whole : Bool := false
  /-- image pages still to rewrite, the current one first -/
  pages : List Nat := []
  /-- area pages still to rewrite, the current one first -/
  area : List Nat := []
  step : CobStep := .read
  /-- the page as read and judged -/
  data : Bytes := []
  reads : List Digest := []
  /-- 256-byte programs issued for the page -/
  programs : Nat := 0
  /-- the target is busy with the cobbler's own erase or program since this stitch -/
  busySince : Option Nat := none
  /-- CHECK has failed once (R304) -/
  retried : Bool := false
  started : Nat := 0
  /-- waiting for a staged source since this stitch (R301, order 3) -/
  waiting : Option Nat := none
  /-- bytes granted to its reads so far (R66, R69) -/
  credit : Nat := 0
  /-- the area as read back, for the check of R302 -/
  areaBack : Bytes := []
  /-- the last area page is written, and what was read back is being checked -/
  checking : Bool := false
  /-- the key under which the source's table stands in the staging area (R195, R196, R302) -/
  key : BitVec 128 := 0
  /-- SM3 of the page as read, for CHECK -/
  want : Digest := 0
  /-- a SLOT bundle's write-back rather than a repair (R300) -/
  writeback : Bool := false
  /-- entries of the bundle still to write back after this one -/
  more : List Nat := []
  /-- the order of queueing (R704) -/
  seq : Nat := 0
  /-- sectors of its table still to write in S8 slots (R59, R302) -/
  left : Nat := 0
  /-- where the journal of an interrupted job stood: SOURCE, KIND, AREA_PAGE, PAGE (R305, R306) -/
  resume : Option (Nat × Bool × Nat × Nat) := none
  deriving DecidableEq, Repr

/-- A VAMP command a later event has to answer: channel, TAG and opcode. -/
structure Origin where
  ch : Nat
  tag : Nat
  opcode : Nat
  deriving DecidableEq, Repr

/-- One platform's custody account (R269 to R315). -/
structure PlatSt where
  state : Custody := .held
  phase : Phase := .held
  hold : Bool := true
  pwrgd : Bool := false
  doneIn : Bool := false
  excluded : Nat := 0
  /-- the active slot in force in the welt's map: true for B -/
  map : Bool := false
  lease : Option Lease := none
  writeback : Option Bundle := none
  recovery : Option Bundle := none
  doneSeen : Bool := false
  bootDoneSeen : Bool := false
  timerSeen : Bool := false
  mailboxPending : Bool := false
  /-- firmware has posted the PHASE request for a latched event (R38, R480) -/
  phaseAsked : Bool := false
  releases : Nat := 0
  bootStart : Option Nat := none
  /-- command blocks taken and not yet answered, oldest first, each with the presented device of its mailbox (R283) -/
  mboxQueue : List (Nat × Bytes) := []
  measure : Digest := 0
  act : Option Activation := none
  fill : Option FillJob := none
  cob : Option CobJob := none
  /-- entries and LOST pages that wait for the next hold under RUNTIME_LOSS = 0 (R275) -/
  waitingLost : List (Nat × Nat) := []
  /-- entries for which the cobbler reported no good source (R280) -/
  noSource : Nat := 0
  /-- the heel's sample at this boundary met R278; released at the next -/
  releaseDue : Bool := false
  /-- a fill job in a new epoch is owed: after a whole-image repair, a REFILL, or for the non-boot lasts (R275) -/
  fillOwed : Bool := false
  /-- entries the cobbler has still to take up (R275) -/
  cobQueue : List Nat := []
  /-- those entries were queued from FILLING or a gated hold: a page repair continues the epoch (R275) -/
  cobSame : Bool := true
  /-- entries repaired at this recovery, to be judged again (R254) -/
  cobDone : List Nat := []
  /-- some repair of this recovery was of a whole image -/
  cobWhole : Bool := false
  /-- EXCLUDE requests for the failing entries have been posted (R275, R280) -/
  excludeAsked : Bool := false
  /-- the journal flag had RAISE_PENDING at hand-over, and its raises are still to be completed (R296) -/
  raiseOwed : Bool := false
  /-- entries whose header that completion has read and judged -/
  raised : Nat := 0
  /-- the header in hand for it, with its entry -/
  raising : Option (Nat × Bytes) := none
  /-- REFILL commands that are answered once the fill has begun (R309) -/
  refills : List Origin := []
  deriving DecidableEq, Repr

/-- A fault count of R619. -/
structure FaultRec where
  consecutive : Nat := 0
  times : List Nat := []
  total : Nat := 0
  permanent : Bool := false
  deriving DecidableEq, Repr

/-- A record waiting in the hardware event FIFO (R38, R70) and whether it was bound when made (R79). -/
structure FifoRec where
  bytes : Bytes
  bound : Bool
  deriving DecidableEq, Repr

/-- A record chained and waiting for delivery, or delivered and not acknowledged (R79). -/
structure Deliver where
  seq : Nat
  bound : Bool
  sent : Bool := false
  deriving DecidableEq, Repr

/-- The event FIFO and the log queue (R38, R70, R79, R627 to R629). -/
structure LogSt where
  fifo : List FifoRec := []
  /-- records the FIFO dropped since the last LOST record -/
  lost : Nat := 0
  deliver : List Deliver := []
  /-- H(n) of the records still kept, by n, from which LOG_DRAIN's CHAIN is answered (R574, R628); the model's own field -/
  heads : Tbl Digest := []
  deriving DecidableEq, Repr

/-- The ENV block (R608 to R635). -/
structure EnvSt where
  cleared : Bool := false
  refclkFallback : Bool := false
  trips : BitVec 64 := 0
  latest : Tbl Nat := []
  extreme : Tbl Nat := []
  hotOut : Bool := false
  fatalRepeat : Bool := false
  /-- the level already carried out since device start (R614) -/
  levelDone : Option Level := none
  /-- trips whose response is due: sensor, sample code, and the code of the level in force at the trip -/
  due : List (Nat × Nat × Nat) := []
  faults : Tbl FaultRec := []
  /-- awl compare faults since cold power-on (R268) -/
  compareFaults : Tbl Nat := []
  /-- a tamper SCUTTLE has blown LC_SCUTTLED since the device start: the key store is closed from then on (R372, R373) -/
  scuttled : Bool := false
  /-- what a fatal fault still has to do: cause, and 1 at the next boundary or 2 at the one after (R622) -/
  fatal : Option (Nat × Nat) := none
  deriving DecidableEq, Repr

end Sys2Proof.Machine
end

