-- ==== Sys2Proof/Machine/Types2.lean ====
section
/-!
DEFINITION. What State is made of, second part: system, heel, pair, shank and lace, what waits for the next boundary and
what leaves the block (chapters 00, 01, 13, 14).
-/
namespace Sys2Proof.Machine
open Sys2Proof

/-- The variants of R2. -/
inductive Variant where
  | tkl5120 | tkl2560 | tkl1280
  deriving DecidableEq, Repr

/-- The SYS block (R9, R47 to R49). -/
structure SysSt where
  variant : Variant := .tkl5120
  variantMarginal : Bool := false
  mgmtUp : Bool := false
  lastCause : Nat := 0
  mgmtResets : Nat := 0
  /-- stitch of a management reset whose MGMT record waits for the return (R39) -/
  resetOwed : Option Nat := none
  deriving DecidableEq, Repr

/-- One ring entry (R477); `origin` is the model's own note of the command it carries out. -/
structure RingEntry where
  state : Nat := 0
  req : Nat := 0
  core : Nat := 0
  tag : Nat := 0
  status : Nat := 0
  stitch : Nat := 0
  args : Bytes := []
  origin : Option Origin := none
  /-- the number of the host lease that the UPDATE_OPEN carried out by this PHASE request has taken, or 0 (R288, R480); the model's
  own note -/
  lease : Nat := 0
  deriving DecidableEq, Repr

/-- PATTERN_PARAMS accepted and waiting for its table switch (R480). -/
structure Params where
  period : Nat
  level : Nat
  freezePermit : Bool
  runBlind : Nat
  /-- its ring entry, whose STITCH the switch writes -/
  entry : Nat := 0
  deriving DecidableEq, Repr

/-- The power modes of R490. -/
inductive PowerMode where
  | on | keep | bare
  deriving DecidableEq, Repr

/-- The HEEL block (R474 to R500). -/
structure HeelSt where
  ring : Tbl RingEntry := []
  head : Nat := 0
  tail : Nat := 0
  full : Nat := 0
  /-- entries taken in the stitch now running (R479) -/
  taken : Nat := 0
  /-- firmware work waiting for room in the ring, oldest first (R703) -/
  waiting : List RingEntry := []
  startup : Bool := true
  /-- stitch of the first expiry while ARMED_SECOND is set (R487) -/
  armed : Option Nat := none
  period : Nat := 1000000
  /-- the period the next one takes (R483) -/
  nextPeriod : Option Nat := none
  chal : Word := 0
  /-- stitch at which the period began, or from which the first one begins (R484) -/
  began : Nat := 2
  /-- a service was accepted in the stitch now running -/
  serviced : Bool := false
  /-- the expiry of the stitch now running: its code -/
  expired : Option Nat := none
  /-- stitch of the latest expiry that a management reset answers (R487) -/
  expiredAt : Nat := 0
  /-- the action of an expiry that waits for a fuse pulse pair to complete (R494) -/
  owed : Option Nat := none
  expiries : Nat := 0
  early : Nat := 0
  bad : Nat := 0
  escalations : Nat := 0
  /-- TAMPER_LEVEL of the PATTERN_PARAMS in force, none before the first (R612) -/
  patLevel : Option Level := none
  freezePermit : Bool := false
  runBlind : Nat := 0
  params : Option Params := none
  /-- a TABLE_SWITCH taken and not yet carried out: its ring entry (R78, R179, R480) -/
  switchAsked : Option Nat := none
  wakeCause : Nat := 0
  wakeMode : Nat := 0
  entries : Nat := 0
  wakePeriod : Nat := 0
  /-- stitch of the quiescent entry -/
  asleepAt : Nat := 0
  mode : PowerMode := .on
  /-- HC runs: the timer started in stitch 1 of the device start (R482) -/
  handedOver : Bool := false
  deriving DecidableEq, Repr

/-- The roles of R503, and a unit that runs unpaired (R502). -/
inductive Role where
  | starting | standby | claiming | active | unpaired
  deriving DecidableEq, Repr

/-- One lace port (R533, R536, R538, R548). -/
structure LacePort where
  trained : Bool := false
  keyed : Bool := false
  lost : Bool := true
  retired : Bool := false
  crcErrors : Nat := 0
  lastHeard : Option Nat := none
  key : BitVec 128 := 0
  deriving DecidableEq, Repr

/-- What the partner's latest heartbeat said (R535). -/
structure PartnerView where
  ever : Bool := false
  heard : Nat := 0
  role : Nat := 0
  flags : Nat := 0
  lead : Nat := 0xFF
  mirrorSeq : Nat := 0
  pattern : Digest := 0
  shadowOk : Nat := 0
  deriving DecidableEq, Repr

/-- A record MIRROR carries (R526, R527). -/
inductive MirrorItem where
  | flag (p : Nat) (word : Nat)
  | counter (k : Nat) (value : Nat)
  deriving DecidableEq, Repr

/-- A MIRROR sent and not yet acknowledged (R527, R528). -/
structure MirrorMsg where
  item : MirrorItem
  seq : Nat
  first : Nat
  last : Nat
  deriving DecidableEq, Repr

/-- A domain member as last heard (R541, R542). -/
structure Member where
  ever : Bool := false
  heard : Nat := 0
  silent : Bool := true
  active : Bool := false
  debug : Bool := false
  lead : Nat := 0xFF
  deriving DecidableEq, Repr

/-- A claim in progress (R513, R514). -/
structure Claim where
  /-- the claim stitch c -/
  at_ : Nat
  /-- 0 waiting for c; 1 first line driven from c + 1; 2 both driven from c + 2 -/
  stage : Nat := 0
  deriving DecidableEq, Repr

/-- The pair, the shank and the lace (R501 to R548). -/
structure PairSt where
  role : Role := .unpaired
  unitId : Nat := 0
  pairEn : Bool := false
  domainPairs : Nat := 0
  strapConflict : Bool := false
  unfitRelease : Bool := false
  /-- an unpaired unit's welt outputs are disabled: device reset input, freeze, MAINPG fall (R638, R657, R662) -/
  outputsOff : Bool := false
  solo : Bool := false
  takeovers : Nat := 0
  aHigh : Bool := true
  bHigh : Bool := true
  /-- stitches in a row, up to the latest sample, with both lines high and with one of them, in a unit that is not ACTIVE (R507,
  R508), and those in which a line that the ACTIVE unit drives low has read high (R506) -/
  highRun : Nat := 0
  splitRun : Nat := 0
  readA : Nat := 0
  readB : Nat := 0
  driveA : Bool := false
  driveB : Bool := false
  /-- r of R507 while no line has been low since -/
  released : Option Nat := none
  claim : Option Claim := none
  drill : Option Nat := none
  disagree : Bool := false
  disagreeCount : Nat := 0
  noFitTold : Bool := false
  ports : Tbl LacePort := []
  partnerLost : Bool := true
  partner : PartnerView := {}
  mirrorSeq : Nat := 0
  mirrors : List MirrorMsg := []
  snapshotDone : Bool := false
  pageMismatch : Nat := 0
  answerMismatch : Nat := 0
  shadowRetired : List Nat := []
  /-- mirror pages this unit lacks and has still to ask for, and those it has asked for (R521, R523) -/
  rejoin : List Nat := []
  rejoinOut : List Nat := []
  /-- pages the partner asked for (R523) -/
  rejoinAsked : List Nat := []
  /-- PATTERN_DIFFERS has been reported for the present pair of digests -/
  differsTold : Bool := false
  members : Tbl Member := []
  lead : Option Nat := none
  /-- ring frames seen: sender and SEQ (R540) -/
  seen : List (Nat × Nat) := []
  frameSeq : Nat := 0
  /-- a SWAP waiting for its outcome: the command and the release stitch (R539) -/
  swap : Option (Origin × Nat) := none
  /-- page judgements of this unit and of its partner whose counterpart is still to come: last, page, read number, digest
  (R521); the model's own field -/
  ownReads : List (Nat × Nat × Nat × Digest) := []
  theirReads : List (Nat × Nat × Nat × Digest) := []
  /-- stitch of the latest HEARTBEAT sent (R534); the model's own field -/
  beatAt : Option Nat := none
  /-- the latest DOMAIN_STATE sent: stitch, role, debug, lead (R534); the model's own field -/
  domainSent : Option (Nat × Nat × Bool × Nat) := none
  deriving DecidableEq, Repr

/-- A change that takes effect at the next stitch boundary (R33). -/
inductive Deferred where
  /-- a page descriptor (R199) -/
  | page (m : Nat) (st : PageState)
  /-- the new epoch of a platform's fill job: number and key (R193, R194) -/
  | epoch (p number : Nat) (key : BitVec 128) (cause : Nat)
  /-- assert Pn_HOLD_N and enter a held state (R279) -/
  | hold (p : Nat) (next : Custody) (cause : Nat)
  /-- release Pn_HOLD_N (R278) -/
  | release (p : Nat)
  /-- a phase register (R270) -/
  | phase (p : Nat) (ph : Phase) (cause : Nat)
  /-- a custody state with the hold line as it is (R275) -/
  | custody (p : Nat) (next : Custody) (cause : Nat)
  /-- MAP from the journal flag (R170) -/
  | slotMap (p : Nat)
  /-- an EXCLUDED bit (R280) -/
  | exclude (p e : Nat)
  /-- a fill of a running platform's entry (R197) -/
  | fillRunning (p e : Nat)
  /-- window table, directory, opcode maps and schedule (R179) -/
  | tableSwitch
  /-- a channel's self-test has ended: trained, failing frames (R220, R221) -/
  | selfTest (c : Nat) (trained : Bool) (failing : List Nat)
  /-- a sole page's frame, an eyelet, a welt, a lace port (R621) -/
  | retireFrame (m : Nat)
  | retireEyelet (e : Nat)
  | retireWelt (n : Nat)
  | retirePort (k : Nat)
  /-- WIP clears after the read that showed the eyelet not busy (R131) -/
  | eyeletIdle (e : Nat) (pfail efail : Bool)
  /-- a heel request about BOOT_STATE, the pattern flag or the copy journal: its code and ARGS (R480) -/
  | heelWork (req : Nat) (args : Bytes)
  /-- management reset with a cause (R38) -/
  | mgmtReset (cause : Nat)
  /-- device reset -/
  | deviceReset
  /-- DEV_RST_N: shank released and outputs disabled, and one boundary later the reset itself (R657) -/
  | devRst (reset : Bool)
  /-- the active unit lets the shank go; true when R510 makes it unfit (R509) -/
  | shankRelease (unfit : Bool)
  /-- lines driven by a claim (R514) -/
  | shankDrive (a b : Bool)
  /-- role ACTIVE and the actions of R516 -/
  | takeover
  /-- a silent member stops counting as ACTIVE and its HEARD bit clears (R541) -/
  | silent (k : Nat)
  /-- quiescent entry: keep, wake period (R491) -/
  | quiesce (keep : Bool) (period : Nat)
  /-- a standby follows a platform of its partner's STATE message: the platform, its bytes (R520) -/
  | follow (p : Nat) (b : Bytes)
  /-- answer a VAMP command whose action has taken effect (R309) -/
  | respond (o : Origin) (code : Nat) (plat : Nat)
  /-- shadow words and entries the fuse controller rebuilt (R411, R422) -/
  | fuseShadow
  /-- root switch after a debug token or a change of the domain root (R370, R371) -/
  | rootSwitch
  deriving DecidableEq, Repr

/-- What leaves the block, in order. -/
inductive Output where
  /-- bytes driven on a welt's host port from the first data beat -/
  | host (welt : Nat) (data : Bytes)
  /-- the welt's host-side outputs stay at high impedance for the transaction -/
  | hostHiZ (welt : Nat)
  /-- one transaction on an eyelet's flash port: opcode, address if any, data -/
  | flash (eyelet : Nat) (opcode : Byte) (addr : Option Nat) (data : Bytes)
  /-- an eyelet's reset line driven -/
  | flashReset (eyelet : Nat) (low : Bool)
  /-- a VAMP response: channel, TAG, opcode, STATUS, body -/
  | response (ch tag opcode status : Nat) (body : Bytes)
  /-- an event record delivered: log sequence number, bound, the record -/
  | event (seq : Nat) (bound : Bool) (rec : Bytes)
  /-- a VAMP link frame other than those: type, SEQ, content -/
  | link (type seq : Nat) (data : Bytes)
  /-- a lace message: port, type, payload -/
  | lace (port type : Nat) (payload : Bytes)
  /-- a command sent to the pattern flash: the INIT commands of R440 -/
  | patPort (data : Bytes)
  /-- a JTAG answer -/
  | jtag (data : Bytes)
  /-- a core's read answer -/
  | coreRead (data : Bytes)
  deriving DecidableEq, Repr

end Sys2Proof.Machine
end

