-- ==== Sys2Proof/Machine/Types3.lean ====
section
/-!
DEFINITION. What State is made of, third part: digest engine, key store, attestation, fuses, start-up and update, VAMP
link, freeze, power (chapters 08 to 12, 15, 18, 19).
-/
namespace Sys2Proof.Machine
open Sys2Proof

/-! ### Digest engine (chapter 08) -/

/-- What a FEED reads: a range of the address map (R326), or the DATA of a DIGEST_RUN message (R578). -/
inductive FeedSrc where
  | range (addr count : Nat)
  | message (data : Bytes)
  deriving DecidableEq, Repr

/-- One context (R318, R321, R345, R346). -/
structure Ctx where
  /-- 0 FREE, 1 OPEN, 2 DONE, 3 SHORT, 4 FAILED -/
  state : Nat := 0
  finished : Bool := false
  hmac : Bool := false
  /-- 0 RELEASE, 1 COMPARE, 2 KEY -/
  dest : Nat := 0
  queue : Nat := 0
  declared : Nat := 0
  keySlot : Nat := 0
  /-- generation of KEY_SLOT read at OPEN (R336) -/
  keyGen : Nat := 0
  /-- the copy of the material a use works from (R361) -/
  key : Bytes := []
  expected : Digest := 0
  childSlot : Nat := 0
  childUsage : Nat := 0
  childLen : Bool := false
  /-- 0-3 MC0-MC3, 7 a VAMP session -/
  owner : Nat := 0
  session : Nat := 0
  /-- accepted FEEDs not wholly consumed, and the bytes taken of the first -/
  feeds : List FeedSrc := []
  taken : Nat := 0
  /-- byte counts of every FEED accepted for the current message (R329) -/
  offered : Nat := 0
  fed : Nat := 0
  /-- FEEDs, and 1 for the OPEN, of the stitch now running: they are served from the next on (R317) -/
  fresh : Nat := 0
  /-- blocks of the current message that a core has run (R316) -/
  blocks : Nat := 0
  /-- the message bytes hashed so far, the chaining state of the model -/
  hashed : Bytes := []
  /-- the final block has been run -/
  padded : Bool := false
  result : Digest := 0
  matchP : Bool := false
  matchN : Bool := false
  ovr : Bool := false
  code : Nat := 0
  restarts : Nat := 0
  /-- FINISH found too few bytes: SHORT at the next boundary (R329) -/
  shortDue : Bool := false
  /-- the DIGEST_RUN message to answer (R578) -/
  asked : Option Origin := none
  deriving DecidableEq, Repr

/-- The DGST block (R341 to R346). -/
structure DigestSt where
  ctxs : Tbl Ctx := []
  /-- DGST_ARG0-3, by core * 4 + index (R342) -/
  args : Tbl Word := []
  /-- DGST_RESP by core -/
  resp : Tbl Word := []
  busyRefusals : Nat := 0
  compareFaults : Nat := 0
  shorts : Nat := 0
  /-- the context each owner code served last, for R68 -/
  rr : Tbl Nat := []
  /-- bytes fetched for the digest engine (R689) -/
  fetched : Nat := 0
  deriving DecidableEq, Repr

/-! ### Key store (chapter 09) -/

/-- A slot record in the clear (R350); `bad` is a volatile record whose SRAM check fails (R357). -/
structure KeyRec where
  material : BitVec 256 := 0
  type : Nat := 0
  usage : Nat := 0
  exp : Bool := false
  parent : Nat := 0
  parentGen : Nat := 0
  ownGen : Nat := 0
  bad : Bool := false
  deriving DecidableEq, Repr

/-- A key operation that runs on a point engine (R362, R366, R367, R573). -/
structure KeyOp where
  replace : Bool
  slot : Nat
  blob : Bytes
  /-- the copy of the WRAP parent's record that the use works from (R361) -/
  parent : Option KeyRec := none
  deriving DecidableEq, Repr

/-- A persistent record being written by half-select (R367). -/
structure KeyCommit where
  slot : Nat
  /-- the alternate half -/
  half : Nat
  record : KeyRec
  /-- the stitch in which steps 1 and 2 passed -/
  began : Nat
  /-- step 3 is done: the counter is raised and the half written -/
  written : Bool := false
  /-- step 5 is done: SELECT names the half -/
  selected : Bool := false
  /-- the command to answer -/
  origin : Option Origin := none
  deriving DecidableEq, Repr

/-- The key store (R347 to R378). -/
structure KeysSt where
  /-- persistent slots, by key-store offset 256 * s (R354) -/
  store : Memory := []
  vol : Tbl KeyRec := []
  volGen : Nat := 0
  /-- volatile slots wrapped in retention SRAM (R373) -/
  kept : Tbl KeyRec := []
  /-- the unwrapped selected root -/
  root : Option Digest := none
  /-- slots 0, 1, 3, 4 as HMAC outputs (R348) -/
  slot0 : Option Digest := none
  slot1 : Option Digest := none
  slot2 : Option Digest := none
  slot3 : Option Digest := none
  slot4 : Option Digest := none
  /-- root code in force and domain root code (R369, R371) -/
  code : Nat := 0
  domainCode : Nat := 0
  domainTest : Bool := false
  corrupt : Nat := 0
  stale : Nat := 0
  /-- the record being written, and those a derivation or a command has made since, oldest first (R338, R367) -/
  commit : Option KeyCommit := none
  queue : List KeyCommit := []
  commits : Nat := 0
  aborts : Nat := 0
  deriving DecidableEq, Repr

/-! ### Attestation (chapter 10) -/

/-- Who asked for a unit statement. -/
inductive Asker where
  | adapter (o : Origin)
  | member (lead : Nat) (port : Nat)
  | domain (job : Nat)
  deriving DecidableEq, Repr

/-- An admitted unit statement (R77, R394 to R396). -/
structure Statement where
  id : Nat
  asker : Asker
  nonce : Bytes
  mask : Nat
  certs : Bool
  accepted : Nat
  /-- every byte before SIGNATURE, once the snapshot is taken (R391) -/
  body : Option Bytes := none
  deriving DecidableEq, Repr

/-- An answer of a member (R405). -/
structure MemberAns where
  status : Nat
  code : Nat
  statement : Bytes
  deriving DecidableEq, Repr

/-- An admitted domain statement (R402 to R405). -/
structure DomainJob where
  id : Nat
  origin : Origin
  nonce : Bytes
  certs : Bool
  accepted : Nat
  /-- members reachable over the lace at acceptance -/
  reachable : List Nat
  /-- what the snapshot gives of the bytes before the MEMBER element and after it (R383, R391) -/
  shot : Option (Bytes × Bytes) := none
  answers : Tbl MemberAns := []
  /-- the collection's end has been told (R404) -/
  ending : Bool := false
  body : Option Bytes := none
  deriving DecidableEq, Repr

/-- Statements and domain statements outstanding. -/
structure AttestSt where
  sts : List Statement := []
  domains : List DomainJob := []
  nextId : Nat := 0
  /-- policy digests in force, by platform (R390) -/
  policy : Tbl Digest := []
  /-- blocks of its message that a statement or domain statement has left to hash, by its number (R393) -/
  hashes : Tbl Nat := []
  deriving DecidableEq, Repr

/-! ### Fuses (chapter 11) -/

/-- One word of 32 logical bits, each of two physical fuses: those firmly blown and those weakly blown at least (R410). -/
structure OtpWord where
  firmA : Nat := 0
  firmB : Nat := 0
  weakA : Nat := 0
  weakB : Nat := 0
  deriving DecidableEq, Repr

/-- The TIGHT reading: either fuse of a bit is firmly blown (R410). -/
def OtpWord.tight (o : OtpWord) : Nat := o.firmA ||| o.firmB
/-- The LOOSE reading: either fuse of a bit is blown, weakly or firmly (R410). -/
def OtpWord.loose (o : OtpWord) : Nat := o.weakA ||| o.weakB ||| o.tight

/-- What a fuse command is asked to do, once judged. -/
structure FuseReq where
  advance : Bool := false
  /-- word, or the word of the target of an advance -/
  word : Nat := 0
  mask : Nat := 0
  sig : Bytes := []
  /-- a lock under R430 -/
  lock : Bool := false
  origin : Option Origin := none
  deriving DecidableEq, Repr

/-- A fuse command that programs (R429). -/
structure FuseJob where
  req : FuseReq
  /-- requested bits that did not read blown at TIGHT when it began: those that pulses may reach -/
  bits : Nat
  began : Nat
  /-- ring entry to answer -/
  entry : Nat
  /-- abort at the end of the pulse, with the code to answer, none for no answer -/
  abort : Option (Option Nat) := none
  deriving DecidableEq, Repr

/-- The FUSE block and the fuses (R408 to R436). -/
structure FuseSt where
  otp : Tbl OtpWord := []
  shadow : Tbl OtpWord := []
  /-- shadow overrides in force, and those that the next boundary brings in (R422, R423) -/
  ovr : Tbl Nat := []
  overNext : Tbl Nat := []
  gate : Bool := false
  /-- requests that firmware has posted and the heel has not yet taken, oldest first -/
  asked : List FuseReq := []
  job : Option FuseJob := none
  progWord : Nat := 0
  progCode : Nat := 0
  /-- words reported marginal after programming since the device start (R413, R429) -/
  reported : List Nat := []
  vfprog : Nat := 0
  deriving DecidableEq, Repr

/-! ### Start-up and update (chapter 12) -/

/-- How far a copy out of staging has come: the image is staged, the journal has been opened, every unit is copied, the flip of
the pattern flag has been asked for, the floor of the new flag is written, acceptance has been asked for (R466 to R469). -/
inductive CopyStep where
  | staging | copying | copied | flagged | floored | accepted
  deriving DecidableEq, Repr

/-- A FIRMWARE, PATTERN or CERTS lease (R452, R453). -/
structure TargetLease where
  number : Nat := 0
  key : Digest := 0
  length : Nat := 0
  next : Nat := 0
  /-- bytes accepted and not yet written -/
  buf : Bytes := []
  lastData : Nat := 0
  /-- a STAGE_OPEN that waits for STAGED_READY to be cleared (R454) -/
  opening : Option Origin := none
  /-- STAGE_CLOSE being carried out, APPLY, and its deadline stitch -/
  closing : Option (Origin × Bool × Nat) := none
  /-- where the acceptance of a PATTERN or CERTS image stands (R466 to R469) -/
  step : CopyStep := .staging
  deriving DecidableEq, Repr

/-- Where the start of the management domain stands. -/
inductive BootStage where
  /-- off, or stopped by an invalid bank 1 or a tamper trip -/
  | stopped
  /-- the ROM runs; a firmware copy may be in progress -/
  | rom
  | copying
  /-- a slot is chosen and its body is in core SRAM -/
  | chosen
  | running
  | rescue
  /-- at the ROM's warm entry after a management reset -/
  | warm
  deriving DecidableEq, Repr

/-- The PAT block (R471 to R473) and the start-up's progress. -/
structure BootSt where
  stage : BootStage := .stopped
  /-- stitch of the latest device start -/
  began : Nat := 0
  /-- the root is unwrapped and checked and the slots are scanned -/
  rootDone : Bool := false
  mode : Nat := 0
  dummy : Nat := 0
  /-- header of the image chosen or running -/
  header : Bytes := []
  slot : Nat := 0
  warm : Bool := false
  writable : Nat := 0
  setDenied : Nat := 0
  noPattern : Bool := false
  /-- a slot has been chosen under R466 -/
  patChosen : Bool := false
  /-- trial deadline stitch, in the heel partition (R489) -/
  deadline : Option Nat := none
  fw : Option TargetLease := none
  pat : Option TargetLease := none
  certs : Option TargetLease := none
  /-- this start is a wake (R493); the model's own field -/
  woke : Bool := false
  /-- the pattern slot the pattern in force came from and the owner key that verified it -/
  patSlot : Nat := 0
  leaseSeq : Nat := 0
  deriving DecidableEq, Repr

/-! ### VAMP (chapter 15) -/

/-- A frame the checks of R554 passed. -/
structure RxFrame where
  type : Nat
  more : Bool
  seq : Nat
  ack : Nat
  credits : Nat
  channel : Nat
  /-- header bytes 0, 1, 8, 9, 10: what the seal covers (R569) -/
  aad : Bytes
  payload : Bytes
  deriving DecidableEq, Repr

/-- A DATA frame of the Larir, kept until an ACK covers it (R560). -/
structure TxFrame where
  seq : Nat := 0
  channel : Nat := 0
  more : Bool := false
  payload : Bytes := []
  /-- EVENT frames go before the other DATA frames (R559) -/
  event : Bool := false
  /-- log sequence numbers of the records it carries -/
  recs : List Nat := []
  /-- TAG of the command it answers -/
  tag : Option Nat := none
  /-- stitch of the start of its latest transmission, none while it waits -/
  sent : Option Nat := none
  replays : Nat := 0
  incident : Nat := 0
  deriving DecidableEq, Repr

/-- One command of the table of R580. -/
structure VCmd where
  tag : Nat := 0
  opcode : Nat := 0
  accepted : Nat := 0
  status : Nat := 0
  incident : Nat := 0
  /-- 1 running, 2 answered, 3 answered with the response discarded -/
  state : Nat := 0
  /-- the stitch that ends its bound (R75, R573) -/
  due : Option Nat := none
  deriving DecidableEq, Repr

/-- One channel: the message being received and the commands kept. -/
structure VChan where
  rx : Bytes := []
  /-- the message has passed its limit and is discarded to its end (R564) -/
  tooLong : Bool := false
  /-- admitted messages that wait for their own command, oldest first -/
  inbox : List Bytes := []
  cmds : List VCmd := []
  deriving DecidableEq, Repr

/-- One session (R567 to R571). -/
structure Session where
  /-- SM3 of ADAPTER_KEY -/
  key : Digest := 0
  keyIn : BitVec 128 := 0
  keyOut : BitVec 128 := 0
  /-- the latest COUNTER accepted, and the latest sent -/
  rxCount : Nat := 0
  txCount : Nat := 0
  lastFrame : Nat := 0
  deriving DecidableEq, Repr

/-- Work of the update queue on a point engine, to be completed by UPDATE_POINT_OPERATION_DONE (R573). -/
inductive VJob where
  | hello (body : Bytes)
  | key (op : KeyOp)
  /-- the slot, and what KEY_INFO reports of it, taken when the use began (R361) -/
  | keyInfo (slot : Nat) (body : Bytes)
  | token (body : Bytes)
  | fuse (req : FuseReq)
  /-- the lasts of a staged bundle still to verify, the current one first (R299) -/
  | staged (p : Nat) (todo : List Nat)
  deriving DecidableEq, Repr

/-- The VAMP block (R585, R586) and the link. -/
structure VampSt where
  locked : Nat := 0
  /-- the Larir sends TRAIN every stitch -/
  training : Bool := false
  trainRx : Bool := false
  trainAcked : Bool := false
  trained : Bool := false
  /-- up under R557: trained and the latest grant leaves room -/
  up : Bool := false
  credits : Nat := 0
  losses : Nat := 0
  crcDrops : Nat := 0
  otherDrops : Nat := 0
  replays : Nat := 0
  naks : Nat := 0
  tagFails : Nat := 0
  closedDrops : Nat := 0
  incident : Nat := 0
  /-- frames that passed R554 and wait for their own command -/
  rxq : List RxFrame := []
  /-- SEQ of the latest DATA received in order, and of the latest one sent -/
  rxSeq : Nat := 0
  txSeq : Nat := 0
  /-- SEQ the adapter has acknowledged -/
  peerAck : Nat := 0
  tx : List TxFrame := []
  /-- NAK codes and a pending ACK to send first (R559) -/
  ctl : List Nat := []
  ackDue : Bool := false
  /-- bytes of the latest transmission beyond its stitch -/
  debt : Nat := 0
  lastRx : Nat := 0
  lastTx : Nat := 0
  /-- stitch of the latest link loss while not retrained -/
  lostAt : Option Nat := none
  chans : Tbl VChan := []
  sessions : Tbl Session := []
  /-- update-queue work by number: channel, TAG and opcode -/
  jobs : List (Nat × Option Origin × VJob) := []
  nextJob : Nat := 0
  /-- ledger_end of R573, kept for the update owner -/
  ledgerEnd : List Nat := [0, 0, 0, 0]
  /-- each QUIESCE that waits for its response to be acknowledged: the command, mode, wake period, stitch queued (R579) -/
  quiesce : List (Origin × Nat × Nat × Nat) := []
  deriving DecidableEq, Repr

/-! ### Freeze, debug and power (chapters 18, 19) -/

/-- Freeze and debug (R636 to R652). -/
structure FreezeSt where
  frozen : Bool := false
  /-- the stitch s in which the request was taken, while the entry runs (R638) -/
  entering : Option Nat := none
  /-- the chains as captured: the first open value of each bit's place (R638, R642) -/
  base : Nat := 0
  ignored : Nat := 0
  /-- the debug latch and CORE_DEBUG (R648, R649) -/
  debug : Bool := false
  coreDebug : Bool := false
  /-- cores halted through JTAG, bit k for MCk (R648) -/
  halted : Nat := 0
  /-- a request taken in a quiescent mode waits for the wake (R650) -/
  asked : Bool := false
  deriving DecidableEq, Repr

/-- Power (R657 to R663, R680). -/
structure PowerSt where
  mainEn : Bool := true
  soleEn : Bool := true
  mainpg : Bool := true
  /-- the main domain is held in reset since MAINPG fell (R662) -/
  mainDown : Bool := false
  host1v2 : Nat := 0
  flash1v2 : Nat := 0
  bankBad : Nat := 0
  mainLosses : Nat := 0
  wakeFails : Nat := 0
  /-- a wake failed since the latest that succeeded -/
  wakeFailed : Bool := false
  /-- the device reset input was taken in a quiescent mode and waits for the wake (R657) -/
  rstAsked : Bool := false
  /-- a wake event during quiescent entry: the wake follows at the next boundary (R494) -/
  wakeAsked : Option Nat := none
  /-- stitch at which the enables rose for a wake, and its cause -/
  waking : Option (Nat × Nat) := none
  /-- the welt banks' voltages in mV, host then flash, quarters 0 to 3 (R659) -/
  bankMv : List Nat := [1800, 1800, 1800, 1800, 1800, 1800, 1800, 1800]
  /-- UNIT_ID, PAIR_EN, DOMAIN_PAIRS as the balls stand (R501) -/
  straps : Nat × Bool × Nat := (0, false, 0)
  deriving DecidableEq, Repr

end Sys2Proof.Machine
end

