-- ==== Sys2Proof/Machine/State.lean ====
section
/-!
DEFINITION. The state of the block, as plain data, the reasons a step can stop, and the state after reset.
-/
namespace Sys2Proof.Machine
open Sys2Proof

/-- PAT_LOAD (R607). -/
structure PatLoadSt where
  code : Nat := 0
  stage : Nat := 0
  section_ : Nat := 0
  record : Nat := 0
  failed : Bool := false
  deriving DecidableEq, Repr

/-- Everything the spec gives the machine, and the model's own fields named at the end. -/
structure State where
  sys : SysSt := {}
  stitch : StitchSt := {}
  /-- the pattern in force -/
  pat : Option Pattern := none
  /-- a pattern accepted and waiting for its table switch -/
  patNext : Option Pattern := none
  patLoad : PatLoadSt := {}
  welts : Tbl WeltSt := []
  pds : Tbl PdSt := []
  eyes : Tbl EyeSt := []
  click : ClickSt := {}
  sole : SoleSt := {}
  latches : Tbl Latch := []
  /-- AWL_CTL BOOT_LOAD (R265) -/
  bootLoad : Bool := true
  point : PointSt := {}
  plats : Tbl PlatSt := []
  /-- the platform whose job issued the cobbler's latest flash-side command (R313) -/
  cobLatest : Option Nat := none
  /-- by quarter: 1 + the platform whose job has the cobbler's turn in the stitch now running (R704) -/
  cobTurn : Tbl Nat := []
  /-- by quarter: 1 + the platform that had the latest turn -/
  cobLast : Tbl Nat := []
  /-- jobs queued so far, for the order of R704 -/
  cobSeq : Nat := 0
  heel : HeelSt := {}
  pair : PairSt := {}
  env : EnvSt := {}
  log : LogSt := {}
  dgst : DigestSt := {}
  keys : KeysSt := {}
  att : AttestSt := {}
  fuse : FuseSt := {}
  boot : BootSt := {}
  vamp : VampSt := {}
  frz : FreezeSt := {}
  pwr : PowerSt := {}
  /-- the selector registers of R685: cores' copies at 0 to 4 (SOLE_APER_SEL, SOLE_PAGE_Q, AWL_LAST_Q, KEYS_SLOT_Q,
  ENV_SAMPLE_Q), session i's at 8 * i (R686) -/
  sel : Tbl Nat := []
  /-- core SRAM and MRAM, by core address (R40, R46) -/
  mem : Memory := []
  /-- pattern memory, by byte address (R437) -/
  pm : Memory := []
  /-- changes waiting for the next stitch boundary (R33); the model's own field -/
  deferred : List Deferred := []
  /-- what has left the block, oldest first; the model's own field -/
  out : List Output := []
  /-- open values taken so far (log entry 2); the model's own field -/
  fresh : Nat := 0
  /-- the commands that wait, first in, first out; the model's own field -/
  pending : List Instr := []
  deriving DecidableEq, Repr

/-- Why the block stops. -/
inductive Fault where
  /-- Raised by nothing: no command of this block ends in a fault. Safe. -/
  | never
  deriving DecidableEq, Repr

/-- Why a command has no meaning. -/
inductive Refusal where
  /-- Raised by an arm of `exec` whose command has not been given its meaning yet. Safe: the step gives no next state. -/
  | notModelled (mnemonic : String)
  deriving DecidableEq, Repr

/-- The machine right after reset. -/
def State.reset : State := {}

end Sys2Proof.Machine
end

