-- ==== Sys2Proof/Machine/Ops.lean ====
section
/-!
DEFINITION. The named operations every meaning is built from: reading and changing one part of the state, MRAM words,
open values, changes deferred to the next stitch boundary, outputs, event records and incidents.
-/
namespace Sys2Proof.Machine
open Sys2Proof

/-! ### One part of the state -/

/-- The stitch counter (R54). -/
def State.now (s : State) : Nat := s.stitch.count
/-- Welt `n`. -/
def State.welt (s : State) (n : Nat) : WeltSt := tget {} s.welts n
/-- Presented device `k`. -/
def State.pd (s : State) (k : Nat) : PdSt := tget {} s.pds k
/-- Eyelet `e`. -/
def State.eye (s : State) (e : Nat) : EyeSt := tget {} s.eyes e
/-- The latch record of last `l`. -/
def State.latch (s : State) (l : Nat) : Latch := tget {} s.latches l
/-- Platform `p`. -/
def State.plat (s : State) (p : Nat) : PlatSt := tget {} s.plats p
/-- Sole channel `c`. -/
def State.chan (s : State) (c : Nat) : ChanSt := tget {} s.sole.chans c
/-- The descriptor of mirror page `m`. -/
def State.page (s : State) (m : Nat) : PageDesc := tget {} s.sole.pages m
/-- Lace port `k`. -/
def State.port (s : State) (k : Nat) : LacePort := tget {} s.pair.ports k

/-- Welt `n` changed. -/
def State.modWelt (s : State) (n : Nat) (f : WeltSt → WeltSt) : State := { s with welts := tmod {} s.welts n f }
/-- Presented device `k` changed. -/
def State.modPd (s : State) (k : Nat) (f : PdSt → PdSt) : State := { s with pds := tmod {} s.pds k f }
/-- Eyelet `e` changed. -/
def State.modEye (s : State) (e : Nat) (f : EyeSt → EyeSt) : State := { s with eyes := tmod {} s.eyes e f }
/-- The latch record of last `l` changed. -/
def State.modLatch (s : State) (l : Nat) (f : Latch → Latch) : State := { s with latches := tmod {} s.latches l f }
/-- Platform `p` changed. -/
def State.modPlat (s : State) (p : Nat) (f : PlatSt → PlatSt) : State := { s with plats := tmod {} s.plats p f }
/-- Sole channel `c` changed. -/
def State.modChan (s : State) (c : Nat) (f : ChanSt → ChanSt) : State :=
  { s with sole := { s.sole with chans := tmod {} s.sole.chans c f } }
/-- The descriptor of mirror page `m` changed. -/
def State.modPage (s : State) (m : Nat) (f : PageDesc → PageDesc) : State :=
  { s with sole := { s.sole with pages := tmod {} s.sole.pages m f } }
/-- Lace port `k` changed. -/
def State.modPort (s : State) (k : Nat) (f : LacePort → LacePort) : State :=
  { s with pair := { s.pair with ports := tmod {} s.pair.ports k f } }

/-- A change that takes effect at the next stitch boundary (R33). -/
def State.later (s : State) (d : Deferred) : State := { s with deferred := s.deferred ++ [d] }
/-- Something leaves the block. -/
def State.emit (s : State) (o : Output) : State := { s with out := s.out ++ [o] }
/-- The next open value and the state that has taken it (log entry 2). -/
def State.draw (s : State) : BitVec 256 × State := (Config.free s.fresh, { s with fresh := s.fresh + 1 })

/-! ### MRAM (R46) -/

/-- A 32-bit word of core SRAM or MRAM, big-endian (R14). -/
def State.word (s : State) (a : Nat) : Nat := beNat (Memory.readN 0 s.mem a 4)
/-- A 32-bit word written. -/
def State.setWord (s : State) (a v : Nat) : State := { s with mem := Memory.writeN 0 s.mem a (natBE 4 v) }
/-- Bytes of core SRAM or MRAM. -/
def State.bytes (s : State) (a n : Nat) : Bytes := Memory.readN 0 s.mem a n
/-- Bytes written. -/
def State.setBytes (s : State) (a : Nat) (bs : Bytes) : State := { s with mem := Memory.writeN 0 s.mem a bs }

/-- Where MRAM holds what (R193, R259, R292, and the places the spec leaves to the model: log entry 5). -/
def counterAddr (k : Nat) : Nat := 0x40040000 + 4 * k
/-- Boot count (place: log entry 5). -/
abbrev bootCountAddr : Nat := 0x40041000
/-- Incident counter (R624; place: log entry 5). -/
abbrev incidentAddr : Nat := 0x40041004
/-- Fill-epoch counter, low word (R193). -/
abbrev epochLoAddr : Nat := 0x40041008
/-- Fill-epoch counter, high word (R193). -/
abbrev epochHiAddr : Nat := 0x4004100C
/-- Key generation counter (R356; place: log entry 5). -/
abbrev keyGenAddr : Nat := 0x40041010
/-- Fatal-fault resets: count (R623, R635; place: log entry 5). -/
abbrev fatalsAddr : Nat := 0x40041014
/-- Latest fatal cause (R635; place: log entry 5). -/
abbrev fatalCauseAddr : Nat := 0x40041018
/-- Stitches of the latest three fatal resets, 8 bytes each (R623; place: log entry 5). -/
abbrev fatalStitchesAddr : Nat := 0x40041020
/-- Freeze entries since cold power-on, and the stitch of the latest, 8 bytes (R638, R652; place: log entry 5). -/
abbrev freezesAddr : Nat := 0x40041040
/-- The freeze stitch. -/
abbrev freezeStitchAddr : Nat := 0x40041048
/-- Persistent bad-frame list: count (R220; place: log entry 5). -/
abbrev badCountAddr : Nat := 0x40051000
/-- Persistent bad-frame list: entries (R220; place: log entry 5). -/
abbrev badListAddr : Nat := 0x40051004
/-- Cobbler journal record of platform `p` (R305; place: log entry 5). -/
def cobJournalAddr (p : Nat) : Nat := 0x40054000 + 32 * p
/-- Active-slot flag of platform `p` (R292). -/
def flagAddr (p : Nat) : Nat := 0x40050000 + 4 * p
/-- Tamper word (R617). -/
abbrev tamperWordAddr : Nat := 0x40050110

/-- The anti-rollback counter of an image class (R259). -/
def State.classCounter (s : State) (k : Nat) : Nat := s.word (counterAddr k)
/-- The active-slot flag word of a platform (R292). -/
def State.flag (s : State) (p : Nat) : Nat := s.word (flagAddr p)
/-- ACTIVE of a flag word: true for slot B. -/
def flagActive (w : Nat) : Bool := w.testBit 0
/-- RAISE_PENDING of a flag word. -/
def flagRaise (w : Nat) : Bool := w.testBit 1
/-- GEN of a flag word. -/
def flagGen (w : Nat) : Nat := bitsOf w 31 16
/-- A flag word. -/
def mkFlag (active raise : Bool) (gen : Nat) : Nat := b2n active + 2 * b2n raise + 65536 * (gen % 65536)
/-- A counter raised, never lowered (R46, R260). -/
def State.raise (s : State) (a v : Nat) : State := if s.word a < v then s.setWord a v else s
/-- SCUTTLE_PENDING (R617). -/
def State.scuttlePending (s : State) : Bool := (s.word tamperWordAddr).testBit 0

/-! ### The variant (R4) and the pattern -/

/-- Welts the variant enables; platforms number the same. -/
def State.weltCount (s : State) : Nat :=
  match s.sys.variant with | .tkl5120 => 64 | .tkl2560 => 32 | .tkl1280 => 16
/-- Sole channels the variant enables. -/
def State.chanCount (s : State) : Nat := s.weltCount / 8
/-- Quarters the variant enables. -/
def State.quarterCount (s : State) : Nat := s.weltCount / 16
/-- The record of platform `p` in the pattern in force. -/
def State.platRec? (s : State) (p : Nat) : Option PlatRec := s.pat.bind (fun t => tfind t.plats p)
/-- The record of platform `p`, all fields 0 where the pattern has none. -/
def State.platRec (s : State) (p : Nat) : PlatRec := (s.platRec? p).getD {}
/-- The record of presented device `k`. -/
def State.pdRec? (s : State) (k : Nat) : Option PdRec := s.pat.bind (fun t => tfind t.pds k)
/-- The record of presented device `k`, all fields 0 where the pattern has none. -/
def State.pdRec (s : State) (k : Nat) : PdRec := (s.pdRec? k).getD {}
/-- The record of eyelet `e`. -/
def State.eyeRec? (s : State) (e : Nat) : Option EyeletRec := s.pat.bind (fun t => tfind t.eyelets e)
/-- The record of eyelet `e`, all fields 0 where the pattern has none. -/
def State.eyeRec (s : State) (e : Nat) : EyeletRec := (s.eyeRec? e).getD {}
/-- The platforms the pattern in force defines, ascending. -/
def State.platNums (s : State) : List Nat := match s.pat with | some t => t.plats.map Prod.fst | none => []
/-- The platform the pattern binds welt `n` to (R23). -/
def patWeltPlat (t : Pattern) (n : Nat) : Option Nat := (t.plats.find? (fun e => e.2.welts.contains n)).map Prod.fst
/-- The platform welt `n` is bound to; a retired welt counts as bound to none (R621). -/
def State.weltPlat (s : State) (n : Nat) : Option Nat :=
  if (s.welt n).retired then none else s.pat.bind (fun t => patWeltPlat t n)
/-- Last entry `e` of platform `p`. -/
def State.lastEntry? (s : State) (l : Nat) : Option LastEntry :=
  (s.platRec (l / 16)).lasts.find? (fun x => x.entry = l % 16)
/-- The segment a last entry names. -/
def State.lastSegment (s : State) (x : LastEntry) : Segment := ((s.pdRec x.pd).segments[x.segment]?).getD {}
/-- The threshold of a kind of R593, or R619's values without a pattern. -/
def State.threshold (s : State) (kind : Nat) : ThrRec :=
  match s.pat with | some t => (t.thresholds[kind]?).getD {} | none => {}

/-! ### The schedule (R64) -/

/-- The row in force, none while no schedule is loaded. -/
def State.row? (s : State) : Option Bytes :=
  if s.stitch.active.rows.length = 0 then none
  else s.stitch.active.rows[s.now % s.stitch.active.rows.length]?
/-- A schedule is in force. -/
def State.scheduled (s : State) : Bool := s.stitch.active.rows.length ≠ 0

/-! ### Hashing (R324) -/

/-- SM3 of the empty message (R324). -/
def sm3Empty : Digest := 0x1AB21D8355CFA17F8E61194831E81A8F22BEC8C728FEFB747ED035EB5082AA2B
/-- SM3 of a message: the constant of R324 for the empty one. -/
def sm3 (m : Bytes) : Digest := if m.length = 0 then sm3Empty else Config.sm3 m

/-! ### Event records (R38, R79, R627) -/

/-- SUBJECT_KIND values of R627. -/
inductive Subject where
  | device | platform (n : Nat) | welt (n : Nat) | eyelet (n : Nat) | frame (n : Nat) | channel (n : Nat)
  | port (n : Nat) | sensor (n : Nat) | last (n : Nat) | session (n : Nat) | fuse (n : Nat) | slot (n : Nat)
  deriving DecidableEq, Repr

/-- The kind and number of a subject. -/
def Subject.pair : Subject → Nat × Nat
  | .device => (0, 0) | .platform n => (1, n) | .welt n => (2, n) | .eyelet n => (3, n) | .frame n => (4, n)
  | .channel n => (5, n) | .port n => (6, n) | .sensor n => (7, n) | .last n => (8, n) | .session n => (9, n)
  | .fuse n => (10, n) | .slot n => (11, n)

/-- A 32-byte event record (R627). -/
def mkRecord (type : Nat) (subj : Subject) (code incident : Nat) (detail : Bytes) (stitch : Nat) : Bytes :=
  natBE 1 type ++ natBE 1 subj.pair.1 ++ natBE 2 code ++ natBE 4 incident ++ natBE 4 subj.pair.2 ++
    fit 12 0 detail ++ natBE 8 stitch

/-- Bound records made and not yet acknowledged: those in the FIFO and those chained (R79). -/
def State.boundCount (s : State) : Nat :=
  (s.log.fifo.filter (·.bound)).length + (s.log.deliver.filter (·.bound)).length
/-- Unbound records that await delivery (R79). -/
def State.unboundWaiting (s : State) : Nat :=
  (s.log.fifo.filter (fun r => !r.bound)).length + (s.log.deliver.filter (fun r => !r.bound)).length

/-- A record enters the hardware event FIFO of 4,096 records, bound or not under R79; a full FIFO counts it instead
(R38). -/
def State.push (s : State) (rec : Bytes) : State :=
  if s.log.fifo.length < 4096 then
    let bound := s.vamp.up && s.unboundWaiting = 0 && s.boundCount < 32
    { s with log := { s.log with fifo := s.log.fifo ++ [⟨rec, bound⟩] } }
  else { s with log := { s.log with lost := s.log.lost + 1 } }

/-- A record the log queue itself writes, which no full FIFO loses: the management reset's own on the return (R39). -/
def State.keepRecord (s : State) (rec : Bytes) : State :=
  let bound := s.vamp.up && s.unboundWaiting = 0 && s.boundCount < 32
  { s with log := { s.log with fifo := s.log.fifo ++ [⟨rec, bound⟩] } }

/-- An event record made in this stitch. -/
def State.event (s : State) (type : Nat) (subj : Subject) (code : Nat) (detail : Bytes := []) (incident : Nat := 0) :
    State :=
  s.push (mkRecord type subj code incident detail s.now)

/-- The next incident number: raised in MRAM before use, staying at its largest value (R624). -/
def State.incident (s : State) : Nat × State :=
  let n := satInc 0xFFFFFFFF (s.word incidentAddr)
  (n, s.setWord incidentAddr n)

/-- An event record under an incident opened by it (R625). -/
def State.eventInc (s : State) (type : Nat) (subj : Subject) (code : Nat) (detail : Bytes := []) : State :=
  let (n, s) := s.incident
  s.event type subj code detail n

/-! ### The unit's drive of its buses (R7, R24, R502 to R504) -/

/-- The unit drives its welts and hold lines: unpaired, or ACTIVE. -/
def State.drives (s : State) : Bool := (s.pair.role = .unpaired && !s.pair.outputsOff) || s.pair.role = .active
/-- The unit is paired. -/
def State.paired (s : State) : Bool := s.pair.role ≠ .unpaired
/-- The unit shadows: it decodes without driving (R520). -/
def State.shadowing (s : State) : Bool := s.pair.role = .standby || s.pair.role = .claiming
/-- The gap of R519 as a unit that shadows sees it: it claims, or both lines read high. -/
def State.inGap (s : State) : Bool := s.pair.role = .claiming || (s.pair.role = .standby && s.pair.aHigh && s.pair.bHigh)
/-- The main domain runs: powered, not quiescent, not frozen. -/
def State.live (s : State) : Bool := s.heel.mode = .on && !s.frz.frozen && !s.pwr.mainDown
/-- The welt answers on its host port: enabled, bound, and the unit drives with a pattern in force. -/
def State.hostEn (s : State) (n : Nat) : Bool :=
  n < s.weltCount && s.live && s.drives && s.pat.isSome && (s.weltPlat n).isSome
/-- Pn_HOLD_N is driven low (R504, R271). -/
def State.holdDriven (s : State) (p : Nat) : Bool :=
  (s.pair.role = .unpaired || s.pair.role = .active) && (s.plat p).hold
/-- The platform of welt `n` is released (R139). -/
def State.weltReleased (s : State) (n : Nat) : Bool :=
  match s.weltPlat n with | some p => !(s.plat p).hold | none => false

/-- The management cores run firmware as well (R37, R38, R49). -/
def State.fw (s : State) : Bool := s.live && s.sys.mgmtUp

/-- The partner path (R534): L0, or L3 while L0 is lost. -/
def State.partnerPort (s : State) : Nat := if (s.port 0).lost then 3 else 0
/-- A message on the partner path, while the partner is not lost (R536). -/
def State.toPartner (s : State) (type : Nat) (payload : Bytes) : State :=
  if s.paired && !s.pair.partnerLost then s.emit (.lace s.partnerPort type payload) else s

/-! ### Heel requests from firmware (R478, R703) -/

/-- The ring has room for one more entry: it is not full, and the entry at TAIL is not that of an open fuse command (R478). -/
def State.ringRoom (s : State) : Bool :=
  (s.heel.tail + 1) % 64 ≠ s.heel.head && !(s.fuse.job.any (fun j => j.entry = s.heel.tail))
/-- Entries of the ring that are reserved for accepted commands whose request is posted later (R703). -/
def State.ringReserved (s : State) : Nat :=
  (s.vamp.jobs.filter (fun j => match j.2.2 with | .fuse _ => true | _ => false)).length + s.vamp.quiesce.length
/-- The ring has room for the entry of one more command (R703). -/
def State.ringSpare (s : State) : Bool :=
  s.ringRoom && s.heel.waiting.length = 0 && (s.heel.tail + 64 - s.heel.head) % 64 + s.ringReserved < 63
/-- A request as it is posted. -/
def ringRequest (req core : Nat) (args : Bytes) (origin : Option Origin) (lease : Nat := 0) : RingEntry :=
  { state := 1, req := req, core := core, args := fit 16 0 args, origin := origin, lease := lease }
/-- A request posted at TAIL, and TAIL past it (R478). -/
def State.postNow (s : State) (req core : Nat) (args : Bytes) (origin : Option Origin := none) (lease : Nat := 0) : State :=
  { s with heel := { s.heel with
      ring := tset {} s.heel.ring s.heel.tail (ringRequest req core args origin lease), tail := (s.heel.tail + 1) % 64 } }
/-- A core runs the code that posts requests: firmware, or the ROM in RESCUE (R38, R450). -/
def State.posting (s : State) : Bool := s.fw || (s.live && s.boot.stage = .rescue)
/-- Firmware posts a request: into the ring, or to wait for room when the ring is full (R703) and for firmware's return while
the management domain is down (R38). -/
def State.post (s : State) (req core : Nat) (args : Bytes) (origin : Option Origin := none) (lease : Nat := 0) : State :=
  if s.posting && s.ringRoom && s.heel.waiting.length = 0 then s.postNow req core args origin lease
  else { s with heel := { s.heel with waiting := s.heel.waiting ++ [ringRequest req core args origin lease] } }

/-- A request that meets `f` is posted and not yet taken, or waits for room in the ring. -/
def State.asked (s : State) (f : RingEntry → Bool) : Bool :=
  s.heel.ring.any (fun e => e.2.state = 1 && f e.2) || s.heel.waiting.any f

/-- What the changes already waiting for the boundary make of platform `p`'s custody state and phase (R479: each request is
judged against the state as it will stand). -/
def State.ahead (s : State) (p : Nat) : Custody × Phase :=
  s.deferred.foldl (fun a d => match d with
    | .hold q next _ => if q = p then (next, .held) else a
    | .custody q next _ => if q = p then (next, a.2) else a
    | .phase q ph _ => if q = p then (a.1, ph) else a
    | .release q => if q = p && a.1 = .verified then (.released, .boot) else a
    | _ => a) ((s.plat p).state, (s.plat p).phase)
/-- An assertion of platform `p`'s hold waits for the boundary. -/
def State.holdDue (s : State) (p : Nat) : Bool := s.deferred.any (fun d => match d with | .hold q _ _ => q = p | _ => false)
/-- Pn_HOLD_N as the changes already waiting will leave it: an assertion overrides a release (R279, R479). -/
def State.holdAhead (s : State) (p : Nat) : Bool :=
  s.holdDue p || ((s.plat p).hold && !s.deferred.any (fun d => match d with | .release q => q = p | _ => false))

end Sys2Proof.Machine
end

