-- ==== Sys2Proof/Machine/Operands.lean ====
section
/-!
DEFINITION. The operand forms of host commands: the opcode table of R97, the modes of R96, addresses (R97, R113) and the
segments and flash pages they lead to (R111, R113, R158).
-/
namespace Sys2Proof.Machine
open Sys2Proof

/-- The address phase of an opcode (R97). -/
inductive AddrForm where
  | none | by3 | by4 | byState
  deriving DecidableEq, Repr

/-- The dummy phase of an opcode in MODE 0 and MODE 1 (R97). -/
inductive DummyForm where
  | zero | eight | d | eightOrD
  deriving DecidableEq, Repr

/-- One row of R97: class, whether and as which opcode octal modes accept it, address, dummy, data lines in MODE 0. -/
structure OpRow where
  cls : Cls
  octal : Bool
  addr : AddrForm
  dummy : DummyForm
  lines : Nat
  deriving DecidableEq, Repr

/-- The opcode table of R97; none for an opcode it does not list. -/
def opRow (op : Nat) : Option OpRow :=
  match op with
  | 0x03 => some ⟨.read, false, .byState, .zero, 1⟩
  | 0x13 => some ⟨.read, false, .by4, .zero, 1⟩
  | 0x0B => some ⟨.fastRead, false, .byState, .eightOrD, 1⟩
  | 0x0C => some ⟨.fastRead, false, .by4, .eightOrD, 1⟩
  | 0x6B => some ⟨.fastRead, false, .byState, .d, 4⟩
  | 0x6C => some ⟨.fastRead, false, .by4, .d, 4⟩
  | 0xEB => some ⟨.fastRead, false, .byState, .d, 4⟩
  | 0xEC => some ⟨.fastRead, false, .by4, .d, 4⟩
  | 0xCB => some ⟨.fastRead, false, .byState, .d, 8⟩
  | 0xCC => some ⟨.fastRead, false, .by4, .d, 8⟩
  | 0xEE => some ⟨.fastRead, true, .by4, .d, 8⟩
  | 0x02 => some ⟨.program, false, .byState, .zero, 1⟩
  | 0x12 => some ⟨.program, true, .by4, .zero, 1⟩
  | 0x32 => some ⟨.program, false, .byState, .zero, 4⟩
  | 0x34 => some ⟨.program, false, .by4, .zero, 4⟩
  | 0x8E => some ⟨.program, false, .by4, .zero, 8⟩
  | 0x20 => some ⟨.erase4K, false, .byState, .zero, 1⟩
  | 0x21 => some ⟨.erase4K, true, .by4, .zero, 1⟩
  | 0x52 => some ⟨.erase32K, false, .byState, .zero, 1⟩
  | 0x5C => some ⟨.erase32K, true, .by4, .zero, 1⟩
  | 0xD8 => some ⟨.erase64K, false, .byState, .zero, 1⟩
  | 0xDC => some ⟨.erase64K, true, .by4, .zero, 1⟩
  | 0x60 => some ⟨.eraseChip, false, .none, .zero, 1⟩
  | 0xC7 => some ⟨.eraseChip, true, .none, .zero, 1⟩
  | 0x01 => some ⟨.writeStatus, true, .none, .zero, 1⟩
  | 0x72 => some ⟨.writeStatus, true, .none, .zero, 1⟩
  | 0xB7 => some ⟨.writeStatus, false, .none, .zero, 1⟩
  | 0xE9 => some ⟨.writeStatus, false, .none, .zero, 1⟩
  | 0x50 => some ⟨.writeStatus, true, .none, .zero, 1⟩
  | 0x05 => some ⟨.readStatus, true, .none, .zero, 1⟩
  | 0x70 => some ⟨.readStatus, true, .none, .zero, 1⟩
  | 0x71 => some ⟨.readStatus, true, .none, .zero, 1⟩
  | 0x9F => some ⟨.readId, true, .none, .zero, 1⟩
  | 0x5A => some ⟨.readSfdp, true, .by3, .eight, 1⟩
  | 0x66 => some ⟨.reset, true, .none, .zero, 1⟩
  | 0x99 => some ⟨.reset, true, .none, .zero, 1⟩
  | 0x75 => some ⟨.suspendResume, true, .none, .zero, 1⟩
  | 0x7A => some ⟨.suspendResume, true, .none, .zero, 1⟩
  | 0x48 => some ⟨.securityReg, true, .byState, .eight, 1⟩
  | 0x42 => some ⟨.securityReg, true, .byState, .zero, 1⟩
  | 0x44 => some ⟨.securityReg, true, .byState, .zero, 1⟩
  | 0x06 => some ⟨.writeEnable, true, .none, .zero, 1⟩
  | 0x04 => some ⟨.writeEnable, true, .none, .zero, 1⟩
  | _ => none

/-- The presented device a host command reaches (R22). -/
def hostPd (h : HostCmd) : Nat := 2 * h.welt.val + h.cs.val

/-- The opcode-map word of a presented device for an opcode, from the active tables. -/
def State.opWord (s : State) (k : Nat) (op : Nat) : Word :=
  tget 0 s.click.mapA ((tget {} s.click.dirA k).opmap * 256 + op)

/-- A command as decoded: presented device, class, and, for VENDOR, its opcode-map word. -/
structure Decoded where
  pd : Nat
  cls : Cls
  op : Nat
  word : Word
  /-- byte address after the wrap of R113; 0 for an address-free command -/
  addr : Nat
  /-- the clicker judges it by a page (R146) -/
  addressed : Bool
  /-- host dummy cycles (R97, R121, R147) -/
  dummy : Nat
  /-- data lines -/
  lines : Nat
  deriving DecidableEq, Repr

/-- The address of `n` bytes as the host clocks it, wrapped modulo SIZE (R113). -/
def wrapAddr (sizeLog2 : Nat) (threeByte : Bool) (a : BitVec 32) : Nat :=
  (if threeByte then a.toNat % 2 ^ 24 else a.toNat) % 2 ^ sizeLog2

/-- Whether the address phase is three bytes, given the form and the addressing state. -/
def isThree (f : AddrForm) (octal addr4 : Bool) : Bool :=
  match f with
  | .by3 => !octal
  | .byState => !octal && !addr4
  | _ => false

/-- The frame of a command that the opcode map enables in the mode in force; none when it is unmapped (R96, R100, R147,
R150). -/
def State.decodeHost (s : State) (h : HostCmd) : Option Decoded :=
  let k := hostPd h
  match s.pdRec? k with
  | none => none
  | some r =>
    let p := s.pd k
    let op := h.opcode.toNat
    let w := s.opWord k op
    let octal : Bool := 2 ≤ p.mode
    if !omEn w then none
    else if octal && h.second != ~~~ h.opcode then none
    else if octal && !omOctal w then none
    else if p.mode = 1 && !omQuad w then none
    else
      let modeLines := fun l : Nat => if p.mode = 0 then l else if p.mode = 1 then 4 else 8
      match opRow op with
      | some row =>
        let addressed : Bool := match row.cls with
          | .read | .fastRead | .program | .erase4K | .erase32K | .erase64K => true
          | _ => false
        let dummy := match row.dummy with
          | .zero => if octal && (row.cls = .readStatus || row.cls = .readId) then 8 else 0
          | .eight => 8
          | .d => r.dummy
          | .eightOrD => if p.mode = 0 then 8 else r.dummy
        some { pd := k, cls := row.cls, op := op, word := w,
               addr := if addressed then wrapAddr r.sizeLog2 (isThree row.addr octal p.addr4) h.addr else 0,
               addressed := addressed, dummy := dummy, lines := modeLines row.lines }
      | none =>
        let addressed := omAddr w ≠ 0
        let three := (omAddr w = 3 || (omAddr w = 7 && !p.addr4)) && !octal
        some { pd := k, cls := .vendor, op := op, word := w,
               addr := if addressed then wrapAddr r.sizeLog2 three h.addr else 0,
               addressed := addressed, dummy := omDummy w,
               lines := modeLines (match omWidth w with | 0 => 1 | 1 => 4 | _ => 8) }

/-- The judged page of an addressed command (R164). -/
def Decoded.page (d : Decoded) : Nat := d.addr / 4096

/-- The segment that maps a presented page. -/
def PdRec.segmentOf (r : PdRec) (p : Nat) : Option Segment :=
  r.segments.find? (fun g => g.pdStart ≤ p && p < g.pdStart + g.pageCount)

/-- The global eyelet and flash page of presented page `p` on eyelet A of its segment (R113). -/
def segA (n : Nat) (g : Segment) (p : Nat) : Nat × Nat := (8 * n + g.eyeletA, g.flashPageA + (p - g.pdStart))
/-- The same on eyelet B, when the segment has one. -/
def segB (n : Nat) (g : Segment) (p : Nat) : Option (Nat × Nat) :=
  g.eyeletB.map (fun b => (8 * n + b, g.flashPageB + (p - g.pdStart)))
/-- The eyelet of the slot `b` names: true for B, A where the segment has no B. -/
def segSlot (n : Nat) (g : Segment) (p : Nat) (b : Bool) : Nat × Nat :=
  if b then (segB n g p).getD (segA n g p) else segA n g p
/-- The mirror page of a presented page (R191). -/
def segMirror (g : Segment) (p : Nat) : Option Nat := g.solePage.map (fun m => m + (p - g.pdStart))

/-- Pages of an erase block (R167). -/
def eraseBlock : Cls → Nat
  | .erase32K => 8
  | .erase64K => 16
  | _ => 1

end Sys2Proof.Machine
end

