-- ==== Sys2Proof/Machine/Flags.lean ====
section
/-!
DEFINITION. The emulated status, flag and configuration registers of a presented device (R102 to R106), and the welt's and
the clicker's counts of what happened (R145, R174, R177).
-/
namespace Sys2Proof.Machine
open Sys2Proof

/-- The eyelets of the welt of presented device `k` (R20). -/
def pdEyelets (k : Nat) : List Nat := (List.range 8).map (fun i => 8 * (k / 2) + i)

/-- WIP: some eyelet is busy with an operation forwarded from the presented device and not suspended (R102). -/
def State.wip (s : State) (k : Nat) : Bool :=
  (pdEyelets k).any (fun e => match (s.eye e).busy with | some o => o.pd = k && !o.stuck | none => false)

/-- An operation of the presented device stands suspended on some eyelet: programs for PSUSP, erases for ESUSP (R103). -/
def State.suspendedOf (s : State) (k : Nat) (isProgram : Bool) : Bool :=
  (pdEyelets k).any (fun e => (s.eye e).suspended.any (fun o =>
    o.pd = k && (decide (o.kind = .program) || decide (o.kind = .vendor)) == isProgram))

/-- PSUSP and ESUSP after a suspension or a resume (R103, R134). -/
def State.setSusp (s : State) (k : Nat) : State :=
  s.modPd k (fun p => { p with psusp := s.suspendedOf k true, esusp := s.suspendedOf k false })

/-- The status register (R102). -/
def State.statusReg (s : State) (k : Nat) : Byte :=
  let p := s.pd k
  BitVec.ofNat 8 (b2n (s.wip k) + 2 * b2n p.wel + 4 * (p.bp % 16) + 128 * b2n p.srwd)

/-- The flag status register (R103). -/
def State.flagReg (s : State) (k : Nat) : Byte :=
  let p := s.pd k
  BitVec.ofNat 8 (b2n p.addr4 + 2 * b2n p.prot + 4 * b2n p.psusp + 16 * b2n p.pfail +
    32 * b2n p.efail + 64 * b2n p.esusp + 128 * b2n (!s.wip k))

/-- The configuration register (R105). -/
def State.configReg (s : State) (k : Nat) : Byte := BitVec.ofNat 8 ((s.pd k).mode % 4)

/-- The emulated registers back at the pattern's values (R106); the clicker's counts and the flash stay as they are. -/
def State.resetPd (s : State) (k : Nat) : State :=
  let r := s.pdRec k
  s.modPd k (fun p => { p with mode := r.powerupMode, addr4 := r.powerupAddr4, wel := false, bp := 0,
                               srwd := false, prot := false, pfail := false, efail := false,
                               psusp := false, esusp := false, armed := false })

/-- WEL cleared. -/
def State.clearWel (s : State) (k : Nat) : State := s.modPd k (fun p => { p with wel := false })
/-- PROT set. -/
def State.setProt (s : State) (k : Nat) : State := s.modPd k (fun p => { p with prot := true })
/-- A program, erase or write-status completed quietly (R102, R103). -/
def State.quiet (s : State) (k : Nat) (needsWel : Bool) : State :=
  (if needsWel then s.clearWel k else s).setProt k

/-- One count of LATE (R122). -/
def State.countLate (s : State) (n : Nat) : State := s.modWelt n (fun w => { w with late := satInc 0xFFFF w.late })
/-- One count of CROSS (R123). -/
def State.countCross (s : State) (n : Nat) : State := s.modWelt n (fun w => { w with cross := satInc 0xFFFF w.cross })
/-- One count of UNMAPPED (R100). -/
def State.countUnmapped (s : State) (n : Nat) : State :=
  s.modWelt n (fun w => { w with unmapped := satInc 0xFFFF w.unmapped })
/-- One count of DISCARDED (R101, R126, R132). -/
def State.countDiscarded (s : State) (n : Nat) : State :=
  s.modWelt n (fun w => { w with discarded := satInc 0xFFFF w.discarded })

end Sys2Proof.Machine
end

