-- ==== Sys2Proof/Machine/Clicker.lean ====
section
/-!
DEFINITION. The clicker: how a command is judged (R161 to R169), and what a verdict counts and records (R171 to R178).
-/
namespace Sys2Proof.Machine
open Sys2Proof

/-- What the clicker answers (R165): ignored without WEL (step 2), denied with a reason, or allowed. The window is given
with its global index when one judged the command. -/
inductive Verdict where
  | ignored
  | deny (reason : Nat) (win : Option (Nat × WindowWord))
  | allow (win : Option (Nat × WindowWord))
  deriving DecidableEq, Repr

/-- The command needs WEL (R127). -/
def Decoded.needsWel (d : Decoded) : Bool :=
  match d.cls with
  | .program | .erase4K | .erase32K | .erase64K | .eraseChip => true
  | .writeStatus => d.op = 0x01 || d.op = 0x72
  | .securityReg => d.op = 0x42 || d.op = 0x44
  | .vendor => omWelReq d.word
  | _ => false

/-- The write classes of R165. -/
def Decoded.isWrite (d : Decoded) : Bool :=
  match d.cls with
  | .program | .erase4K | .erase32K | .erase64K | .writeStatus => true
  | .vendor => omDir d.word = 1
  | _ => false

/-- The window of a presented device that covers a page, with its global index (R156, R165 step 6). -/
def State.findWindow (s : State) (k p : Nat) : Option (Nat × WindowWord) :=
  let dir := tget {} s.click.dirA k
  ((List.range dir.count).map (fun i => (dir.first + i, tget 0 s.click.winA (dir.first + i)))).find?
    (fun w => winCovers w.2 p)

/-- The platform whose phase judges the presented device's commands, and the phase (R161). -/
def State.pdPhase (s : State) (k : Nat) : Phase :=
  match s.weltPlat (k / 2) with | some p => (s.plat p).phase | none => .held

/-- UPDATE writes are open: the host holds the platform's lease and the journal flag equals the welt's map (R169). -/
def State.updateOpen (s : State) (k : Nat) : Bool :=
  match s.weltPlat (k / 2) with
  | none => false
  | some p =>
    let t := s.plat p
    (match t.lease with | some l => decide (l.holder = .host) | none => false) && flagActive (s.flag p) == t.map

/-- An addressed command judged by one page: steps 6 to 14 of R165. -/
def State.judgePage (s : State) (d : Decoded) (page : Nat) : Verdict :=
  let n := eraseBlock d.cls
  let first := page - page % n
  match s.findWindow d.pd first with
  | none => .deny 1 none
  | some (i, w) =>
    let ph := s.pdPhase d.pd
    let a := winAction w
    if ph = .held && d.isWrite then .deny 7 (some (i, w))
    else if a = .deny then .deny 2 (some (i, w))
    else if !(winPhases w).testBit ph.code then .deny 3 (some (i, w))
    else if !(winClasses w).testBit d.cls.code then .deny 4 (some (i, w))
    else if d.cls = .vendor && ((omDir d.word = 1 && a ≠ .passRW) ||
        (omDir d.word = 2 && a ≠ .passR && a ≠ .passRW)) then .deny 5 (some (i, w))
    else if !winCovers w (first + n - 1) then .deny 6 (some (i, w))
    else if a = .update && !s.updateOpen d.pd then .deny 10 (some (i, w))
    else .allow (some (i, w))

/-- A command judged (R165). READ_STATUS and READ_ID never come here (step 1). -/
def State.judge (s : State) (d : Decoded) : Verdict :=
  if d.needsWel && !(s.pd d.pd).wel then .ignored
  else if d.cls = .eraseChip || d.cls = .securityReg then .deny 9 none
  else if !d.addressed then
    if (tget {} s.click.dirA d.pd).bareMask.testBit d.cls.code then .allow none else .deny 8 none
  else s.judgePage d d.page

/-- One ALLOW or DENY count of the counter a window names (R173). -/
def State.countWin (s : State) (w : WindowWord) (allowed : Bool) : State :=
  if winCounter w = 0xFFFF then s
  else if allowed then
    { s with click := { s.click with allow := tmod 0 s.click.allow (winCounter w) (satInc 0xFFFFFFFF) } }
  else { s with click := { s.click with deny := tmod 0 s.click.deny (winCounter w) (satInc 0xFFFFFFFF) } }

/-- The CLICK_DENY record (R178). -/
def State.denyRecord (s : State) (d : Decoded) (reason : Nat) (win : Option (Nat × WindowWord)) (addr len : Nat) :
    Bytes :=
  natBE 1 0x21 ++ natBE 1 reason ++ natBE 1 d.pd ++ natBE 1 ((s.weltPlat (d.pd / 2)).getD 0) ++ natBE 1 d.op ++
  natBE 1 (d.cls.code + 16 * (s.pdPhase d.pd).code + 64 * ((s.pd d.pd).mode % 4)) ++
  natBE 2 (match win with | some (_, w) => winCounter w | none => 0xFFFF) ++
  natBE 4 addr ++
  natBE 4 (match win with | some (i, _) => i | none => 0xFFFFFFFF) ++
  natBE 4 (match win with | some (_, w) => winTag w | none => 0) ++
  natBE 4 (min 0xFFFFFFFF len) ++ natBE 8 s.now

/-- R176 records the denial. -/
def State.denyLogged (s : State) (d : Decoded) (reason : Nat) (win : Option (Nat × WindowWord)) : Bool :=
  let dir := tget {} s.click.dirA d.pd
  match win with
  | some (_, w) => winLog w
  | none => if reason = 1 then dir.defaultLog else dir.bareLog

/-- What a denial counts and records (R173, R174, R176, R177). -/
def State.noteDeny (s : State) (d : Decoded) (reason : Nat) (win : Option (Nat × WindowWord)) (addr len : Nat) :
    State :=
  let logged := s.denyLogged d reason win
  let rec_ := s.denyRecord d reason win addr len
  let s := match win with
    | some (_, w) => s.countWin w false
    | none => s.modPd d.pd (fun p => { p with defaultDeny := satInc 0xFFFF p.defaultDeny })
  if !logged then s
  else if (s.pd d.pd).lastRec = some s.now then
    let s := s.modPd d.pd (fun p => { p with suppressed := satInc 0xFFFF p.suppressed })
    { s with click := { s.click with suppressed := satInc 0xFFFF s.click.suppressed } }
  else
    let s := s.modPd d.pd (fun p => { p with lastRec := some s.now })
    let s := { s with click := { s.click with records := satInc 0xFFFF s.click.records } }
    s.push rec_

end Sys2Proof.Machine
end

