-- ==== Sys2Proof/Machine/Sole.lean ====
section
/-!
DEFINITION. The sole and the tread cache (chapter 05): mirror pages and frames, failures, refills, retirement of frames,
tread lines, epochs, the self-test and the sole aperture.
-/
namespace Sys2Proof.Machine
open Sys2Proof

/-- Mirror pages of one channel (R191). -/
abbrev chanPages : Nat := 524288
/-- The channel of a mirror page (R191). -/
def pageChan (m : Nat) : Nat := m / chanPages
/-- The page lies in an enabled channel (R52, R231). -/
def State.pageExists (s : State) (m : Nat) : Bool := m < s.chanCount * chanPages
/-- The frame that stores a mirror page (R191, R217). -/
def State.frameOf (s : State) (m : Nat) : Nat := ((s.page m).spare).getD (m % chanPages)
/-- The state in force of a mirror page: LOST in a DOWN channel and for a page without a frame (R199, R219, R222). -/
def State.pageState (s : State) (m : Nat) : PageState :=
  if (s.chan (pageChan m)).down || (s.page m).noFrame then .lost else (s.page m).state

/-- The segments that name sole pages, with their presented device. -/
def patSegments (t : Pattern) : List (Nat × Segment) := t.pds.flatMap (fun e => e.2.segments.map (fun g => (e.1, g)))
/-- The presented device and segment a mirror page mirrors. -/
def State.pageOwner (s : State) (m : Nat) : Option (Nat × Segment) :=
  s.pat.bind (fun t => (patSegments t).find? (fun x => match x.2.solePage with
    | some b => b ≤ m && m < b + x.2.pageCount
    | none => false))
/-- The platform a mirror page belongs to. -/
def State.pagePlat (s : State) (m : Nat) : Option Nat := (s.pageOwner m).bind (fun x => s.weltPlat (x.1 / 2))
/-- The mirror page runs of a platform: first page and count. -/
def State.platRuns (s : State) (p : Nat) : List (Nat × Nat) :=
  match s.pat with
  | none => []
  | some t => (patSegments t).filterMap (fun x =>
      if (s.platRec p).welts.contains (x.1 / 2) then x.2.solePage.map (fun b => (b, x.2.pageCount)) else none)
/-- A page lies in one of the runs. -/
def inRuns (r : List (Nat × Nat)) (m : Nat) : Bool := r.any (fun x => x.1 ≤ m && m < x.1 + x.2)
/-- The entry of a platform whose segment a mirror page belongs to, and the image page. -/
def State.pageEntry (s : State) (m : Nat) : Option (Nat × Nat × Nat) :=
  (s.pagePlat m).bind (fun p => ((s.platRec p).lasts.filterMap (fun x =>
    (s.lastSegment x).solePage.bind (fun b =>
      if b ≤ m && m < b + (s.lastSegment x).pageCount then some (p, x.entry, m - b) else none))).head?)

/-! ### Sealed sectors (R189 to R191, R195) -/

/-- Where frame `f` of channel `c` begins in the raw DRAM (R189, R190). -/
def frameBase (c f : Nat) : Nat := c * 2 ^ 32 + 4352 * f + (if f < 540672 then 0 else 0x1100000)
/-- Where digest sector `i` of channel `c` stands (R189). -/
def digestBase (c i : Nat) : Nat := c * 2 ^ 32 + 0x8C400000 + 272 * i
/-- The nonce of a sector: epoch, region, channel, frame or digest-sector index, sector (R195). -/
def soleNonce (epoch region c i k : Nat) : Nat :=
  (((((epoch % 2 ^ 48) * 2 + region) * 8 + c % 8) * 2 ^ 20 + i % 2 ^ 20) * 16 + k % 16) * 2 ^ 20
/-- The authenticated data of a sector: platform, logical page, sector (R195). -/
def soleAad (p m k : Nat) : Bytes := natBE 1 p ++ natBE 4 m ++ natBE 1 k ++ fill 2 0
/-- The sixteen sealed sectors of a page, each followed by its tag (R190, R195). -/
def sealPage (key : BitVec 128) (epoch p c f m : Nat) (data : Bytes) : Bytes :=
  (List.range 16).flatMap (fun k =>
    sm4Seal key (soleNonce epoch 0 c f k) (soleAad p m k) (fit 256 0 (bytesAt data (256 * k) 256)))
/-- Bytes written to the raw DRAM. -/
def State.setRaw (s : State) (a : Nat) (b : Bytes) : State :=
  { s with sole := { s.sole with raw := Memory.writeN 0 s.sole.raw a b } }
/-- A sealed sector opened, its tag checked. -/
def State.openSector (s : State) (key : BitVec 128) (nonce : Nat) (aad : Bytes) (a : Nat) : Option Bytes :=
  sm4Open key nonce aad (Memory.readN 0 s.sole.raw a 272)

/-- The platform the pattern binds a mirror page's welt to. -/
def State.pageBound (s : State) (m : Nat) : Option Nat :=
  (s.pageOwner m).bind (fun x => s.pat.bind (fun t => patWeltPlat t (x.1 / 2)))
/-- The epoch key register of a platform (R194). -/
def State.epochKeyOf (s : State) (p : Nat) : Option (BitVec 128) := tget none s.sole.epochKey p
/-- The epoch number of a platform. -/
def State.epochOf (s : State) (p : Nat) : Nat := tget 0 s.sole.epoch p

/-- A mirror page's plaintext sealed into its frame under the current epoch (R195, R214 step 4, R251). -/
def State.writePage (s : State) (m : Nat) (data : Bytes) : State :=
  match (s.pageBound m).bind (fun p => (s.epochKeyOf p).map (fun k => (p, k))) with
  | some (p, k) => s.setRaw (frameBase (pageChan m) (s.frameOf m)) (sealPage k (s.epochOf p) p (pageChan m) (s.frameOf m) m data)
  | none => s
/-- Sector `k` of a mirror page, opened; none when its tag fails or no key is live (R195). -/
def State.sectorPlain (s : State) (m k : Nat) : Option Bytes :=
  (s.pageBound m).bind (fun p => (s.epochKeyOf p).bind (fun key =>
    s.openSector key (soleNonce (s.epochOf p) 0 (pageChan m) (s.frameOf m) k) (soleAad p m k)
      (frameBase (pageChan m) (s.frameOf m) + 272 * k)))
/-- The 4,096 bytes of a mirror page, when every sector opens. -/
def State.pagePlain (s : State) (m : Nat) : Option Bytes :=
  (List.range 16).foldl (fun a k => a.bind (fun b => (s.sectorPlain m k).map (b ++ ·))) (some [])

/-- The digest sector of a mirror page: its index in the channel's digest region (R191). -/
def digestIndex (m : Nat) : Nat := m % chanPages / 8
/-- The 256 bytes of the digest sector of page `m`, opened (R191, R195). -/
def State.openDigests (s : State) (m : Nat) : Option Bytes :=
  (s.pageBound m).bind (fun p => (s.epochKeyOf p).bind (fun key =>
    s.openSector key (soleNonce (s.epochOf p) 1 (pageChan m) (digestIndex m) 0) (soleAad p (m / 8 * 8) 0)
      (digestBase (pageChan m) (digestIndex m))))
/-- The entry of page `m` in its opened digest sector. -/
def digestEntry (m : Nat) (sector : Bytes) : Digest := digestOfBytes (bytesAt sector (32 * (m % 8)) 32)
/-- The block digest entry of a mirror page (R191). -/
def State.pageDigest (s : State) (m : Nat) : Option Digest := (s.openDigests m).map (digestEntry m)
/-- Eight entries sealed into the digest sector that begins with page `m` (R195, R249). -/
def State.sealDigests (s : State) (m : Nat) (entries : Bytes) : State :=
  match (s.pageBound m).bind (fun p => (s.epochKeyOf p).map (fun k => (p, k))) with
  | some (p, k) => s.setRaw (digestBase (pageChan m) (digestIndex m))
      (sm4Seal k (soleNonce (s.epochOf p) 1 (pageChan m) (digestIndex m) 0) (soleAad p (m / 8 * 8) 0) (fit 256 0 entries))
  | none => s

/-! ### The tread cache (R207 to R210) -/

/-- The set of a mirror sector in a welt's partition. -/
def treadKey (n sec : Nat) : Nat := 64 * n + (sec / 16) % 64
/-- The opened bytes of the welt's line of the sector. -/
def State.treadLine (s : State) (n sec : Nat) : Option Bytes :=
  ((tget [] s.sole.tread (treadKey n sec)).find? (fun x => x.1 = sec)).map Prod.snd
/-- The welt's partition holds a line of the sector. -/
def State.treadHit (s : State) (n sec : Nat) : Bool := (s.treadLine n sec).isSome
/-- A line filled, or used again: most recently used first, eight ways. -/
def State.treadUse (s : State) (n sec : Nat) (data : Bytes) : State :=
  let t := tmod [] s.sole.tread (treadKey n sec) (fun l => ((sec, data) :: l.filter (fun x => x.1 ≠ sec)).take 8)
  { s with sole := { s.sole with tread := t } }
/-- A line invalidated because its SRAM check failed, and counted (R209, R233). -/
def State.treadBad (s : State) (n sec : Nat) : State :=
  if s.treadHit n sec then
    ({ s with sole := { s.sole with
        tread := tmod [] s.sole.tread (treadKey n sec) (fun l => l.filter (fun x => x.1 ≠ sec)) } }).modChan
      (weltChannel n) (fun c => { c with lineErrors := satInc 0xFFFF c.lineErrors })
  else s
/-- The lines of one page invalidated in every partition (R210). -/
def State.treadDropPage (s : State) (m : Nat) : State :=
  { s with sole := { s.sole with tread := tmapAll [] s.sole.tread (fun _ l => l.filter (fun x => x.1 / 16 ≠ m)) } }
/-- The partition of a welt invalidated (R210). -/
def State.treadDropWelt (s : State) (n : Nat) : State :=
  { s with sole := { s.sole with tread := s.sole.tread.filter (fun e => e.1 / 64 ≠ n) } }
/-- Every line gone (R210). -/
def State.treadClear (s : State) : State := { s with sole := { s.sole with tread := [] } }

/-! ### Page descriptors -/

/-- A descriptor set at a boundary; lines of a page that leaves VALID go with it (R199, R210). -/
def State.setPage (s : State) (m : Nat) (st : PageState) : State :=
  let s := if (s.page m).state = .valid && st ≠ .valid then s.treadDropPage m else s
  s.modPage m (fun d => { d with state := st })

/-- Every page of the runs made EMPTY, with its lines (R194). -/
def State.emptyRuns (s : State) (r : List (Nat × Nat)) : State :=
  { s with sole := { s.sole with
      pages := tmapAll {} s.sole.pages (fun m d => if inRuns r m then { d with state := .empty } else d)
      tread := tmapAll [] s.sole.tread (fun _ l => l.filter (fun x => !inRuns r (x.1 / 16))) } }

/-- Queued and running refills of pages in the runs abandoned (R226). -/
def State.dropRefills (s : State) (r : List (Nat × Nat)) : State :=
  { s with sole := { s.sole with chans := tmapAll {} s.sole.chans (fun _ c =>
      { c with queue := c.queue.filter (fun m => !inRuns r m)
               running := match c.running with
                 | some f => if inRuns r f.page then none else some f
                 | none => none }) } }

/-! ### Failures (R211 to R213) -/

/-- A suspect-table entry that has not expired (R212). -/
def State.suspectOf (s : State) (m : Nat) : Bool :=
  (s.chan (pageChan m)).suspects.any (fun x => x.1 = m && s.now < x.2 + 1000000)

/-- The refill of a page whose failure of this stitch an aperture read has already counted (R211, R212, R226). -/
def State.refillDue (s : State) (m : Nat) : State :=
  if s.deferred.contains (.page m .refill) then s
  else (s.modChan (pageChan m) (fun h => { h with
    queue := if h.queue.contains m then h.queue else h.queue ++ [m] })).later (.page m .refill)
/-- A failure of a page of the sole found in this stitch (R211, R212, R213): counted and recorded once per page and stitch.
With `refill` the page goes to REFILL at the next boundary and its refill is queued; the aperture's failures start none (R44,
R226; log entry 75). The second failure makes firmware post the retirement of its frame (R217, R703). -/
def State.soleFailure (s : State) (m : Nat) (refill : Bool := true) : State :=
  let c := pageChan m
  let st := s.pageState m
  if st ≠ .valid && st ≠ .refill then s
  else if (s.chan c).failedNow.contains m then (if refill && st = .valid then s.refillDue m else s)
  else
    let second := s.suspectOf m || 64 ≤ ((s.chan c).suspects.filter (fun x => s.now < x.2 + 1000000)).length
    let frame := s.frameOf m
    let s := s.modChan c (fun h => { h with
      fails := satInc 0xFFFF h.fails
      failedNow := h.failedNow ++ [m]
      queue := if !refill || h.queue.contains m || (match h.running with | some f => decide (f.page = m) | none => false)
               then h.queue else h.queue ++ [m]
      suspects := if second then h.suspects else h.suspects ++ [(m, s.now)]
      permanent := if second && !h.permanent.contains m then h.permanent ++ [m] else h.permanent })
    let s := s.eventInc 0x05 (.frame frame) Code.soleSectorFailed (natBE 4 m ++ natBE 4 frame)
    let s := if refill then s.later (.page m .refill) else s
    if second then s.post 0x08 2 (natBE 1 0 ++ natBE 4 (c * 2 ^ 29 + frame)) else s

/-! ### Retirement of frames (R217 to R222) -/

/-- The persistent bad-frame list grows by one frame, entry first and then count; a full list sets PERSIST_DROPPED
(R220). -/
def State.persistBad (s : State) (c f : Nat) : State :=
  let n := s.word badCountAddr
  if n < 2048 then (s.setWord (badListAddr + 4 * n) (c * 2 ^ 29 + f)).setWord badCountAddr (n + 1)
  else { s with sole := { s.sole with persistDropped := true } }

/-- The lowest-numbered free spare frame of a channel. -/
def ChanSt.freeSpare (c : ChanSt) : Option Nat :=
  ((List.range 16384).map (· + 524288)).find? (fun f => !c.spares.contains f && !c.retired.contains f)

/-- A page's frame retired at a boundary (R217, R219): a spare and a refill into it, or LOST when no spare is free. -/
def State.retireFrameNow (s : State) (m : Nat) : State :=
  let c := pageChan m
  let old := s.frameOf m
  let s := s.persistBad c old
  let s := s.event 0x04 (.frame old) Code.channelRetired (natBE 1 0 ++ natBE 1 ((s.pagePlat m).getD 0xFF))
  let s := s.modChan c (fun h => { h with
    retired := h.retired ++ [old]
    spares := h.spares.filter (· ≠ old)
    permanent := h.permanent.filter (· ≠ m)
    running := match h.running with | some f => if f.page = m then none else some f | none => none })
  match (s.chan c).freeSpare with
  | some f =>
    let s := (s.setPage m .refill).modPage m (fun d => { d with spare := some f })
    s.modChan c (fun h => { h with
      spares := h.spares ++ [f]
      queue := if h.queue.contains m then h.queue else h.queue ++ [m]
      exhausted := { h with spares := h.spares ++ [f] }.freeSpare.isNone })
  | none =>
    let s := (s.setPage m .lost).modPage m (fun d => { d with spare := none, noFrame := true })
    let s := s.modChan c (fun h => { h with exhausted := true, queue := h.queue.filter (· ≠ m) })
    s.event 0x05 (.channel c) Code.channelRetired (natBE 4 m ++ natBE 4 old)

/-- The frames of a channel on the persistent list (R220). -/
def State.persistFrames (s : State) (c : Nat) : List Nat :=
  ((List.range (min 2048 (s.word badCountAddr))).map (fun i => s.word (badListAddr + 4 * i))).filterMap
    (fun w => if w / 2 ^ 29 = c then some (w % 2 ^ 20) else none)

/-- The end of the retraining that replaces a channel's self-test after quiescent-keep (R222, R493): what is retired stays so. -/
def State.retrainedNow (s : State) (c : Nat) (trained : Bool) : State :=
  let s := s.modChan c (fun h => { h with up := trained && !h.down, down := h.down || !trained, kept := false })
  if trained then s else s.event 0x05 (.channel c) Code.channelRetired (natBE 4 0xFFFFFFFF ++ natBE 4 0)

/-- What the end of a channel's self-test brings at the boundary (R220 to R222, R230): frames on the list and frames that fail
are retired, staging frames among them; pages of retired frames take the lowest free spares in order; the channel is up or
DOWN. What the test left in the DRAM is open and reads 0 here, as bytes nothing has written (log entry 75). The record of a DOWN
channel names no page: page 0xFFFFFFFF and frame 0 (DESIGN CHOICE, log entry 75). -/
def State.selfTestNow (s : State) (c : Nat) (trained : Bool) (failing : List Nat) : State :=
  if (s.chan c).kept then s.retrainedNow c trained
  else
  let listed := (s.persistFrames c).eraseDups
  let fresh := (failing.filter (fun f => f < 704512 && !listed.contains f)).eraseDups
  let s := fresh.foldl (fun s f => s.persistBad c f) s
  let retired := listed ++ fresh
  let mirror := retired.filter (· < 524288)
  let spareBad := (retired.filter (fun f => decide (524288 ≤ f) && decide (f < 540672))).length
  let down := !trained || 16384 - spareBad < mirror.length
  let s := { s with sole := { s.sole with badFound := satAdd 0xFFFF s.sole.badFound retired.length } }
  let s : State := { s with sole := { s.sole with raw := s.sole.raw.filter (fun e => e.1 / 2 ^ 32 ≠ c) } }
  let s := s.modChan c (fun h => { h with up := !down, down := down, retired := retired,
                                          exhausted := if down then spareBad = 16384 else decide (16384 - spareBad ≤ mirror.length),
                                          suspects := [], permanent := [], queue := [], running := none })
  let s := fresh.foldl (fun s f =>
    s.event 0x04 (.frame f) Code.channelRetired (natBE 1 0 ++ natBE 1 0xFF)) s
  if down then s.event 0x05 (.channel c) Code.channelRetired (natBE 4 0xFFFFFFFF ++ natBE 4 0)
  else mirror.foldl (fun s f => match (s.chan c).freeSpare with
    | some g => (s.modPage (c * chanPages + f) (fun d => { d with spare := some g })).modChan c
        (fun h => { h with spares := h.spares ++ [g] })
    | none => s) s

/-- SOLE_SELF_TEST_DONE (R221, R493): the test or the retraining of a channel ends; what it found takes effect at the next
boundary. -/
def execSoleSelfTestDone (c : Fin 8) (trained : Bool) (failing : List Nat) (s : State) :
    Host.Outcome State Fault Refusal :=
  if !s.live || s.chanCount ≤ c.val || (s.chan c.val).tested then .next s
  else .next ((s.modChan c.val (fun h => { h with tested := true })).later (.selfTest c.val trained failing))

/-! ### Suspect expiry, refills (R212, R214 to R216) -/

/-- A suspect-table entry expires 1,000,000 stitches after its failure (R212). -/
def execSuspectExpiry (c : Fin 8) (page : Nat) (s : State) : Host.Outcome State Fault Refusal :=
  let keep := fun x : Nat × Nat => x.1 ≠ page || s.now < x.2 + 1000000
  .next (s.modChan c.val (fun h => { h with suspects := h.suspects.filter keep }))

/-- The eyelet is marked or retired, or its welt is retired, so that the Larir issues nothing to it (R136, R621). -/
def State.eyeBad (s : State) (e : Nat) : Bool := (s.eye e).idBad || (s.eye e).retired || (s.welt (e / 8)).retired
/-- The eyelet is busy with a forwarded operation and not suspended (R132, R133, R702). -/
def State.eyeBusy (s : State) (e : Nat) : Bool := (s.eye e).busy.isSome

/-- SLOTMAP windows cover the mirror page, so its source follows the active slot (R160, R214). -/
def State.slotmapped (s : State) (k p : Nat) : Bool :=
  match s.findWindow k p with | some (_, w) => decide (winAction w = .slotmap) | none => false

/-- Where a refill of a mirror page reads (R214 step 2): eyelet and flash page. -/
def State.refillSource (s : State) (m : Nat) : Option (Nat × Nat) :=
  (s.pageOwner m).map (fun x =>
    let p := x.2.pdStart + (m - x.2.solePage.getD 0)
    let b := s.slotmapped x.1 p && (match s.weltPlat (x.1 / 2) with | some q => (s.plat q).map | none => false)
    segSlot (x.1 / 2) x.2 p b)

/-- A page that no good copy can be placed in (R215, R275): LOST, counted to its platform's account, and under RUNTIME_LOSS
the gated hold posted or the job left to wait for the next hold. -/
def State.pageLost (s : State) (m : Nat) : State :=
  let s := s.later (.page m .lost)
  match s.pageEntry m with
  | none => s
  | some (p, e, j) =>
    let s := s.eventInc 0x06 (.last (16 * p + e)) Code.pageDigestMismatch (natBE 4 j ++ natBE 1 0)
    let t := s.plat p
    let add := fun l : List (Nat × Nat) => if l.contains (e, j) then l else l ++ [(e, j)]
    let s := s.modPlat p (fun t => { t with waitingLost := add t.waitingLost })
    if (t.state = .released || t.state = .running) && (s.platRec p).runtimeLossHold then
      s.post 0x01 2 (natBE 1 p ++ natBE 1 2)
    else s

/-- The refill sequencer of a channel takes the next queued page (R214, R216). It waits while the source eyelet is busy
(R702); a source that is retired or ID_BAD leaves the page LOST (R621). -/
def execRefillStart (c : Fin 8) (s : State) : Host.Outcome State Fault Refusal :=
  let h := s.chan c.val
  match h.running, h.queue with
  | none, m :: q =>
    if !s.live then .next s else
    match s.refillSource m with
    | none => .next (s.modChan c.val (fun h => { h with queue := q }))
    | some (e, _) =>
      if s.eyeBad e then .next ((s.modChan c.val (fun h => { h with queue := q })).pageLost m)
      else if s.eyeBusy e then .next s
      else .next (s.modChan c.val (fun h => { h with queue := q, running := some { page := m, welt := e / 8 } }))
  | _, _ => .next s

/-- Compare faults of an awl (R248, R268), counted against the welt (R619 kind 1). -/
def State.awlFault (s : State) (n : Nat) : State :=
  { s with env := { s.env with compareFaults := tmod 0 s.env.compareFaults (weltAwl n) (satInc 0xFFFF) } }

/-- PAGE_CHECK sent to the partner for a page judgement, and the unit's own digest kept for the partner's (R521, R534). -/
def State.sendPageCheck (s : State) (l page readNo : Nat) (d : Digest) : State :=
  if s.paired && !s.pair.partnerLost then
    let own := (s.pair.ownReads ++ [(l, page, readNo, d)])
    let s := { s with pair := { s.pair with ownReads := own.drop (own.length - 256) } }
    s.toPartner 0x06 (natBE 2 l ++ natBE 4 page ++ natBE 1 readNo ++ digestBytes d)
  else s

/-! ### Epochs (R193, R194) -/

/-- The fill-epoch counter. -/
def State.epochCounter (s : State) : Nat := (s.word epochHiAddr % 65536) * 2 ^ 32 + s.word epochLoAddr
/-- The largest epoch number. -/
abbrev epochMax : Nat := 2 ^ 48 - 1

/-- The counter raised by one in MRAM, high word first when the low word would pass its end (R193). -/
def State.raiseEpoch (s : State) : State :=
  let n := s.epochCounter + 1
  if n % 2 ^ 32 = 0 then (s.setWord epochHiAddr (n / 2 ^ 32)).setWord epochLoAddr 0
  else s.setWord epochLoAddr (n % 2 ^ 32)

/-- The boundary at which a platform's new epoch starts (R194, R210, R226, R258): key, number, pages EMPTY, partitions and
latch records cleared. -/
def State.startEpoch (s : State) (p number : Nat) (key : BitVec 128) : State :=
  let runs := s.platRuns p
  let s := (s.emptyRuns runs).dropRefills runs
  let s := (s.platRec p).welts.foldl (fun s n => s.treadDropWelt n) s
  let s := { s with latches := s.latches.filter (fun e => e.1 / 16 ≠ p) }
  { s with sole := { s.sole with epoch := tset 0 s.sole.epoch p number,
                                 epochKey := tset none s.sole.epochKey p (some key) } }

/-! ### The aperture and the refresh rate (R44, R52, R223) -/

/-- What sector `k` of mirror page `m` reads as through the aperture: none while another aperture read has the channel's one S9
slot of the stitch (R44, R52, R224, R226). -/
def State.aperRead (s : State) (m k : Nat) (bad : Bool) : Option (Bytes × State) :=
  if !s.pageExists m then some (ones 256, s)
  else if (s.chan (pageChan m)).aperUsed then none
  else
    let s := s.modChan (pageChan m) (fun h => { h with aperUsed := true })
    if s.pageState m ≠ .valid then some (ones 256, s)
    else match if bad then none else s.sectorPlain m k with
      | none => some (ones 256, s.soleFailure m false)
      | some d => some (d, s)
/-- A core reads the sole aperture (R44, R52): plaintext of VALID sectors, all-ones otherwise; a sector whose tag or ECC fails
counts as a failure of the page and starts no refill (R226). A read lies within one sector and takes the channel's one S9 slot
for aperture reads; a second one in the stitch waits for the next (R224; log entry 75). -/
def execSoleApertureRead (core : Nat) (offset : BitVec 28) (len : Nat) (bad : Bool) (s : State) :
    Host.Outcome State Fault Refusal :=
  let region := tget 0 s.sel 0 % 64
  let addr := region * 2 ^ 28 + offset.toNat
  let m := addr / 4096
  if !s.live || 4 < core || len = 0 || 256 < len || 256 < offset.toNat % 256 + len then .next s
  else match s.aperRead m (addr / 256 % 16) bad with
    | none => .next s
    | some (d, s) => .next (s.emit (.coreRead (bytesAt d (addr % 256) len)))

/-- The hottest sensor crosses 85 °C: the refresh rate changes one stitch later (R223). -/
def execHotRefreshChange (code : Nat) (s : State) : Host.Outcome State Fault Refusal :=
  .next { s with sole := { s.sole with hotNext := some (2384 < code) } }

end Sys2Proof.Machine
end

