-- ==== Sys2Proof/Machine/Faults.lean ====
section
/-!
DEFINITION. Fault counts and thresholds (R253, R593, R619), and the evidence the heel finds for a retirement (R480).
-/
namespace Sys2Proof.Machine
open Sys2Proof

/-- Where the count of a kind and instance of R619 stands. -/
def faultKey (kind inst : Nat) : Nat := kind * 4096 + inst
/-- The count of a kind and instance. -/
def State.fault (s : State) (kind inst : Nat) : FaultRec := tget {} s.env.faults (faultKey kind inst)
/-- The count changed. -/
def State.modFault (s : State) (kind inst : Nat) (f : FaultRec → FaultRec) : State :=
  { s with env := { s.env with faults := tmod {} s.env.faults (faultKey kind inst) f } }

/-- The subject of a fault kind. -/
def faultSubject (kind inst : Nat) : Subject :=
  match kind with | 0 => .eyelet inst | 1 => .welt inst | 2 => .welt inst | _ => .port inst

/-- One fault counted (R619): consecutive, in the window, in all; it becomes permanent when either count reaches its
threshold, and then makes a FAULT record with FAULT_PERMANENT and, for what the heel retires, posts the retirement. A shadow fault
retires its welt in the unit that counted it, whatever its role (R522). -/
def State.countFault (s : State) (kind inst code : Nat) : State :=
  let t := s.threshold kind
  let old := s.fault kind inst
  let times := old.times.filter (fun x => s.now < x + max t.window 1000000) ++ [s.now]
  let inWin := (times.filter (fun x => s.now < x + t.window)).length
  let cons := old.consecutive + 1
  let perm : Bool := old.permanent || t.consecutive ≤ cons || t.count ≤ inWin
  let s := s.modFault kind inst (fun f => { f with consecutive := cons, times := times,
                                                   total := satInc 0xFFFF f.total, permanent := perm })
  let s := s.eventInc 0x03 (faultSubject kind inst) (if perm && !old.permanent then Code.faultPermanent else code)
    (natBE 1 kind ++ natBE 1 (min 255 cons) ++ natBE 2 (min 0xFFFF inWin))
  if perm && !old.permanent then
    match kind with
    | 0 => s.post 0x08 2 (natBE 1 1 ++ natBE 4 inst)
    | 1 => s.post 0x08 2 (natBE 1 2 ++ natBE 4 inst)
    | 3 => s.post 0x08 2 (natBE 1 3 ++ natBE 4 inst)
    | _ => { s with pair := { s.pair with
        shadowRetired := s.pair.shadowRetired ++ [inst] } }
  else s

/-- A success resets the consecutive count (R619). -/
def State.faultOk (s : State) (kind inst : Nat) : State := s.modFault kind inst (fun f => { f with consecutive := 0 })

/-- An awl compare fault: counted for the awl and against the welt (R248, R268, R619 kind 1). -/
def State.compareFault (s : State) (n : Nat) : State := (s.awlFault n).countFault 1 n Code.verifyCompareFault

/-- A refill of the partner as a unit that shadows runs it on the bytes it observes (R520, R521): the page is the one of the oldest
PAGE_CHECK on the channel whose read this unit has not made itself. Its digest goes to the partner; a page that this unit does not
hold VALID is sealed when it matches its own entry. -/
def State.observedRefill (s : State) (c : Nat) (data : Bytes) : State :=
  if !s.live || !s.shadowing || (s.chan c).running.isSome || data.length ≠ 4096 then s
  else match s.pair.theirReads.findSome? (fun t => (s.lastEntry? t.1).bind (fun x => (s.lastSegment x).solePage.bind (fun b =>
      let own := (s.plat (t.1 / 16)).fill.any (fun f => f.cur = some (t.1 % 16) && f.pages.contains t.2.1)
      if pageChan (b + t.2.1) = c && t.2.2.1 = 0 && !own then some (t.1, t.2.1, b + t.2.1, x.pd / 2) else none))) with
    | none => s
    | some (l, j, m, w) =>
      let s := s.sendPageCheck l j 0 (sm3 data)
      if some (sm3 data) ≠ s.pageDigest m || s.pageState m = .valid || (s.page m).noFrame then s
      else (s.writePage m data).modChan c (fun h => { h with
        queue := h.queue.filter (· ≠ m)
        running := some { page := m, welt := w, digest := s.pageDigest m, credit := 4096, matched := true } })

/-- The read of a refill ends (R214 step 5, R215): its page digest is compared with the digest entry the sequencer holds. The
read waits for a busy eyelet (R702). A match is sealed and written out in S8 slots and becomes VALID; a mismatch, or a source
that is retired or ID_BAD, leaves the page LOST (R621); a compare fault counts against the welt and the page is queued again
(R247, R248; log entry 75). -/
def execRefillDone (c : Fin 8) (data : Bytes) (cmpFault : Bool) (s : State) : Host.Outcome State Fault Refusal :=
  match (s.chan c.val).running, (s.chan c.val).running.bind (·.digest), (s.chan c.val).running.bind (fun f => s.refillSource f.page) with
  | some f, some want, some (e, _) =>
    if !s.live || f.matched || f.credit < 4096 || data.length ≠ 4096 then .next s
    else if s.eyeBad e then .next ((s.modChan c.val (fun h => { h with running := none })).pageLost f.page)
    else if s.eyeBusy e then .next s
    else if cmpFault then
      .next ((s.compareFault f.welt).modChan c.val (fun h => { h with running := none, queue := h.queue ++ [f.page] }))
    else
    let s := match s.pageEntry f.page with
      | some (p, e, j) => s.sendPageCheck (16 * p + e) j 0 (sm3 data)
      | none => s
    if sm3 data = want then
      .next (((s.writePage f.page data).modChan c.val (fun h => { h with running := some { f with matched := true } })).faultOk
        0 e |>.faultOk 1 f.welt)
    else .next ((s.modChan c.val (fun h => { h with running := none })).pageLost f.page)
  | _, _, _ => .next (s.observedRefill c.val data)

/-- The matching T_ field of a forwarded operation (R619). -/
def tField (r : EyeletRec) : FwdKind → Nat
  | .program => r.tProgram
  | .vendor => r.tProgram
  | .erase4K => r.tErase4K
  | .erase32K => r.tErase32K
  | .erase64K => r.tErase64K

end Sys2Proof.Machine
end

