-- ==== Sys2Proof/Machine/Sfdp.lean ====
section
/-!
DEFINITION. The SFDP space (R108, R109): what the rules give at the places JESD216F assigns, over the bits that only that
standard gives (log entry 3).
-/
namespace Sys2Proof.Machine
open Sys2Proof

/-- A field the rules give in a DWORD: lowest bit, width, value. -/
abbrev SfdpField := Nat × Nat × Nat

/-- Size of a presented device as the density DWORD has it: bits minus 1, or above 2 Gbit bit 31 and the exponent. -/
def densityFields (sizeLog2 : Nat) : List SfdpField :=
  if sizeLog2 + 3 ≤ 31 then [(0, 32, 2 ^ (sizeLog2 + 3) - 1)] else [(0, 31, sizeLog2 + 3), (31, 1, 1)]

/-- The Basic Flash Parameter Table: DWORD `i` counted from 1 (R109). -/
def bfptFields (r : PdRec) (i : Nat) : List SfdpField :=
  let quad := b2n (r.modes.testBit 1)
  match i with
  | 1 => [(0, 2, 1), (8, 8, 0x20), (16, 1, 0), (17, 2, if r.powerupAddr4 then 2 else 1), (19, 1, b2n (r.modes.testBit 3)),
          (20, 1, 0), (21, 1, b2n (r.modes.testBit 0)), (22, 1, b2n (r.modes.testBit 0))]
  | 2 => densityFields r.sizeLog2
  | 3 => [(0, 5, r.dummy), (5, 3, 0), (8, 8, 0xEB), (16, 5, r.dummy), (21, 3, 0), (24, 8, 0x6B)]
  | 5 => [(0, 1, 0), (4, 1, quad)]
  | 7 => if quad = 1 then [(16, 5, r.dummy), (21, 3, 0), (24, 8, 0xEB)] else []
  | 8 => [(0, 8, 12), (8, 8, 0x20), (16, 8, 15), (24, 8, 0x52)]
  | 9 => [(0, 8, 16), (8, 8, 0xD8), (16, 8, 0)]
  | 11 => [(4, 4, 8)]
  | _ => []

/-- The 4-byte opcodes of R97 and their bits in the 4-Byte Address Instruction Table. -/
def fourByteBits : List (Nat × Nat) :=
  [(0x13, 0), (0x0C, 1), (0x6C, 4), (0xEC, 5), (0x12, 6), (0x34, 7), (0x21, 9), (0x5C, 10), (0xDC, 11), (0xEE, 15), (0xCC, 21), (0x8E, 24)]
/-- Bits of that table for opcodes the Larir does not have. -/
def fourByteOff : List Nat := [2, 3, 8, 12, 13, 14, 16, 17, 18, 19, 20, 22, 23]
/-- The 4-Byte Address Instruction Table. -/
def State.fourByteFields (s : State) (k i : Nat) : List SfdpField :=
  match i with
  | 1 => fourByteBits.map (fun x => (x.2, 1, b2n (omEn (s.opWord k x.1)))) ++ fourByteOff.map (fun b => (b, 1, 0))
  | 2 => (fourByteBits.filter (fun x => 9 ≤ x.2 && x.2 ≤ 11 && omEn (s.opWord k x.1))).map
      (fun x => (8 * (x.2 - 9), 8, x.1))
  | _ => []

/-- The xSPI Profile 1.0 table: the read opcode, and D at each frequency not above the device's maximum clock; 0 marks one not
supported (R109). -/
def xspiFields (r : PdRec) (i : Nat) : List SfdpField :=
  let d := fun mhz => if mhz ≤ r.clockMax then r.dummy else 0
  match i with
  | 1 => [(8, 8, 0xEE)]
  | 4 => [(7, 5, d 200)]
  | 5 => [(27, 5, d 166), (17, 5, d 133), (7, 5, d 100)]
  | _ => []

/-- The parameter header of a table: its 16-bit ID, length in DWORDs and pointer. -/
def paramHeader (id len ptr i : Nat) : List SfdpField :=
  match i with
  | 0 => [(0, 8, id % 256), (24, 8, len)]
  | _ => [(0, 24, ptr), (24, 8, id / 256)]

/-- What R108 and R109 give in the DWORD at an SFDP address that is a multiple of 4. -/
def State.sfdpFields (s : State) (k a : Nat) : List SfdpField :=
  let r := s.pdRec k
  if a = 0 then [(0, 32, 0x50444653)]
  else if a = 4 then [(16, 8, 2), (24, 8, 0xFF)]
  else if a < 0x10 then paramHeader 0xFF00 20 0x80 (a / 4 % 2)
  else if a < 0x18 then paramHeader 0xFF84 2 0xD0 (a / 4 % 2)
  else if a < 0x20 then paramHeader 0xFF05 6 0xE0 (a / 4 % 2)
  else if 0x80 ≤ a && a < 0xD0 then bfptFields r ((a - 0x80) / 4 + 1)
  else if 0xD0 ≤ a && a < 0xD8 then s.fourByteFields k ((a - 0xD0) / 4 + 1)
  else if 0xE0 ≤ a && a < 0xF8 then xspiFields r ((a - 0xE0) / 4 + 1)
  else []

/-- What of a presented device the times of R109 depend on. -/
def State.sfdpKey (s : State) (k : Nat) : Bytes :=
  let r := s.pdRec k
  let t := match r.segments.head? with | some g => s.eyeRec (8 * (k / 2) + g.eyeletA) | none => {}
  natBE 4 t.tErase4K ++ natBE 4 t.tErase32K ++ natBE 4 t.tErase64K ++ natBE 4 t.tProgram

/-- A DWORD with the given fields placed over it. -/
def placeFields (base : Nat) (fs : List SfdpField) : Nat :=
  fs.foldl (fun v f => v - bitsOf v (f.1 + f.2.1 - 1) f.1 * 2 ^ f.1 + f.2.2 % 2 ^ f.2.1 * 2 ^ f.1) base

/-- The SFDP space has a table or header at the address (R108). -/
def sfdpListed (a : Nat) : Bool := a < 0x20 || (0x80 ≤ a && a < 0xD8) || (0xE0 ≤ a && a < 0xF8)

/-- One byte of the SFDP space (R108, R109); DWORDs lie least significant byte first, as JESD216F has them. -/
def State.sfdpByte (s : State) (k a : Nat) : Byte :=
  if !sfdpListed a then 0xFF
  else
    let w := a / 4 * 4
    let open_ := (List.range 4).foldl (fun v i => v + (Config.jesd216 (w + i) (s.sfdpKey k)).toNat * 256 ^ i) 0
    BitVec.ofNat 8 (placeFields open_ (s.sfdpFields k w) / 256 ^ (a % 4))

end Sys2Proof.Machine
end

