-- ==== Sys2Proof/Machine/HostRead.lean ====
section
/-!
DEFINITION. Host commands that read (chapter 03, 04, 05): decoding, READ and FAST_READ from the sole, the eyelet or the
mailbox, and the answers of the register file.
-/
namespace Sys2Proof.Machine
open Sys2Proof

/-- The welt decodes its host port: enabled, not in host reset, powered, and the unit drives it or shadows it (R6, R24, R115,
R503, R520). In the gap of a takeover what the host sends is lost (R519; log entry 38). -/
def State.decodes (s : State) (h : HostCmd) : Bool :=
  s.live && h.welt.val < s.weltCount && !(s.welt h.welt.val).hrstLow && !(s.welt h.welt.val).retired &&
    (s.drives || (s.shadowing && !s.inGap))

/-- Bytes driven on the host port, by a unit that drives it (R95). -/
def State.toHost (s : State) (n : Nat) (data : Bytes) : State := if s.drives then s.emit (.host n data) else s
/-- A transaction on an eyelet's flash port, by a unit that drives it. -/
def State.toFlash (s : State) (e : Nat) (op : Byte) (addr : Option Nat) (data : Bytes) : State :=
  if s.drives then s.emit (.flash e op addr data) else s

/-- A host chip select falls on a released welt: the Larir's own reads there are cut, and their data are kept up to the last
complete 16-byte unit (R139; log entry 69). -/
def State.cutReads (s : State) (n : Nat) : State :=
  if !s.weltReleased n then s
  else
    let s := if (s.welt n).credit % 16 = 0 then s else s.modWelt n (fun w => { w with credit := w.credit / 16 * 16 })
    match (s.chan (weltChannel n)).running with
    | some f => if f.welt = n && !f.matched && f.credit % 16 ≠ 0 then
        s.modChan (weltChannel n) (fun c => { c with running := some { f with credit := f.credit / 16 * 16 } }) else s
    | none => s

/-- The prelude of every host command: a command of another row, or on a welt that does not decode, changes nothing; an
incomplete one is discarded and counted (R101); an unmapped one is ignored and counted (R100); any other disarms 0x66 (R114)
and goes on as decoded. -/
def State.hostCommand (s : State) (h : HostCmd) (ops : List Nat) (go : Decoded → State → State) : State :=
  if !ops.contains h.opcode.toNat || !s.decodes h then s
  else
    let s := s.cutReads h.welt.val
    if !h.complete then s.countDiscarded h.welt.val
    else match s.decodeHost h with
    | none =>
      let s := s.countUnmapped h.welt.val
      let s := if (s.pdRec? (hostPd h)).isSome then s.modPd (hostPd h) (fun p => { p with armed := false }) else s
      s.emit (.hostHiZ h.welt.val)
    | some d => go d (s.modPd d.pd (fun p => { p with armed := false }))

/-! ### When first data is due and ready (R117, R118, R121, R122) -/

/-- First data is late: ready `num / den` ns after the last address cycle, due D clocks or D + 1/2 clocks after it (R121). -/
def isLate (num den dummy clockMHz : Nat) (dtr : Bool) : Bool :=
  if dtr then dummy * 1000 * den < num * clockMHz else (2 * dummy + 1) * 1000 * den < 2 * num * clockMHz
/-- Late both by when the data came, in tenths of ns, and by the bound `num / den` ns that the Larir keeps. -/
def lateBy (ready num den dummy clockMHz : Nat) (dtr : Bool) : Bool :=
  isLate ready 10 dummy clockMHz dtr && isLate num den dummy clockMHz dtr

/-! ### Bursts -/

/-- Where a page of a read burst comes from (R123). -/
inductive ReadSrc where
  | sole | eyelet (e : Nat) | mailbox (k : Nat) | none_
  deriving DecidableEq, Repr

/-- The source of a page under an allowing window (R98, R157). -/
def State.readSrc (s : State) (k page : Nat) (w : WindowWord) : ReadSrc :=
  match (s.pdRec k).segmentOf page with
  | none => match winAction w with
    | .mailbox => if (s.weltPlat (k / 2)).isSome then .mailbox k else .none_
    | _ => .none_
  | some g => match winAction w with
    | .passR => .eyelet (segA (k / 2) g page).1
    | .passRW => .eyelet (segA (k / 2) g page).1
    | .sole => .sole
    | .slotmap => .sole
    | .mailbox => if (s.weltPlat (k / 2)).isSome then .mailbox k else .none_
    | _ => .none_

/-- The page of a presented device is answered with all-ones because its entry is excluded (R281). -/
def State.pageExcluded (s : State) (k page : Nat) : Bool :=
  match s.weltPlat (k / 2) with
  | none => false
  | some p => (s.platRec p).lasts.any (fun x => x.pd = k && (s.plat p).excluded.testBit x.entry &&
      (s.lastSegment x).pdStart ≤ page && page < (s.lastSegment x).pdStart + (s.lastSegment x).pageCount)

/-- The mirror page of a presented page. -/
def State.mirrorOf (s : State) (k page : Nat) : Option Nat :=
  ((s.pdRec k).segmentOf page).bind (fun g => segMirror g page)

/-- The page is served from the sole: VALID and not excluded (R200, R281). -/
def State.soleServes (s : State) (k page : Nat) : Bool :=
  match s.mirrorOf k page with
  | some m => s.pageState m = .valid && !s.pageExcluded k page
  | none => false

/-- A burst in progress: what the host has been given, and whether it has ended in all-ones. -/
structure Burst where
  data : Bytes := []
  ended : Bool := false
  deriving DecidableEq, Repr

/-- All-ones for the rest of the burst. -/
def Burst.endIt (b : Burst) (rest : Nat) : Burst := { data := b.data ++ ones rest, ended := true }

/-- One sector of a sole-served burst (R203, R204, R206, R209): `n` bytes at mirror byte address `a` for welt `w`, from a good
line or from the opened sole copy. Each sector completed from a line counts a rescue, so a burst may count several (DESIGN CHOICE,
log entry 78); a `late` burst, answered all-ones, completes none (R122, R204). -/
def State.soleSector (s : State) (w a n : Nat) (r : ReadArgs) (late : Bool := false) : Option Bytes × State :=
  let sec := a / 256
  let s := if r.badLines.contains sec then s.treadBad w sec else s
  let copy := if r.badSectors.contains sec then none else s.sectorPlain (sec / 16) (sec % 16)
  match copy, s.treadLine w sec with
  | some _, some l => (some (bytesAt l (a % 256) n), s.treadUse w sec l)
  | some d, none => (some (bytesAt d (a % 256) n), s.treadUse w sec d)
  | none, some l =>
    (some (bytesAt l (a % 256) n),
      if late then s.soleFailure (sec / 16)
      else (s.soleFailure (sec / 16)).modChan (weltChannel w) (fun c => { c with rescues := satInc 0xFFFF c.rescues }))
  | none, none => (none, s.soleFailure (sec / 16))

/-- The sectors of one page of a sole-served burst: `todo` bytes from mirror byte address `a`; `fuel` sectors at most. -/
def State.soleBurst (s : State) (w : Nat) (r : ReadArgs) : Nat → Nat → Nat → Burst → Burst × State
  | 0, _, _, b => (b, s)
  | fuel + 1, a, todo, b =>
    if todo = 0 then (b, s)
    else
      let n := min todo (256 - a % 256)
      match s.soleSector w a n r with
      | (some d, s) => s.soleBurst w r fuel (a + n) (todo - n) { b with data := b.data ++ d }
      | (none, s) => (b.endIt todo, s)

/-- Bytes of a presented device's mailbox page (R157, R282). -/
def State.mailboxRead (s : State) (k off n : Nat) : Bytes := Memory.readN 0xFF (s.pd k).mailbox off n

/-- The flash page of a presented page behind a pass-through window (R113, R158). -/
def State.passPage (s : State) (k page : Nat) : Nat :=
  (((s.pdRec k).segmentOf page).map (fun g => (segA (k / 2) g page).2)).getD 0
/-- The read on the flash port of a page of a pass-through burst: one at its beginning, and one at each page that does not follow
the page before it in flash (R113). A vendor command keeps its own opcode; any other's is open: log entry 42. -/
def State.passRead (s : State) (d : Decoded) (e a : Nat) (first : Bool) : State :=
  let k := d.pd
  let page := a / 4096
  let before := (a + 2 ^ (s.pdRec k).sizeLog2 - 1) % 2 ^ (s.pdRec k).sizeLog2 / 4096
  let op := if d.cls = .vendor then BitVec.ofNat 8 d.op else Config.flashReadOp (s.eyeRec e).mode
  if !first && (page = before || s.passPage k page = s.passPage k before + 1) then s
  else s.toFlash e op (some (s.passPage k page * 4096 + a % 4096)) []

/-- The pages of a read burst, one after another (R123, R168, R281): `a` presented address, `todo` bytes left, `src` the
burst's source. The record of a page denied later carries that page's first address and the whole burst's length (log entry 78). -/
def State.burstPages (s : State) (d : Decoded) (r : ReadArgs) (src : ReadSrc) :
    Nat → Nat → Nat → Burst → Burst × State
  | 0, _, _, b => (b, s)
  | fuel + 1, a, todo, b =>
    if todo = 0 || b.ended then (b, s)
    else
      let a := a % 2 ^ (s.pdRec d.pd).sizeLog2
      let page := a / 4096
      let n := min todo (4096 - a % 4096)
      let w := d.pd / 2
      let first := b.data.length = 0
      let judged : Option State × ReadSrc :=
        if first then (some s, src)
        else match s.judgePage d page with
          | .allow (some (_, win)) => (some s, s.readSrc d.pd page win)
          | .deny reason win => (some (s.noteDeny d reason win (page * 4096) r.len), .none_)
          | _ => (some s, .none_)
      let s := judged.1.getD s
      if judged.2 ≠ src || src = .none_ || s.pageExcluded d.pd page then (b.endIt todo, s.countCross w)
      else match src with
        | .sole =>
          if s.soleServes d.pd page then
            let m := (s.mirrorOf d.pd page).getD 0
            let (b', s) := s.soleBurst w r 17 (m * 4096 + a % 4096) n b
            if b'.ended then ({ data := b.data ++ (b'.data.drop b.data.length) ++ ones (todo - n), ended := true }, s)
            else s.burstPages d r src fuel (a + n) (todo - n) b'
          else (b.endIt todo, s.countCross w)
        | .eyelet e =>
          (s.passRead d e a first).burstPages d r src fuel (a + n) (todo - n)
            { b with data := b.data ++ fit n 0xFF (bytesAt r.flash b.data.length n) }
        | .mailbox k => s.burstPages d r src fuel (a + n) (todo - n) { b with data := b.data ++ s.mailboxRead k (a % 4096) n }
        | .none_ => (b.endIt todo, s.countCross w)

/-- The sector after the last one driven is prefetched, and placed in the tread cache at CS# rise when its tag passed
(R205, R206). -/
def State.prefetch (s : State) (d : Decoded) (r : ReadArgs) (endAddr : Nat) : State :=
  if r.len = 0 then s else
  let a := ((endAddr - 1) / 256 + 1) * 256 % 2 ^ (s.pdRec d.pd).sizeLog2
  let page := a / 4096
  let same := (endAddr - 1) / 4096 = page
  let ok := same || (match s.judgePage d page with
    | .allow (some (_, win)) => decide (s.readSrc d.pd page win = .sole)
    | _ => false)
  if ok && s.soleServes d.pd page then
    let sec := ((s.mirrorOf d.pd page).getD 0) * 16 + (a % 4096) / 256
    match if r.badSectors.contains sec then none else s.sectorPlain (sec / 16) (sec % 16) with
    | some data => s.treadUse (d.pd / 2) sec data
    | none => s.soleFailure (sec / 16)
  else s

/-- SHADOW_OK of a platform (R522, R523): the standby's own latches cover the boot set and no welt of it is
shadow-retired. -/
def State.shadowOk (s : State) (p : Nat) : Bool :=
  s.pair.role = .standby && (s.platRec? p).isSome &&
    ((s.platRec p).lasts.filter (·.boot)).all (fun x => (s.latch (16 * p + x.entry)).latched) &&
    !(s.platRec p).welts.any (fun n => s.pair.shadowRetired.contains n)

/-- A standby with SHADOW_OK compares a sole-served or pass-through burst with what it sees on the host bus (operand `bus`), skipping
pages it does not hold VALID, and sends an ANSWER_CHECK at the first differing byte (R524). -/
def State.answerCompare (s : State) (d : Decoded) (r : ReadArgs) (data : Bytes) : State :=
  match s.weltPlat (d.pd / 2) with
  | none => s
  | some p =>
    let held := fun i : Nat => match s.mirrorOf d.pd ((d.addr + i) / 4096) with
      | some m => decide (s.pageState m = .valid)
      | none => false
    if s.shadowOk p then
      match (List.range (min data.length r.bus.length)).find? (fun i => data[i]? ≠ r.bus[i]? && held i) with
      | some i => s.toPartner 0x07 (natBE 1 (d.pd / 2) ++ natBE 4 (d.addr + i) ++ natBE 8 s.now)
      | none => s
    else s

/-- A read burst that the clicker allows (R98, R113, R117 to R123, R133, R136, R281). -/
def State.serveRead (s : State) (h : HostCmd) (d : Decoded) (r : ReadArgs) (src : ReadSrc) : State :=
  let w := h.welt.val
  let dtr := (s.pd d.pd).mode = 3
  match src with
  | .eyelet e =>
    let y := s.eyeRec e
    if s.eyeBad e || s.eyeBusy e then s.toHost w (ones r.len)
    else if lateBy r.ready (45 * y.clock + 1000 * y.flashDummy) y.clock d.dummy h.clockMHz dtr then
      (s.countLate w).toHost w (ones r.len)
    else
      let (b, s) := s.burstPages d r src (r.len + 1) d.addr r.len {}
      let s := if s.shadowing then s.answerCompare d r b.data else s
      s.toHost w b.data
  | .mailbox _ =>
    if lateBy r.ready 40 1 d.dummy h.clockMHz dtr then (s.countLate w).toHost w (ones r.len)
    else
      let (b, s) := s.burstPages d r src (r.len + 1) d.addr r.len {}
      s.toHost w b.data
  | .sole =>
    let sec := ((s.mirrorOf d.pd d.page).getD 0) * 16 + (d.addr % 4096) / 256
    let hit := s.treadHit w sec && !r.badLines.contains sec
    let copyOk := !r.badSectors.contains sec && (s.sectorPlain (sec / 16) (sec % 16)).isSome
    let served := s.soleServes d.pd d.page && (hit || copyOk)
    if served && !hit && r.overrun then (if r.badLines.contains sec then s.treadBad w sec else s).toHost w (ones r.len)
    else if served && lateBy r.ready (if hit then 40 else 180) 1 d.dummy h.clockMHz dtr then
      let a := ((s.mirrorOf d.pd d.page).getD 0) * 4096 + d.addr % 4096
      ((s.soleSector w a 1 r true).2.countLate w).toHost w (ones r.len)
    else
      let (b, s) := s.burstPages d r src (r.len + 1) d.addr r.len {}
      let s := if b.ended then s else s.prefetch d r (d.addr + r.len)
      let s := if s.shadowing then s.answerCompare d r b.data else s
      s.toHost w b.data
  | .none_ => (s.countCross w).toHost w (ones r.len)

/-- A host read command of any class that is judged by pages (R165, R171, R173). -/
def State.hostRead (s : State) (h : HostCmd) (d : Decoded) (r : ReadArgs) : State :=
  match s.judge d with
  | .ignored => s
  | .deny reason win => (s.noteDeny d reason win d.addr r.len).toHost h.welt.val (ones r.len)
  | .allow (some (_, w)) => (s.countWin w true).serveRead h d r (s.readSrc d.pd d.page w)
  | .allow none => s

/-- READ: 0x03, 0x13 (R97, R98). -/
def execRead (h : HostCmd) (r : ReadArgs) (s : State) : Host.Outcome State Fault Refusal :=
  .next (s.hostCommand h [0x03, 0x13] (fun d s => s.hostRead h d r))

/-- FAST_READ: 0x0B, 0x0C, 0x6B, 0x6C, 0xEB, 0xEC, 0xCB, 0xCC, 0xEE (R97, R98). -/
def execFastRead (h : HostCmd) (r : ReadArgs) (s : State) : Host.Outcome State Fault Refusal :=
  .next (s.hostCommand h [0x0B, 0x0C, 0x6B, 0x6C, 0xEB, 0xEC, 0xCB, 0xCC, 0xEE] (fun d s => s.hostRead h d r))

/-! ### The register file (R99, R107 to R109) -/

/-- READ_STATUS 0x05: the status register, repeated (R97, R99, R102). -/
def execReadStatus (h : HostCmd) (len : Nat) (s : State) : Host.Outcome State Fault Refusal :=
  .next (s.hostCommand h [0x05] (fun d s => s.toHost h.welt.val (fill len (s.statusReg d.pd))))

/-- 0x70: the flag status register, repeated (R97, R99, R103). -/
def execReadFlagStatus (h : HostCmd) (len : Nat) (s : State) : Host.Outcome State Fault Refusal :=
  .next (s.hostCommand h [0x70] (fun d s => s.toHost h.welt.val (fill len (s.flagReg d.pd))))

/-- 0x71: the configuration register, repeated (R97, R99, R105). -/
def execReadConfiguration (h : HostCmd) (len : Nat) (s : State) : Host.Outcome State Fault Refusal :=
  .next (s.hostCommand h [0x71] (fun d s => s.toHost h.welt.val (fill len (s.configReg d.pd))))

/-- READ_ID 0x9F: the pattern's ID bytes, then 0xFF (R107). -/
def execReadId (h : HostCmd) (len : Nat) (s : State) : Host.Outcome State Fault Refusal :=
  .next (s.hostCommand h [0x9F] (fun d s => s.toHost h.welt.val (fit len 0xFF (s.pdRec d.pd).id)))

/-- READ_SFDP 0x5A (R99, R108, R165): the tables once BARE_MASK allows them, ready within 40 ns. -/
def execReadSfdp (h : HostCmd) (len : Nat) (s : State) : Host.Outcome State Fault Refusal :=
  .next (s.hostCommand h [0x5A] (fun d s =>
    match s.judge d with
    | .deny reason win => (s.noteDeny d reason win 0 len).toHost h.welt.val (ones len)
    | .allow _ =>
      if isLate 40 1 8 h.clockMHz ((s.pd d.pd).mode = 3) then (s.countLate h.welt.val).toHost h.welt.val (ones len)
      else
        let a := if 2 ≤ (s.pd d.pd).mode then h.addr.toNat else h.addr.toNat % 2 ^ 24
        s.toHost h.welt.val ((List.range len).map (fun i => s.sfdpByte d.pd (a + i)))
    | .ignored => s))

/-- 0x48: security register reads are denied and return all-ones (R98, R154, R171). -/
def execSecurityRegRead (h : HostCmd) (len : Nat) (s : State) : Host.Outcome State Fault Refusal :=
  .next (s.hostCommand h [0x48] (fun d s =>
    match s.judge d with
    | .deny reason win => (s.noteDeny d reason win 0 len).toHost h.welt.val (ones len)
    | _ => s))

end Sys2Proof.Machine
end

