-- ==== Sys2Proof/Machine/HostWrite.lean ====
section
/-!
DEFINITION. Host commands that write (chapters 03 and 04): programs, erases, vendor commands, the emulated registers,
suspend and resume, resets, and the Larir's own status polls and eyelet initialisation.
-/
namespace Sys2Proof.Machine
open Sys2Proof

/-- The platform's flag bit that UPDATE windows avoid: they address the eyelet of the inactive slot (R158). -/
def State.updateTarget (s : State) (k page : Nat) : Option (Nat × Nat) :=
  ((s.pdRec k).segmentOf page).map (fun g =>
    segSlot (k / 2) g page (!(match s.weltPlat (k / 2) with | some p => (s.plat p).map | none => false)))

/-- Where an allowed write goes (R157, R158): eyelet and flash page. -/
def State.writeTarget (s : State) (k page : Nat) (w : WindowWord) : Option (Nat × Nat) :=
  match winAction w with
  | .update => s.updateTarget k page
  | _ => ((s.pdRec k).segmentOf page).map (fun g => segA (k / 2) g page)

/-- A write command forwarded (R124, R127, R131): write enable where it needs WEL (log entry 42), the transaction, the
eyelet busy, WEL clear; a write under an
UPDATE window renews the host lease (R290). -/
def State.forward (s : State) (k e : Nat) (kind : FwdKind) (op : Byte) (addr : Option Nat) (data : Bytes) (wel : Bool)
    (update : Bool) : State :=
  let s := if wel then s.toFlash e 0x06 none [] else s
  let s := s.toFlash e op addr data
  let s := s.modEye e (fun y => { y with busy := some { kind := kind, pd := k, start := s.now }, polled := none })
  let s := if wel then s.clearWel k else s
  match (if update then s.weltPlat (k / 2) else none) with
  | some p => s.modPlat p (fun t => { t with lease := t.lease.map (fun l => { l with lastData := s.now }) })
  | none => s

/-- The bytes of a program that count (R125): the last 256 received, and the offset in the 256-byte page where they start. -/
def programTail (off : Nat) (data : Bytes) : Nat × Bytes :=
  ((off + (data.length - 256)) % 256, data.drop (data.length - 256))

/-- A program stored into the mailbox page (R125, R282): bytes as sent, wrapping in the 256-byte page, status block left. -/
def mailboxStore (base : Nat) : Nat → Bytes → Tbl Byte → Tbl Byte
  | _, [], m => m
  | off, b :: bs, m =>
    let a := base + off % 256
    mailboxStore base (off + 1) bs (if 0x40 ≤ a && a < 0x80 then m else Memory.write 0xFF m a b)

/-- CMD of a command block. -/
def blkCmd (b : Bytes) : Nat := fieldAt b 2 1
/-- SEQ of a command block. -/
def blkSeq (b : Bytes) : Nat := fieldAt b 3 1
/-- LEN of a command block. -/
def blkLen (b : Bytes) : Nat := fieldAt b 4 2
/-- The block keeps to R283. -/
def blkOk (b : Bytes) : Bool :=
  fieldAt b 0 2 = 0x4D42 && 1 ≤ blkCmd b && blkCmd b ≤ 4 && allZero (bytesAt b 6 58) &&
  (if blkCmd b = 4 then 1 ≤ blkLen b && blkLen b ≤ 3968 else blkLen b = 0)

/-- A program captured by a MAILBOX window; writing byte 0x002 makes the command block a command, and a
BOOT_DONE taken in phase BOOT is latched (R38, R283, R315). -/
def State.mailboxProgram (s : State) (k p addr : Nat) (data : Bytes) : State :=
  let a := addr % 4096
  let base := a / 256 * 256
  let (off, kept) := programTail (a % 256) data
  let s := s.modPd k (fun d => { d with mailbox := mailboxStore base off kept d.mailbox })
  let touched := base = 0 && (List.range kept.length).any (fun i => (off + i) % 256 = 2)
  if touched then
    let b := Memory.readN 0xFF (s.pd k).mailbox 0 64
    s.modPlat p (fun t =>
      { t with mboxQueue := t.mboxQueue ++ [(k, b)], mailboxPending := true
               bootDoneSeen := t.bootDoneSeen || (t.phase = .boot && blkOk b && blkCmd b = 1) })
  else s

/-- A program that is not carried out and ended other than on a byte boundary is counted in DISCARDED too (R126). -/
def State.ragged (s : State) (n : Nat) (w : WriteArgs) : State := if w.byteAligned then s else s.countDiscarded n

/-- PROGRAM: 0x02, 0x12, 0x32, 0x34, 0x8E (R124 to R132, R157, R165, R171). One that ends off a byte boundary to an eyelet that
is busy and not suspended sends nothing to it (R126, R132; log entry 81). -/
def execProgram (h : HostCmd) (w : WriteArgs) (s : State) : Host.Outcome State Fault Refusal :=
  .next (s.hostCommand h [0x02, 0x12, 0x32, 0x34, 0x8E] (fun d s =>
    match s.judge d with
    | .ignored => s
    | .deny reason win => ((s.noteDeny d reason win d.addr w.data.length).quiet d.pd true).ragged h.welt.val w
    | .allow none => s
    | .allow (some (_, win)) =>
      let s := s.countWin win true
      if winAction win = .mailbox then
        if !w.byteAligned then (s.clearWel d.pd).countDiscarded h.welt.val
        else if w.data.length = 0 then s.clearWel d.pd
        else match s.weltPlat h.welt.val with
          | some p => (s.mailboxProgram d.pd p d.addr w.data).clearWel d.pd
          | none => s.clearWel d.pd
      else match s.writeTarget d.pd d.page win with
        | none => s.quiet d.pd true
        | some (e, fp) =>
          if s.eyeBad e then (s.quiet d.pd true).ragged h.welt.val w
          else if !w.byteAligned then
            let s := if s.eyeBusy e then s else (s.toFlash e 0x06 none []).toFlash e 0x04 none []
            (s.clearWel d.pd).countDiscarded h.welt.val
          else if s.eyeBusy e then (s.clearWel d.pd).countDiscarded h.welt.val
          else if w.data.length = 0 then s.clearWel d.pd
          else
            let (off, kept) := programTail (d.addr % 256) w.data
            s.forward d.pd e .program 0x12 (some (fp * 4096 + d.addr % 4096 / 256 * 256 + off)) kept true
              (winAction win = .update)))

/-- A host erase of one of the three sizes (R98, R128, R132, R136, R165, R167, R171). -/
def State.hostErase (s : State) (h : HostCmd) (ops : List Nat) (kind : FwdKind) (op : Byte) : State :=
  s.hostCommand h ops (fun d s =>
    match s.judge d with
    | .ignored => s
    | .deny reason win => (s.noteDeny d reason win d.addr 0).quiet d.pd true
    | .allow none => s
    | .allow (some (_, win)) =>
      let n := eraseBlock d.cls
      let first := d.page - d.page % n
      let s := s.countWin win true
      if winAction win = .mailbox then
        (if (s.weltPlat h.welt.val).isSome then s.modPd d.pd (fun x => { x with mailbox := [] }) else s).clearWel d.pd
      else if (s.pdRec d.pd).segmentOf first ≠ (s.pdRec d.pd).segmentOf (first + n - 1) then s.quiet d.pd true
      else match s.writeTarget d.pd first win with
        | none => s.quiet d.pd true
        | some (e, fp) =>
          if s.eyeBad e then s.quiet d.pd true
          else if s.eyeBusy e then (s.clearWel d.pd).countDiscarded h.welt.val
          else s.forward d.pd e kind op (some (fp * 4096)) [] true (winAction win = .update))

/-- ERASE_4K: 0x20, 0x21. -/
def execErase4K (h : HostCmd) (s : State) : Host.Outcome State Fault Refusal :=
  .next (s.hostErase h [0x20, 0x21] .erase4K 0x21)
/-- ERASE_32K: 0x52, 0x5C. -/
def execErase32K (h : HostCmd) (s : State) : Host.Outcome State Fault Refusal :=
  .next (s.hostErase h [0x52, 0x5C] .erase32K 0x5C)
/-- ERASE_64K: 0xD8, 0xDC. -/
def execErase64K (h : HostCmd) (s : State) : Host.Outcome State Fault Refusal :=
  .next (s.hostErase h [0xD8, 0xDC] .erase64K 0xDC)

/-- A write of a class that is always denied and completed quietly (R98, R154, R171). -/
def State.hostFixed (s : State) (h : HostCmd) (ops : List Nat) (len : Nat) : State :=
  s.hostCommand h ops (fun d s =>
    match s.judge d with
    | .deny reason win => (s.noteDeny d reason win 0 len).quiet d.pd true
    | _ => s)

/-- ERASE_CHIP: 0x60, 0xC7 (R98, R154). -/
def execEraseChip (h : HostCmd) (s : State) : Host.Outcome State Fault Refusal :=
  .next (s.hostFixed h [0x60, 0xC7] 0)
/-- 0x42 (R98, R154). -/
def execSecurityRegProgram (h : HostCmd) (w : WriteArgs) (s : State) : Host.Outcome State Fault Refusal :=
  .next (s.hostFixed h [0x42] w.data.length)
/-- 0x44 (R98, R154). -/
def execSecurityRegErase (h : HostCmd) (s : State) : Host.Outcome State Fault Refusal :=
  .next (s.hostFixed h [0x44] 0)

/-- A WRITE_STATUS command (R98, R102, R127, R130, R165, R171): denied, completed quietly in phase HELD, or carried out by
`act` on the emulated registers, WEL clearing where the opcode needs it. -/
def State.hostWriteStatus (s : State) (h : HostCmd) (op len : Nat) (act : Decoded → State → State) : State :=
  s.hostCommand h [op] (fun d s =>
    match s.judge d with
    | .ignored => s
    | .deny reason win => (s.noteDeny d reason win 0 len).quiet d.pd d.needsWel
    | .allow _ =>
      if s.pdPhase d.pd = .held then s.quiet d.pd d.needsWel
      else
        let s := act d s
        if d.needsWel then s.clearWel d.pd else s)

/-- 0x01: BP and SRWD stored (R102). -/
def execWriteStatus (h : HostCmd) (v : Byte) (s : State) : Host.Outcome State Fault Refusal :=
  .next (s.hostWriteStatus h 0x01 1 (fun d s =>
    s.modPd d.pd (fun p => { p with bp := bitsOf v.toNat 5 2, srwd := v.getLsbD 7 })))
/-- 0x72: MODE, where the pattern permits it, else PROT (R105). -/
def execWriteConfiguration (h : HostCmd) (v : Byte) (s : State) : Host.Outcome State Fault Refusal :=
  .next (s.hostWriteStatus h 0x72 1 (fun d s =>
    let m := v.toNat % 4
    if (s.pdRec d.pd).modes.testBit m then s.modPd d.pd (fun p => { p with mode := m }) else s.setProt d.pd))
/-- 0xB7: 4-byte addressing (R97, R103). -/
def execEnter4ByteAddress (h : HostCmd) (s : State) : Host.Outcome State Fault Refusal :=
  .next (s.hostWriteStatus h 0xB7 0 (fun d s => s.modPd d.pd (fun p => { p with addr4 := true })))
/-- 0xE9: 3-byte addressing (R97, R103). -/
def execExit4ByteAddress (h : HostCmd) (s : State) : Host.Outcome State Fault Refusal :=
  .next (s.hostWriteStatus h 0xE9 0 (fun d s => s.modPd d.pd (fun p => { p with addr4 := false })))
/-- 0x50: PROT, PFAIL and EFAIL cleared (R104). -/
def execClearFlagStatus (h : HostCmd) (s : State) : Host.Outcome State Fault Refusal :=
  .next (s.hostWriteStatus h 0x50 0 (fun d s =>
    s.modPd d.pd (fun p => { p with prot := false, pfail := false, efail := false })))

/-- An address-free command whose denial has no effect but its count and record (R165, R171). -/
def State.hostBare (s : State) (h : HostCmd) (op : Nat) (act : Decoded → State → State) : State :=
  s.hostCommand h [op] (fun d s =>
    match s.judge d with
    | .deny reason win => s.noteDeny d reason win 0 0
    | .allow _ => act d s
    | .ignored => s)

/-- 0x06: WEL set (R102). -/
def execWriteEnable (h : HostCmd) (s : State) : Host.Outcome State Fault Refusal :=
  .next (s.hostBare h 0x06 (fun d s => s.modPd d.pd (fun p => { p with wel := true })))
/-- 0x04: WEL cleared (R102). -/
def execWriteDisable (h : HostCmd) (s : State) : Host.Outcome State Fault Refusal :=
  .next (s.hostBare h 0x04 (fun d s => s.clearWel d.pd))
/-- 0x66: arms a following 0x99 (R114). -/
def execResetEnable (h : HostCmd) (s : State) : Host.Outcome State Fault Refusal :=
  .next (s.hostBare h 0x66 (fun d s => s.modPd d.pd (fun p => { p with armed := true })))
/-- 0x99 directly after 0x66 resets the emulated state (R106, R114). -/
def execReset (h : HostCmd) (s : State) : Host.Outcome State Fault Refusal :=
  let armed := (s.pd (hostPd h)).armed
  .next (s.hostBare h 0x99 (fun d s => if armed then s.resetPd d.pd else s))

/-- SUSPEND 0x75: forwarded to every eyelet busy with an operation of this presented device, but to none that is ID_BAD or
retired (R134, R136). -/
def execSuspend (h : HostCmd) (s : State) : Host.Outcome State Fault Refusal :=
  .next (s.hostBare h 0x75 (fun d s => (pdEyelets d.pd).foldl (fun s e =>
    match (s.eye e).busy with
    | some o => if o.pd = d.pd && !s.eyeBad e then
        (s.toFlash e 0x75 none []).modEye e (fun y => { y with busy := some { o with suspendSent := true } })
      else s
    | none => s) s))

/-- The latest suspended operation of presented device `k` goes on (R134). -/
def EyeSt.resumeOp (y : EyeSt) (k : Nat) : EyeSt :=
  match y.suspended.reverse.find? (fun o => o.pd = k) with
  | some o => { y with busy := some { o with suspendSent := false }, suspended := y.suspended.erase o, polled := none }
  | none => y

/-- RESUME 0x7A: forwarded to every eyelet this presented device suspended that is not busy with another operation, but to none
that is ID_BAD or retired (R134, R136). -/
def execResume (h : HostCmd) (s : State) : Host.Outcome State Fault Refusal :=
  .next (s.hostBare h 0x7A (fun d s =>
    ((pdEyelets d.pd).foldl (fun s e =>
      let y := s.eye e
      if y.busy.isNone && !s.eyeBad e && y.suspended.any (fun o => o.pd = d.pd) then
        (s.toFlash e 0x7A none []).modEye e (fun y => y.resumeOp d.pd)
      else s) s).setSusp d.pd))

/-- Bytes a VENDOR read returns: at most MAXLEN from the flash, all-ones beyond (R147; log entry 20). -/
def vendorOut (maxLen len : Nat) (flash : Bytes) : Bytes := fit len 0xFF ((fit (min maxLen len) 0xFF flash))
/-- The data of an addressed VENDOR read: a read burst of at most MAXLEN bytes, judged page by page (R113, R123, R168). -/
def State.vendorRead (s : State) (d : Decoded) (e : Nat) (r : ReadArgs) : Bytes × State :=
  let n := min (omMaxLen d.word) r.len
  let (b, s) := s.burstPages d r (.eyelet e) (n + 1) d.addr n {}
  (fit r.len 0xFF b.data, s)

/-- VENDOR: any opcode that R97 does not list and the map enables (R98, R147, R153, R159, R171). A command that needs WEL
clears it also where it is denied (R102; log entry 72). -/
def execVendor (h : HostCmd) (w : WriteArgs) (r : ReadArgs) (s : State) : Host.Outcome State Fault Refusal :=
  .next (s.hostCommand h ((List.range 256).filter (fun o => (opRow o).isNone)) (fun d s =>
    let dir := omDir d.word
    let n := h.welt.val
    let len := if dir = 2 then r.len else if dir = 1 then w.data.length else 0
    match s.judge d with
    | .ignored => s
    | .deny reason win =>
      let s := s.noteDeny d reason win d.addr len
      if dir = 1 then s.quiet d.pd true
      else
        let s := if omWelReq d.word then s.clearWel d.pd else s
        if dir = 2 then s.toHost n (ones r.len) else s
    | .allow win =>
      let s := match win with | some (_, x) => s.countWin x true | none => s
      let target : Option (Nat × Option Nat) := match win with
        | some (_, x) => (s.writeTarget d.pd d.page x).map (fun y => (y.1, some (y.2 * 4096 + d.addr % 4096)))
        | none => (tget {} s.click.dirA d.pd).bareEyelet.map (fun b => (8 * n + b, none))
      let drop := fun s : State => if omWelReq d.word then s.clearWel d.pd else s
      match target with
      | none => if dir = 2 then s.toHost n (ones r.len) else s
      | some (e, addr) =>
        if dir = 2 then
          let y := s.eyeRec e
          if s.eyeBad e || s.eyeBusy e then (drop s).toHost n (ones r.len)
          else if lateBy r.ready (45 * y.clock + 1000 * y.flashDummy) y.clock d.dummy h.clockMHz ((s.pd d.pd).mode = 3) then
            ((drop s).countLate n).toHost n (ones r.len)
          else if addr.isSome then
            let (b, s) := (drop s).vendorRead d e r
            s.toHost n b
          else ((drop s).toFlash e h.opcode addr []).toHost n (vendorOut (omMaxLen d.word) r.len r.flash)
        else if s.eyeBad e then (if dir = 1 then s.quiet d.pd true else drop s)
        else if s.eyeBusy e then (drop s).countDiscarded n
        else s.forward d.pd e .vendor h.opcode addr (if dir = 1 then w.data.take (omMaxLen d.word) else [])
          (omWelReq d.word) false))

/-! ### Host reset, status polls, initialisation -/

/-- Wn_HRST_N low: both host chip selects of the welt are ignored (R115). -/
def execHrstLow (welt : Fin 64) (s : State) : Host.Outcome State Fault Refusal :=
  if welt.val < s.weltCount then .next (s.modWelt welt.val (fun w => { w with hrstLow := true })) else .next s

/-- Wn_HRST_N rises: both presented devices reset as RESET does (R115). -/
def execHrstRise (welt : Fin 64) (s : State) : Host.Outcome State Fault Refusal :=
  if welt.val < s.weltCount && (s.welt welt.val).hrstLow then
    let s := s.modWelt welt.val (fun w => { w with hrstLow := false })
    .next ((s.resetPd (2 * welt.val)).resetPd (2 * welt.val + 1))
  else .next s

/-- The status read of a busy eyelet, at most once per stitch (R131, R134, R619, R620). An eyelet that the pattern in force no
longer defines has no record to give its status opcode, busy bit and T_ field: it is read with zeros in their place (log
entry 77). -/
def execStatusPoll (eyelet : Nat) (status : Byte) (suspendReported : Bool) (s : State) :
    Host.Outcome State Fault Refusal :=
  let y := s.eye eyelet
  let rec_ := s.eyeRec eyelet
  match y.busy with
  | none => .next s
  | some o =>
    if !s.live || !(s.drives || s.shadowing) || y.polled = some s.now then .next s
    else
      let s := (s.toFlash eyelet rec_.statusOp none []).modEye eyelet (fun y => { y with polled := some s.now })
      let bit := fun b : Option Nat => match b with | some i => status.getLsbD i | none => false
      if o.suspendSent && suspendReported then
        let o' := { o with suspendSent := false }
        let s := (s.modEye eyelet (fun y => { y with busy := none, suspended := y.suspended ++ [o'] })).setSusp o.pd
        .next (if y.resetWhenIdle then s.later (.eyeletIdle eyelet false false) else s)
      else if !status.getLsbD rec_.busyBit then
        let s := if o.stuck then s else s.faultOk 0 eyelet
        .next (s.later (.eyeletIdle eyelet (bit rec_.pfailBit) (bit rec_.efailBit)))
      else if !o.stuck && o.start + 4 * tField rec_ o.kind ≤ s.now then
        let s := s.modEye eyelet (fun y => { y with busy := some { o with stuck := true } })
        let s := s.modPd o.pd (fun p => match o.kind with
          | .program => { p with pfail := true }
          | .vendor => { p with pfail := true }
          | _ => { p with efail := true })
        .next (s.countFault 0 eyelet Code.eyeletStuck)
      else .next s

/-- The boundary after the read that showed the eyelet not busy, or suspended: WIP clears, the fail bits are set, and an eyelet of a
welt that became unbound goes into reset (R24, R131). A VENDOR operation counts as a program: it moves PSUSP and PFAIL, and its erase
fail bit is not looked at (DESIGN CHOICE: R103 names programs and erases alone; log entry 77). -/
def State.eyeletIdleNow (s : State) (e : Nat) (pfail efail : Bool) : State :=
  let s := match (s.eye e).busy with
    | none => s
    | some o =>
      let isErase := [FwdKind.erase4K, .erase32K, .erase64K].contains o.kind
      s.modPd o.pd (fun p => { p with pfail := p.pfail || (pfail && !isErase), efail := p.efail || (efail && isErase) })
  let low := (s.eye e).resetWhenIdle && (s.weltPlat (e / 8)).isNone
  let s := s.modEye e (fun y => { y with busy := none, resetWhenIdle := false, phase := if low then .inReset else y.phase })
  if low && s.drives then s.emit (.flashReset e true) else s

/-- The initialisation of an eyelet after its recovery wait, and the check of its ID (R135, R136, R594). An ACTIVE paired
unit sends no initialisation sequence to an eyelet behind a released platform. -/
def execEyeletInit (eyelet : Nat) (id : Bytes) (s : State) : Host.Outcome State Fault Refusal :=
  match s.eyeRec? eyelet, (s.eye eyelet).phase with
  | some r, .recovery t =>
    if !s.live || !s.drives || s.now < t || s.eyeBusy eyelet then .next s
    else
      let s := if s.pair.role = .active && s.weltReleased (eyelet / 8) then s
        else r.init.foldl (fun s c => s.toFlash eyelet (c.headD 0) none (c.drop 1)) s
      let s := s.toFlash eyelet 0x9F none []
      .next (s.modEye eyelet (fun y => { y with phase := .ready, idRead := true, idBad := fit r.idLen 0xFF id ≠ r.id }))
  | some r, .ready =>
    if !s.live || !s.drives || (s.eye eyelet).idRead || s.eyeBusy eyelet then .next s
    else
      let s := s.toFlash eyelet 0x9F none []
      .next (s.modEye eyelet (fun y => { y with idRead := true, idBad := fit r.idLen 0xFF id ≠ r.id }))
  | _, _ => .next s

end Sys2Proof.Machine
end

