-- ==== Sys2Proof/Machine/Custody.lean ====
section
/-!
DEFINITION. Platform custody (chapter 07): holds and releases, the changes of R275 that need no command of their own, the
samples of Pn_PWRGD and Pn_DONE, the boot timer.
-/
namespace Sys2Proof.Machine
open Sys2Proof

/-- The platform is enabled by the variant (R7). -/
def State.platOk (s : State) (p : Nat) : Bool := p < s.weltCount
/-- The boot-set entries of a platform. -/
def State.bootSet (s : State) (p : Nat) : List LastEntry := (s.platRec p).lasts.filter (·.boot)
/-- The entry is latched or excluded. -/
def State.entryOk (s : State) (p e : Nat) : Bool :=
  (s.latch (16 * p + e)).latched || (s.plat p).excluded.testBit e
/-- The entry's latch record shows a failed verification or a non-empty bad-page list (R280). -/
def State.entryFailed (s : State) (p e : Nat) : Bool :=
  let l := s.latch (16 * p + e)
  l.stage = .failed || l.bad.length ≠ 0
/-- The entry's segment has a B: a slotted last (R292). -/
def State.slotted (s : State) (x : LastEntry) : Bool := (s.lastSegment x).eyeletB.isSome
/-- The slotted entries of a platform, ascending. -/
def State.slottedLasts (s : State) (p : Nat) : List LastEntry := (s.platRec p).lasts.filter s.slotted

/-- The code of a CUSTODY record (R700). -/
def custodyCode (next : Custody) (cause excluded : Nat) : Nat :=
  if cause = 15 then Code.tamperClear
  else if cause = 18 then Code.epochExhausted
  else match next with
    | .recovering => Code.bootSetIncomplete
    | .quarantined => Code.platformQuarantined
    | .retired => Code.platformRetired
    | .released => if excluded ≠ 0 then Code.platformDegraded else Code.ok
    | _ => Code.ok

/-- STATE sent to the partner at each change (R534): platform, custody state, phase, EXCLUDED, and whether a fill job runs
(log entry 38). -/
def State.sendState (s : State) (p : Nat) : State :=
  let t := s.plat p
  if s.pair.role = .active then
    s.toPartner 0x02 (natBE 1 p ++ natBE 1 t.state.code ++ natBE 1 t.phase.code ++ natBE 2 t.excluded ++
      natBE 1 (b2n t.fill.isSome))
  else s

/-- A platform's custody state and phase changed, with its record (R269, R275, R627, R701). -/
def State.setCustody (s : State) (p : Nat) (next : Custody) (ph : Phase) (cause : Nat) : State :=
  let old := (s.plat p).state
  let s := s.modPlat p (fun t => { t with state := next, phase := ph })
  let s := s.event 0x07 (.platform p) (custodyCode next cause (s.plat p).excluded)
    (natBE 1 old.code ++ natBE 1 next.code ++ natBE 1 ph.code ++ natBE 1 cause)
  s.sendState p

/-- The cobbler journal closed: VALID first (R305). -/
def State.closeJournal (s : State) (p : Nat) : State :=
  if (s.bytes (cobJournalAddr p) 1) = [0xA5] then s.setBytes (cobJournalAddr p) [0] else s

/-- The emulated registers of the welts' presented devices back at the pattern's values, and the partitions of the welts
invalidated, as a hold has it (R106, R116, R210). -/
def State.resetWelts (s : State) (welts : List Nat) : State :=
  welts.foldl (fun s n => ((s.treadDropWelt n).resetPd (2 * n)).resetPd (2 * n + 1)) s

/-- The platform's flag writes not yet acknowledged by the partner are let go (R294, R308). -/
def State.dropFlag (s : State) (p : Nat) : State :=
  { s with pair := { s.pair with
      mirrors := s.pair.mirrors.filter (fun m => match m.item with | .flag q _ => q ≠ p | _ => true) } }

/-- What a hold does to a platform besides the change of state (R116, R210, R270, R275, R279, R282, R286, R291, R308, R315).
On entry to HELD the mailbox page, MEASURE, EXCLUDED bits, event bits and a host lease go; on entry to RETIRED every lease
goes, with the bundle it holds, and so does a job that waits when the pattern's change or the retirement ends it; a flag write of an
activation not yet committed is withdrawn. An entry to RECOVERING, which asserts the hold too, leaves the event bits (DESIGN CHOICE:
R315 names the entry to HELD; log entry 97). -/
def State.holdActs (s : State) (p : Nat) (next : Custody) (cause : Nat) : State :=
  let welts := (s.platRec p).welts
  let s := if (next = .held || next = .retired) && cause ≠ 15 then s.closeJournal p else s
  let s := if (s.plat p).act.any (fun a => !a.committed) then s.dropFlag p else s
  let s := s.modPlat p (fun t => { t with
    hold := true, releaseDue := false, bootStart := none, act := none
    fill := none
    cob := if next = .recovering then t.cob else none })
  let s := if next = .held || next = .retired then s.modPlat p (fun t => { t with
      excluded := 0, measure := 0, mboxQueue := [], noSource := 0
      doneSeen := false, bootDoneSeen := false, timerSeen := false, mailboxPending := false, phaseAsked := false
      fillOwed := false, cobQueue := [], cobDone := [], cobWhole := false, excludeAsked := false
      lease := match t.lease with
        | some l => if l.holder = .host || next = .retired || cause = 13 then none else some l
        | none => none
      waitingLost := if next = .retired || cause = 13 then [] else t.waitingLost
      writeback := if next = .retired || cause = 13 then none else t.writeback
      recovery := if next = .retired || cause = 13 then none else t.recovery })
    else s
  let s := if next = .held || next = .retired then
      welts.foldl (fun s n => (s.modPd (2 * n) (fun d => { d with mailbox := [] })).modPd (2 * n + 1)
        (fun d => { d with mailbox := [] })) s
    else s
  let s := s.resetWelts welts
  if next = .recovering then s.modPlat p (fun t => { t with
      cobQueue := (t.waitingLost.map Prod.fst).eraseDups, cobSame := true })
  else s

/-- Pn_HOLD_N asserted at a boundary (R275, R279); what the fill buffers of its welts hold goes with the epoch, which only RECOVERING
continues. -/
def State.holdNow (s : State) (p : Nat) (next : Custody) (cause : Nat) : State :=
  let s := if next = .recovering then s
    else (s.platRec p).welts.foldl (fun s w => s.modWelt w (fun x => { x with buf := [], dsec := none })) s
  (s.holdActs p next cause).setCustody p next .held cause

/-- Pn_HOLD_N released at a boundary (R58, R275, R278). -/
def State.releaseNow (s : State) (p : Nat) : State :=
  if (s.plat p).state ≠ .verified then s
  else
    let s := s.modPlat p (fun t => { t with hold := false, releaseDue := false, releases := satInc 0xFFFFFFFF t.releases })
    let s := (s.platRec p).welts.foldl (fun s n => s.modWelt n (fun w => { w with lent := false })) s
    s.setCustody p .released .boot 7

/-- The heel may release platform `p` (R278, R615); after quiescent-keep once the epoch keys are restored (R493; log entry 76). -/
def State.releasable (s : State) (p : Nat) : Bool :=
  s.drives && !s.env.cleared && s.sole.wrapped = [] && (s.platRec? p).isSome && s.platOk p && (s.plat p).state = .verified &&
  (s.bootSet p).all (fun x => s.entryOk p x.entry) &&
  !s.asked (fun e => (e.req = 0x01 || e.req = 0x02) && fieldAt e.args 0 1 = p) &&
  !(s.deferred.any (fun d => match d with | .hold q _ _ => q = p | _ => false))

/-- PLATFORM_RELEASE: the heel's sample meets R278; the hold is released at the boundary that follows. -/
def execPlatformRelease (p : Nat) (s : State) : Host.Outcome State Fault Refusal :=
  if s.live && s.releasable p && !(s.plat p).releaseDue then
    .next ((s.modPlat p (fun t => { t with releaseDue := true })).later (.release p))
  else .next s

/-- Two high samples of Pn_PWRGD: the level is taken; a RELEASED platform is RUNNING at the next boundary (R272, R275). -/
def execPwrgdHigh (p : Nat) (s : State) : Host.Outcome State Fault Refusal :=
  if s.live && s.platOk p then .next (s.modPlat p (fun t => { t with pwrgd := true })) else .next s

/-- Two low samples of Pn_PWRGD: the level is taken, and with PWRGD_USE 1 the hold is asserted at the next boundary (R272,
R275, R279). -/
def execPwrgdLow (p : Nat) (s : State) : Host.Outcome State Fault Refusal :=
  if s.live && s.platOk p then
    let fell := (s.plat p).pwrgd
    let s := s.modPlat p (fun t => { t with pwrgd := false })
    let st := (s.ahead p).1
    if fell && s.drives && (s.platRec p).pwrgdUse &&
        (st = .released || st = .running || st = .filling || st = .verified) then
      .next (s.later (.hold p .held 5))
    else .next s
  else .next s

/-- A phase event is latched in CUST_EVT (R38, R315). -/
def PlatSt.eventSeen (t : PlatSt) : Bool := t.doneSeen || t.bootDoneSeen || t.timerSeen
/-- Firmware acts on a latched event of a RUNNING platform in phase BOOT: it posts the PHASE request, once (R38, R275, R480). -/
def State.askRuntime (s : State) (p : Nat) : State :=
  let t := s.plat p
  if s.fw && t.state = .running && t.phase = .boot && t.eventSeen && !t.phaseAsked then
    (s.modPlat p (fun t => { t with phaseAsked := true })).post 0x03 0 (natBE 1 p ++ natBE 1 Phase.runtime.code)
  else s

/-- Pn_DONE rises: latched in phase BOOT with DONE_USE 1, and firmware posts the PHASE request (R272, R275, R315). -/
def execDoneRise (p : Nat) (s : State) : Host.Outcome State Fault Refusal :=
  let t := s.plat p
  if !s.live || !s.platOk p then .next s
  else if s.drives && (s.platRec p).doneUse && t.state = .running && t.phase = .boot && !t.doneSeen then
    .next ((s.modPlat p (fun t => { t with doneSeen := true, doneIn := true })).askRuntime p)
  else .next (s.modPlat p (fun t => { t with doneIn := true }))

/-- The boot timer runs out in phase BOOT: latched, and firmware posts the PHASE request (R273, R275, R315). -/
def execBootTimerExpiry (p : Nat) (s : State) : Host.Outcome State Fault Refusal :=
  let t := s.plat p
  let b := (s.platRec p).bootTimer
  match t.bootStart with
  | some st =>
    if s.live && s.drives && t.state = .running && t.phase = .boot && !t.timerSeen && b ≠ 0xFFFFFFFF && st + b ≤ s.now then
      .next ((s.modPlat p (fun t => { t with timerSeen := true })).askRuntime p)
    else .next s
  | none => .next s

/-- The cause a change to RUNTIME is recorded with: Pn_DONE, then BOOT_DONE, then the timer (R308). -/
def PlatSt.runtimeCause (t : PlatSt) : Nat :=
  if t.doneSeen then 1 else if t.bootDoneSeen then 2 else if t.timerSeen then 3 else 12

/-- A phase register changed at a boundary (R270). A hold taken since leaves the phase HELD. Entry to UPDATE or a return
from it keeps the state. -/
def State.phaseNow (s : State) (p : Nat) (ph : Phase) (cause : Nat) : State :=
  if (s.plat p).hold then s else s.setCustody p (s.plat p).state ph cause

/-- Firmware asks the heel to exclude each failing boot-set entry, and with a cobbler only one without a good source (R275,
R280). -/
def State.askExclude (s : State) (p : Nat) : State :=
  if !s.fw then s else
  let l := (s.bootSet p).filter (fun x => !s.entryOk p x.entry &&
    (!(s.platRec p).cobblerEn || (s.plat p).noSource.testBit x.entry))
  (l.foldl (fun s x => s.post 0x05 2 (natBE 1 p ++ natBE 1 x.entry)) s).modPlat p
    (fun t => { t with excludeAsked := true })

/-- The entries a fill job leaves to the cobbler (R254, R275). -/
def State.failedEntries (s : State) (p : Nat) : List Nat :=
  ((s.platRec p).lasts.filter (fun x => !s.entryOk p x.entry && s.entryFailed p x.entry)).map (·.entry)

/-- A fill job has nothing left to verify and nothing left to seal. -/
def State.fillEnded (s : State) (p : Nat) : Bool :=
  (match (s.plat p).fill with
    | some f => decide (f.todo = []) && f.cur.isNone && !f.stopped
    | none => false) &&
  (s.platRec p).welts.all (fun n => (s.welt n).buf.all (fun b => b.last / 16 ≠ p))

/-- The bad-page lists of a platform's entries, as entry and page. -/
def State.badPages (s : State) (p : Nat) : List (Nat × Nat) :=
  (s.platRec p).lasts.flatMap (fun x => (s.latch (16 * p + x.entry)).bad.map (fun j => (x.entry, j)))
/-- A fill job that has ended leaves a platform that needs it no more (R277). Its bad-page lists go to the cobbler queue, where
they wait for the next hold (R254, R275; log entry 84). -/
def State.fillGone (s : State) (p : Nat) : State :=
  if s.fillEnded p then
    let bad := if (s.platRec p).cobblerEn then s.badPages p else []
    (s.modPlat p (fun t => { t with
      fill := none, waitingLost := t.waitingLost ++ bad.filter (fun x => !t.waitingLost.contains x) })).sendState p
  else s

/-- Firmware's work on the latched events of a RUNNING platform (R38, R315): in phase BOOT the request is posted for an event
latched while the management domain was down or before the platform was RUNNING; after the change of phase the bits are
cleared. -/
def State.phaseWork (s : State) (p : Nat) : State :=
  let t := s.plat p
  if !s.fw then s
  else if t.phase = .boot then s.askRuntime p
  else if t.eventSeen || t.phaseAsked then s.modPlat p (fun t => { t with
    doneSeen := false, bootDoneSeen := false, timerSeen := false, phaseAsked := false })
  else s

/-- The fill job queued for a platform that was released before it could start becomes FILL_RUNNING requests (R197, R275,
R480). -/
def State.askRunning (s : State) (p : Nat) : State :=
  let t := s.plat p
  if s.fw && t.fillOwed && t.fill.isNone && !t.hold then
    ((s.platRec p).lasts.foldl (fun s x => s.post 0x06 2 (natBE 1 p ++ natBE 1 x.entry)) s).modPlat p
      (fun t => { t with fillOwed := false })
  else s

/-- SLOTMAP windows lie over the entry's segment (R157, R241). -/
def State.entrySlotmap (s : State) (x : LastEntry) : Bool :=
  let d := tget {} s.click.dirA x.pd
  let g := s.lastSegment x
  (List.range d.count).any (fun i =>
    let w := tget 0 s.click.winA (d.first + i)
    winAction w = .slotmap && winStart w < g.pdStart + g.pageCount && g.pdStart < winStart w + winLength w)

/-- The entry of a repair that a device reset or power loss interrupted: its journal record is still open and names the slot in
force. The record of a write-back names the other slot; that job's bundle is lost (R306, R307; log entry 73). -/
def State.openJob (s : State) (p : Nat) : Option Nat :=
  let b := s.bytes (cobJournalAddr p) 32
  if fieldAt b 0 1 ≠ 0xA5 then none
  else (s.lastEntry? (fieldAt b 4 2)).bind (fun x =>
    let g := s.lastSegment x
    let eye := if flagActive (s.flag p) && s.entrySlotmap x then g.eyeletB.getD g.eyeletA else g.eyeletA
    if fieldAt b 4 2 / 16 = p && (fieldAt b 6 1 = eye || fieldAt b 2 1 ≠ 2) then some x.entry else none)

/-- At the end of the counter: EPOCH_EXHAUSTED recorded, once for the platform (R193). -/
def State.tellExhausted (s : State) (p : Nat) : State :=
  if s.sole.exhaustedTold.contains p then s
  else
    let st := (s.plat p).state.code
    ({ s with sole := { s.sole with exhaustedTold := s.sole.exhaustedTold ++ [p] } } : State).event 0x07 (.platform p)
      Code.epochExhausted (natBE 1 st ++ natBE 1 st ++ natBE 1 0 ++ natBE 1 18)

/-- The changes of R275 that the boundary itself makes for one platform, judged on the ending stitch. A repair that a reset
interrupted is resumed before any fill (R306). Where no cobbler runs, a page lost at run time has no good source (log entry
84). With no epoch left for the fill that an empty boot set queues, the platform stays HELD (R193). A unit that does not drive its
welts follows its partner's custody instead (R520). -/
def State.custodyStep (s : State) (p : Nat) : State :=
  let t := s.plat p
  let r := s.platRec p
  if s.env.cleared || !s.drives then s
  else match t.state with
  | .held =>
    if t.fill.isSome then s.setCustody p .filling .held 0
    else if t.cob.isSome || t.act.isSome then s
    else if r.cobblerEn && t.waitingLost.length ≠ 0 then
      (s.modPlat p (fun t => { t with cobQueue := (t.waitingLost.map Prod.fst).eraseDups, cobSame := false })).setCustody
        p .recovering .held 9
    else if r.cobblerEn && (s.openJob p).isSome then
      if t.map != flagActive (s.flag p) then s
      else (s.modPlat p (fun t => { t with cobQueue := (s.openJob p).toList, cobSame := false })).setCustody
        p .recovering .held 0
    else if (s.bootSet p).length = 0 && t.writeback.isNone && t.refills = [] then
      if r.lasts.length ≠ 0 && epochMax ≤ s.epochCounter then s.tellExhausted p
      else (s.modPlat p (fun t => { t with fillOwed := r.lasts.length ≠ 0 })).setCustody p .verified .held 0
    else s
  | .filling =>
    if (s.bootSet p).all (fun x => s.entryOk p x.entry) then s.setCustody p .verified .held 6
    else if s.fillEnded p then
      if r.cobblerEn then
        (s.modPlat p (fun t => { t with
          cobQueue := (s.failedEntries p).filter (fun e => !t.noSource.testBit e), cobSame := true, fill := none
          excludeAsked := false })).setCustody p .recovering .held 8
      else if !r.runDegraded then
        (s.modPlat p (fun t => { t with fill := none })).setCustody p .quarantined .held 11
      else if !t.excludeAsked then s.askExclude p
      else s
    else s
  | .released =>
    if !r.pwrgdUse || t.pwrgd then
      (s.modPlat p (fun t => { t with bootStart := some s.now })).setCustody p .running .boot 4
    else (s.fillGone p).askRunning p
  | .verified => s.fillGone p
  | .running => ((s.fillGone p).askRunning p).phaseWork p
  | .recovering =>
    if !r.cobblerEn && t.cobQueue ≠ [] then
      s.modPlat p (fun t => { t with noSource := t.noSource ||| maskOf t.cobQueue, cobQueue := [] })
    else if t.cob.isNone && t.fill.isNone && t.cobQueue.length = 0 && !t.fillOwed && t.noSource ≠ 0 then
      if !r.runDegraded then s.setCustody p .quarantined .held 11
      else if (s.bootSet p).all (fun x => s.entryOk p x.entry) then s.setCustody p .verified .held 11
      else if !t.excludeAsked then s.askExclude p
      else s
    else s
  | _ => s

/-- At a hold firmware asks the heel to re-point the platform's SLOTMAP and UPDATE windows when its map is not the slot of the
journal flag (R170, R296, R480): while no job runs, and in RECOVERING once only a fill in a new epoch is left. -/
def State.askSlotMap (s : State) (p : Nat) : State :=
  let t := s.plat p
  let open_ := t.state = .held || t.state = .quarantined || t.state = .verified || (t.state = .recovering && t.fillOwed)
  if s.fw && s.drives && t.hold && open_ && t.fill.isNone && t.cob.isNone && t.act.isNone && t.map != flagActive (s.flag p) &&
      !s.asked (fun e => e.req = 0x04 && fieldAt e.args 0 1 = p) && !s.deferred.contains (.slotMap p) then
    s.post 0x04 2 (natBE 1 p)
  else s

/-- A platform whose every welt is retired asks for its own retirement (R275, R480, R621). -/
def State.askRetire (s : State) (p : Nat) : State :=
  let w := (s.platRec p).welts
  let asked := s.asked (fun e => e.req = 0x02 && fieldAt e.args 0 1 = p)
  if s.fw && w.length ≠ 0 && w.all (fun n => (s.welt n).retired) && (s.ahead p).1 ≠ .retired && !asked then
    s.post 0x02 2 (natBE 1 p ++ natBE 1 2)
  else s

end Sys2Proof.Machine
end

