-- ==== Sys2Proof/Machine/Point.lean ====
section
/-!
DEFINITION. Point engines (R67, R77, R602, R688, R705) and what last headers and images are checked against (R236 to R243).
-/
namespace Sys2Proof.Machine
open Sys2Proof

/-- Steps of an SM2 verification and of a signature (R67). -/
abbrev verifySteps : Nat := 167
/-- Steps of a signature. -/
abbrev signSteps : Nat := 84

/-- An operation queued for its owner's engines. OP is 1 verification, 2 signature, 3 recomputation (R688). -/
def State.startOp (s : State) (owner ident op steps : Nat) (engine : Option Nat := none) (start : Nat := 0) : State :=
  let o : PeOp := { owner := owner, ident := ident, op := op, steps := steps, total := steps, engine := engine, start := start }
  { s with point := { s.point with ops := s.point.ops ++ [o] } }
/-- The operation of an owner and number. -/
def State.opOf (s : State) (owner ident : Nat) : Option PeOp :=
  s.point.ops.find? (fun o => o.owner = owner && o.ident = ident)
/-- The operation has run all of its granted steps. -/
def State.opDone (s : State) (owner ident : Nat) : Bool :=
  match s.opOf owner ident with | some o => o.steps = 0 | none => false
/-- A completed operation leaves its engine, counted DONE (R688). -/
def State.endOp (s : State) (owner ident : Nat) : State :=
  match s.opOf owner ident with
  | none => s
  | some o =>
    let pt := { s.point with ops := s.point.ops.erase o }
    { s with point := match o.engine with
        | some e => { pt with done := tmod 0 pt.done e (satInc 0xFFFF) }
        | none => pt }
/-- An operation ended without result, counted ABORTED when an engine held it (R688). -/
def State.abortOp (s : State) (owner ident : Nat) : State :=
  match s.opOf owner ident with
  | none => s
  | some o =>
    let pt := { s.point with ops := s.point.ops.erase o }
    { s with point := match o.engine with
        | some e => { pt with aborted := tmod 0 pt.aborted e (satInc 0xFFFF) }
        | none => pt }
/-- Every operation aborted (R38, R370, R618). -/
def State.abortAllOps (s : State) : State :=
  s.point.ops.foldl (fun s o => s.abortOp o.owner o.ident) s

/-- The engine runs a step for the owner in the stitch whose row is `row`; without a schedule every engine serves every
owner (R67, R602). -/
def granted (row : Option Bytes) (e owner : Nat) : Bool :=
  match row with | none => true | some r => rowPe r e = owner

/-- The operation engine `e` runs a step of in the stitch now running (R65, R67): the one it holds for the owner that the row
grants it to; an engine that holds none for that owner takes the oldest waiting operation of it. An operation that a ledger
placed waits for its own engine and its first stitch (R77). What the engine holds for another owner waits (log entry 33). -/
def State.engineNext (s : State) (e : Nat) : Option PeOp :=
  let mine := fun o : PeOp => decide (o.steps ≠ 0) && decide (o.start ≤ s.now) && granted s.row? e o.owner
  match s.point.ops.find? (fun o => o.engine = some e && mine o) with
  | some o => some o
  | none => s.point.ops.find? (fun o => o.engine = none && mine o)

/-- One stitch of one engine: a step of that operation. -/
def State.engineStitch (s : State) (e : Nat) : State :=
  match s.engineNext e with
  | none => s
  | some o =>
    let step := fun x : PeOp => if x = o then { o with steps := o.steps - 1, engine := some e } else x
    { s with point := { s.point with ops := s.point.ops.map step } }

/-- SM2 verification with the range test of R239 on r and s. -/
def sm2Ok (key msg sig : Bytes) : Bool :=
  let r := beNat (sig.take 32)
  let t := beNat ((sig.drop 32).take 32)
  1 ≤ r && r < Config.sm2Order && 1 ≤ t && t < Config.sm2Order && Config.sm2Verify key msg sig

/-! ### The last header (R236) -/

/-- PAGE_COUNT of a header. -/
def hdrPages (h : Bytes) : Nat := fieldAt h 36 4
/-- SECURITY_VERSION of a header. -/
def hdrVersion (h : Bytes) : Nat := fieldAt h 12 4
/-- UPDATE_SEQUENCE of a header. -/
def hdrSequence (h : Bytes) : Nat := fieldAt h 16 8
/-- TABLE_DIGEST of a header. -/
def hdrTable (h : Bytes) : Digest := digestOfBytes (bytesAt h 40 32)
/-- IMAGE_CLASS of a header. -/
def hdrClass (h : Bytes) : Nat := fieldAt h 8 2
/-- SIGNER_KEY of a header. -/
def hdrKey (h : Bytes) : Bytes := bytesAt h 72 64
/-- SIGNATURE of a header. -/
def hdrSig (h : Bytes) : Bytes := bytesAt h 320 64

/-- Check 1 of R243. -/
def hdrFormatOk (h : Bytes) : Bool :=
  h.length = 384 && fieldAt h 0 4 = 0x4C415354 && fieldAt h 4 2 = 1 && fieldAt h 6 2 = 0x180 &&
  bitsOf (hdrClass h) 15 10 = 0 && fieldAt h 10 2 = 0 && fieldAt h 25 3 = 0 && allZero (bytesAt h 136 184)

/-- The local eyelet and first flash page a source of an entry is read from (R242, R243 check 5). -/
def sourceEyelet (x : LastEntry) (g : Segment) : Source → Nat × Nat
  | .a => (g.eyeletA, g.flashPageA)
  | .b => (g.eyeletB.getD g.eyeletA, g.flashPageB)
  | .golden => (x.golden.getD g.eyeletA, g.flashPageA)
  | .staged => (g.eyeletA, g.flashPageA)

/-- Checks 1 to 7 of R243, in order: the code of the first that fails. -/
def State.headerChecks (s : State) (x : LastEntry) (src : Nat × Nat) (h : Bytes) : Option Nat :=
  let g := s.lastSegment x
  if !hdrFormatOk h then some Code.lastFormatBad
  else if hdrClass h ≠ x.imageClass then some Code.lastFieldBad
  else if fieldAt h 32 4 = 0 || 268435456 < fieldAt h 32 4 || hdrPages h ≠ ceilDiv (fieldAt h 32 4) 4096 then
    some Code.lastFieldBad
  else if hdrSequence h = 0 then some Code.lastFieldBad
  else if !(fieldAt h 24 1).testBit src.1 || fieldAt h 28 4 ≠ 4096 * src.2 then some Code.lastFieldBad
  else if g.pageCount < hdrPages h || x.areaPages < 1 + ceilDiv (hdrPages h) 128 then some Code.lastFieldBad
  else if hdrVersion h < s.classCounter x.imageClass then some Code.rollbackRejected
  else none

/-- Checks 8 and 9 of R243, the result of one point-engine operation (R244). -/
def State.signerChecks (s : State) (p : Nat) (h : Bytes) : Option Nat :=
  if !(s.platRec p).anchors.contains (sm3 (hdrKey h)) then some Code.lastAnchorUnknown
  else if !sm2Ok (hdrKey h) (h.take 320) (hdrSig h) then some Code.lastSignatureBad
  else none

/-- Entry `j` of a block digest table (R237). -/
def tableEntry (t : Bytes) (j : Nat) : Digest := digestOfBytes (bytesAt t (32 * j) 32)

/-- The outcome of the reads of one page so far (R252). -/
inductive Judged where
  | matched (reads : Nat) | again | mismatch | unstable
  deriving DecidableEq, Repr

/-- The page judgement of R252 on the digests read so far, oldest first, against the expected digest. -/
def judgeReads (want : Digest) : List Digest → Judged
  | [d0] => if d0 = want then .matched 1 else .again
  | [_, d1] => if d1 = want then .matched 2 else .again
  | [d0, d1, d2] => if d2 = want then .matched 3 else if d0 = d1 && d1 = d2 then .mismatch else .unstable
  | _ => .again

end Sys2Proof.Machine
end

