-- ==== Sys2Proof/Machine/Staging.lean ====
section
/-!
DEFINITION. The staging store (R189, R195, R297, R298): where a bundle's pages lie, how they are sealed and opened, and the
tables that an activation and a whole-image repair keep there (R293, R302).
-/
namespace Sys2Proof.Machine
open Sys2Proof

/-- The frames of a welt's staging area that the self-test has left in use, ascending (R189, R221; log entry 75). -/
def State.stagingFrames (s : State) (p w : Nat) : List Nat :=
  match (s.platRec p).staging.find? (fun a => a.welt = w) with
  | some a => ((List.range a.frames).map (a.first + ·)).filter (fun f => !(s.chan (weltChannel w)).retired.contains f)
  | none => []
/-- A page sealed into frame `f` of welt `w`'s channel. -/
def State.sealFrame (s : State) (key : BitVec 128) (number p w f m : Nat) (data : Bytes) : State :=
  s.setRaw (frameBase (weltChannel w) f) (sealPage key number p (weltChannel w) f m data)
/-- Sector `k` of such a page, opened. -/
def State.openFrame (s : State) (key : BitVec 128) (number p w f m k : Nat) : Option Bytes :=
  s.openSector key (soleNonce number 0 (weltChannel w) f k) (soleAad p m k) (frameBase (weltChannel w) f + 272 * k)

/-! ### Bundles -/

/-- Pages of one entry in a bundle: its area, then its segment (R297). -/
def State.bundleEntryPages (s : State) (x : LastEntry) : Nat := x.areaPages + (s.lastSegment x).pageCount
/-- The entries of a mask, ascending. -/
def State.maskEntries (s : State) (p mask : Nat) : List LastEntry :=
  (s.platRec p).lasts.filter (fun x => mask.testBit x.entry)
/-- Where bundle page `i` lies: the entry, the page within the entry, and how many earlier bundle pages its welt holds. -/
def State.bundleFind (s : State) : List LastEntry → Nat → List (Nat × Nat) → Option (LastEntry × Nat × Nat)
  | [], _, _ => none
  | x :: xs, i, seen =>
    let w := x.pd / 2
    let before := ((seen.filter (fun y => y.1 = w)).map Prod.snd).foldl (· + ·) 0
    let n := s.bundleEntryPages x
    if i < n then some (x, i, before + i) else s.bundleFind xs (i - n) (seen ++ [(w, n)])
/-- The welt and the staging frame of bundle page `i` (R189, R298). -/
def State.bundleFrame (s : State) (p mask i : Nat) : Option (Nat × Nat) :=
  (s.bundleFind (s.maskEntries p mask) i []).bind (fun (x, _, k) =>
    (s.stagingFrames p (x.pd / 2))[k]?.map (fun f => (x.pd / 2, f)))
/-- Pages of a whole bundle (R297). -/
def State.bundlePages (s : State) (p mask : Nat) : Nat :=
  ((s.maskEntries p mask).map s.bundleEntryPages).foldl (· + ·) 0
/-- Pages of a bundle that lie in welt `w`'s staging area. -/
def State.bundleOn (s : State) (p mask w : Nat) : Nat :=
  (((s.maskEntries p mask).filter (fun x => x.pd / 2 = w)).map s.bundleEntryPages).foldl (· + ·) 0
/-- The first bundle page of an entry. -/
def State.bundleBase (s : State) (p mask e : Nat) : Nat :=
  (((s.maskEntries p mask).filter (fun x => x.entry < e)).map s.bundleEntryPages).foldl (· + ·) 0
/-- A received page sealed under the lease's staging key and number (R298). -/
def State.stagePage (s : State) (p : Nat) (l : Lease) (i : Nat) (data : Bytes) : State :=
  match s.bundleFrame p l.mask i with
  | some (w, f) =>
    (s.sealFrame l.key l.number p w f i data).modPlat p (fun t => { t with
      lease := t.lease.map (fun l => { l with received := tset false l.received i true }) })
  | none => s
/-- The bytes of a bundle page, opened under the key of the platform's lease; none when a sector's tag fails. -/
def State.bundlePage (s : State) (p mask i : Nat) : Bytes :=
  match s.bundleFrame p mask i, (s.plat p).lease with
  | some (w, f), some l =>
    ((List.range 16).foldl (fun a k => a.bind (fun b => (s.openFrame l.key l.number p w f i k).map (b ++ ·))) (some [])).getD []
  | _, _ => []
/-- The header of an entry's staged last. -/
def State.bundleHeader (s : State) (p mask : Nat) (x : LastEntry) : Bytes :=
  (s.bundlePage p mask (s.bundleBase p mask x.entry)).take 384
/-- The table of an entry's staged last. -/
def State.bundleTable (s : State) (p mask : Nat) (x : LastEntry) : Bytes :=
  let n := hdrPages (s.bundleHeader p mask x)
  (((List.range (ceilDiv n 128)).map (fun k => s.bundlePage p mask (s.bundleBase p mask x.entry + 1 + k))).flatten).take
    (32 * n)

/-! ### Tables sealed into the staging area (R293 step 3, R302; places and key: log entry 75) -/

/-- The frame of page `i` of the tables kept for the lasts on welt `w`: counted from the end of the area, and never one that
the bundle of a lease uses. -/
def State.tableFrame (s : State) (p w i : Nat) : Option Nat :=
  let fs := s.stagingFrames p w
  let used := match (s.plat p).lease with | some l => s.bundleOn p l.mask w | none => 0
  if used + i < fs.length then fs[fs.length - 1 - i]? else none
/-- Where the tables of the slotted lasts before entry `x` end on its welt. -/
def State.tablePlace (s : State) (p : Nat) (x : LastEntry) : Nat :=
  (((s.slottedLasts p).filter (fun y => y.pd / 2 = x.pd / 2 && y.entry < x.entry)).map (fun y => y.areaPages - 1)).foldl (· + ·) 0
/-- A table sealed there under the key of its activation or repair, 128 entries to a page. -/
def State.stageTable (s : State) (key : BitVec 128) (p w place : Nat) (table : Bytes) : State :=
  (List.range (ceilDiv table.length 4096)).foldl (fun s i => match s.tableFrame p w (place + i) with
    | some f => s.sealFrame key (s.epochOf p) p w f (place + i) (fit 4096 0 (bytesAt table (4096 * i) 4096))
    | none => s) s
/-- Entry `j` of a table kept there, opened; none where the area had no room for it. -/
def State.stagedEntry (s : State) (key : BitVec 128) (p w place j : Nat) : Option Digest :=
  (s.tableFrame p w (place + j / 128)).bind (fun f =>
    (s.openFrame key (s.epochOf p) p w f (place + j / 128) (j / 8 % 16)).map (digestEntry j))
/-- The frames of welt `w` that a table of `n` bytes at `place` takes there. -/
def State.tableFrames (s : State) (p w place n : Nat) : List Nat :=
  (List.range (ceilDiv n 4096)).filterMap (fun i => s.tableFrame p w (place + i))

end Sys2Proof.Machine
end

