-- ==== Sys2Proof/Machine/Slots.lean ====
section
/-!
DEFINITION. The slots of the sole channels (R56 to R61, R224 to R226): the read slots lent to fill writes, the S8 slots, and
the S9 slots with their shares and the scrub walk.
-/
namespace Sys2Proof.Machine
open Sys2Proof

/-! ### Writes: lent read slots and S8 (R58, R59, R61, R214, R226) -/

/-- The cycles of channel `c` that its overrun of the stitch ruined: those named, and with none named the last (log entry
75). -/
def lostCycles (f : StitchFacts) (c : Nat) : List Nat :=
  if f.overruns.contains c then
    (match (f.ovrCycles.filter (fun x => x.1 = c)).map Prod.snd with | [] => [9] | l => l)
  else []

/-- `n` sectors written from a fill buffer, the oldest page first; a page that PAGE_SEALED has taken leaves once its last
sector is written (R58, R61). -/
def drain : Nat → List BufPage → List BufPage
  | _, [] => []
  | n, b :: bs =>
    let k := min n b.left
    if b.sealed && b.left = k then drain (n - k) bs else { b with left := b.left - k } :: drain (n - k) bs
/-- The welt's fill buffer holds a full sector (R59). -/
def WeltSt.fillWaits (w : WeltSt) : Bool := w.buf.any (fun b => b.left ≠ 0)

/-- A FILL slot of channel `c`: the next of its welts, round-robin, that has a full sector (R59). -/
def State.fillSlot (s : State) (c : Nat) : State :=
  let welts := (List.range s.weltCount).filter (fun w => weltChannel w = c)
  let rr := (s.chan c).rr
  match (welts.drop rr ++ welts.take rr).find? (fun w => (s.welt w).fillWaits) with
  | none => s
  | some w =>
    let next := (welts.idxOf w + 1) % max 1 welts.length
    (s.modWelt w (fun x => { x with buf := drain 1 x.buf })).modChan c (fun h => { h with rr := next })

/-- The cobbler jobs with sectors of a table to write on channel `c`, oldest first (R59, R302, R704). -/
def State.cobWrites (s : State) (c : Nat) : Option Nat :=
  let jobs := s.platNums.filter (fun p => match (s.plat p).cob with
    | some j => decide (j.left ≠ 0) && (match s.lastEntry? (16 * p + j.entry) with
      | some x => weltChannel (x.pd / 2) = c | none => false)
    | none => false)
  let seq := fun p => match (s.plat p).cob with | some j => j.seq | none => 0
  jobs.find? (fun p => jobs.all (fun q => seq p ≤ seq q))

/-- A sector of the channel's refill waits for its slot: read and not yet written (R214). -/
def Refill.waits (f : Refill) : Bool := decide (f.left ≠ 0) && (f.matched || decide ((17 - f.left) * 256 ≤ f.credit))
/-- One S8 slot of channel `c` with a code (R59, R65): a waiting sector of a refill first, then FILL to the next welt of the
channel with a full sector, COBBLER to the oldest of its table writes. -/
def State.s8Slot (s : State) (c code : Nat) : State :=
  let refill := match (s.chan c).running with | some f => f.waits | none => false
  if refill then
    s.modChan c (fun h => { h with running := h.running.map (fun f => { f with left := f.left - 1 }) })
  else if code = 0 then s.fillSlot c
  else if code = 1 then
    match s.cobWrites c with
    | some p => s.modPlat p (fun t => { t with cob := t.cob.map (fun j => { j with left := j.left - 1 }) })
    | none => s
  else s

/-- The slots of one stitch that write: lent read slots while their platform is held, and S8 (R56, R58, R59). What a ruined
cycle carried is written in a later slot (R226). -/
def State.soleWrites (s : State) (lost : Nat → List Nat) : State :=
  let s := (List.range s.weltCount).foldl (fun s w =>
    if (s.welt w).lent && !s.weltReleased w && (s.welt w).fillWaits then
      s.modWelt w (fun x => { x with buf := drain (10 - (lost (weltChannel w)).eraseDups.length) x.buf })
    else s) s
  match s.row? with
  | none => s
  | some r => (List.range s.chanCount).foldl (fun s c =>
      (List.range 10).foldl (fun s k => if (lost c).contains k then s else s.s8Slot c (rowS8 r c k)) s) s

/-- A refill whose digest has matched and whose sixteenth sector is written: its page is VALID (R201, R214, R232). -/
def State.refillEnds (s : State) (c : Nat) : State :=
  match (s.chan c).running with
  | some f =>
    if f.matched && f.left = 0 then
      (s.modChan c (fun h => { h with running := none, refills := satInc 0xFFFF h.refills })).later (.page f.page .valid)
    else s
  | none => s

/-! ### S9: digest-sector reads, aperture reads, scrub (R223 to R225, R250) -/

/-- The page of the fill of welt `w` whose digest sector the sequencer does not hold yet (R250). -/
def State.digestNeed (s : State) (w : Nat) : Option Nat :=
  (s.weltPlat w).bind (fun p => (s.plat p).fill.bind (fun f => f.cur.bind (fun e =>
    (s.lastEntry? (16 * p + e)).bind (fun x => f.pages.head?.bind (fun j =>
      let m := (s.lastSegment x).solePage.getD 0 + j
      if x.pd / 2 ≠ w || (f.stopped && !f.finishing) || (s.welt w).dsec.map Prod.fst = some (digestIndex m) then none
      else some m)))))

/-- The digest-sector read of channel `c`'s fills in a stitch, round-robin over its welts, and whether one was made (R224,
R250). A sector that does not open is read again in a later stitch (log entry 75). -/
def State.digestFill (s : State) (c : Nat) : State × Bool :=
  let welts := (List.range s.weltCount).filter (fun w => weltChannel w = c)
  let rr := (s.chan c).digestRR
  match (welts.drop rr ++ welts.take rr).find? (fun w => (s.digestNeed w).isSome) with
  | none => (s, false)
  | some w =>
    let next := (welts.idxOf w + 1) % max 1 welts.length
    let d := (s.digestNeed w).bind (fun m => (s.openDigests m).map (fun b => (digestIndex m, b)))
    ((s.modWelt w (fun x => { x with dsec := d })).modChan c (fun h => { h with digestRR := next }), true)
/-- The digest-sector read of a stitch on channel `c`: the refill sequencer's first, then the fills' (R214 step 1, R224). -/
def State.digestSlot (s : State) (c : Nat) : State × Bool :=
  match (s.chan c).running with
  | some f =>
    if f.digest.isNone then
      (s.modChan c (fun h => { h with running := some { f with digest := s.pageDigest f.page } }), true)
    else s.digestFill c
  | none => s.digestFill c

/-- The staging frames of channel `c` that hold the tables of activations and of whole-image repairs (R293, R302). -/
def State.tablesKept (s : State) (c : Nat) : List Nat :=
  let here := fun (p : Nat) (x : LastEntry) (place n : Nat) =>
    if weltChannel (x.pd / 2) = c then s.tableFrames p (x.pd / 2) place n else []
  s.plats.flatMap (fun e =>
    (match e.2.act with
      | some a => a.tables.flatMap (fun t => match s.lastEntry? (16 * e.1 + t.1) with
          | some x => here e.1 x (s.tablePlace e.1 x) t.2.2.length
          | none => [])
      | none => []) ++
    (match e.2.cob with
      | some j => if !(j.verified && j.whole && j.source ≠ 2) then [] else
          (match s.lastEntry? (16 * e.1 + j.entry) with | some x => here e.1 x 0 j.table.length | none => [])
      | none => []))

/-- The runs of scrub's units in use on channel `c`, first and last (R225). A unit is a 272-byte sector, numbered by its channel
byte address: those of VALID pages, of the digest sectors of the tables read in this epoch, and of the staging frames that
hold a lease's pages, the tables of an activation, or the table of a whole-image repair. -/
def State.scrubRuns (s : State) (c : Nat) : List (Nat × Nat) :=
  let frame := fun f : Nat => let b := 16 * f + (if f < 540672 then 0 else 65536); (b, b + 15)
  let pages := s.sole.pages.filterMap (fun e =>
    if pageChan e.1 = c && s.pageState e.1 = .valid then some (frame (s.frameOf e.1)) else none)
  let tables := s.latches.filterMap (fun e =>
    (s.lastEntry? e.1).bind (fun x => (s.lastSegment x).solePage.bind (fun b =>
      if e.2.tableRead && pageChan b = c && hdrPages e.2.header ≠ 0 then
        some (8650752 + digestIndex b, 8650752 + digestIndex (b + hdrPages e.2.header - 1))
      else none)))
  let staged := s.plats.flatMap (fun e => match e.2.lease with
    | some l => l.received.filterMap (fun r =>
        (s.bundleFrame e.1 l.mask r.1).bind (fun x => if weltChannel x.1 = c then some (frame x.2) else none))
    | none => [])
  pages ++ tables ++ staged ++ (s.tablesKept c).map frame
/-- The first unit of the runs at or after `u`. -/
def nextUnit (r : List (Nat × Nat)) (u : Nat) : Option Nat :=
  r.foldl (fun a x => if x.2 < u then a else some (min (max x.1 u) (a.getD (max x.1 u)))) none
/-- Scrub reads a unit (R225): a sector of a page that fails its tag or ECC is a failure of the page (R211). For a digest or staging
sector that fails the spec names no effect, and there is none (log entry 75). -/
def State.scrubUnit (s : State) (fails : List (Nat × Nat)) (c u : Nat) : State :=
  match s.sole.pages.find? (fun e => pageChan e.1 = c && s.pageState e.1 = .valid && s.frameOf e.1 = u / 16) with
  | some e => if fails.contains (e.1, u % 16) || (s.sectorPlain e.1 (u % 16)).isNone then s.soleFailure e.1 else s
  | none => s
/-- One S9 slot of scrub (R225, R233): the next unit in address order; after the last one the pass is complete and the next
begins at address 0. -/
def State.scrubSlot (s : State) (fails : List (Nat × Nat)) (c : Nat) : State :=
  let r := s.scrubRuns c
  let at_ := nextUnit r (s.chan c).scrub
  match (match at_ with | some u => some u | none => nextUnit r 0) with
  | none => s
  | some u =>
    let done := b2n at_.isNone + b2n (nextUnit r (u + 1)).isNone
    (s.scrubUnit fails c u).modChan c (fun h => { h with
      scrub := if (nextUnit r (u + 1)).isNone then 0 else u + 1, passes := satAdd 0xFFFF h.passes done })

/-- The ten S9 slots of channel `c` in a stitch (R56, R60, R223, R224): refresh, one digest-sector read, one aperture read, and
what is left to scrub; scrub waits while the epoch keys kept over quiescent-keep are not yet live again (R227). -/
def State.s9Stitch (s : State) (fails : List (Nat × Nat)) (c : Nat) : State :=
  let refresh := if s.sole.hotRefresh then 4 else 2
  let (t, read) := s.digestSlot c
  let left := if s.sole.wrapped ≠ [] then 0 else 10 - refresh - b2n read - b2n (t.chan c).aperUsed
  ((List.range left).foldl (fun t _ => t.scrubSlot fails c) t).modChan c (fun h => { h with aperUsed := false })

end Sys2Proof.Machine
end

