-- ==== Sys2Proof/Machine/Fill.lean ====
section
/-!
DEFINITION. Fill jobs and the verification of lasts (chapter 06), the page judgement, sealing, the verified latch, and the
reads of an activation that use the same steps (R293 steps 2 to 4).
-/
namespace Sys2Proof.Machine
open Sys2Proof

/-- The source a fill of the entry reads (R242). -/
def State.fillSource (s : State) (p : Nat) (x : LastEntry) : Source :=
  if s.entrySlotmap x && (s.plat p).map && (s.lastSegment x).eyeletB.isSome then .b else .a
/-- The global eyelets a fill of the entry reads: image and last area (R137, R242). -/
def State.fillEyelets (s : State) (p : Nat) (x : LastEntry) : List Nat :=
  let w := x.pd / 2
  [8 * w + (sourceEyelet x (s.lastSegment x) (s.fillSource p x)).1, 8 * w + x.lastEyelet]
/-- The first page of the last area a source is read from, on LAST_EYELET (R242). -/
def LastEntry.areaPage (x : LastEntry) : Source → Nat
  | .a => x.pageA
  | .b => x.pageB.getD x.pageA
  | .golden => x.pageG.getD x.pageA
  | .staged => x.pageA
/-- One of the Larir's own reads on a flash port, from a flash page (R242; opcode: log entry 42). -/
def State.ownRead (s : State) (e page : Nat) : State :=
  s.toFlash e (Config.flashReadOp (s.eyeRec e).mode) (some (4096 * page)) []
/-- The eyelet is ready for the Larir's own reads (R135, R702); a unit that shadows observes the reads of its partner, which
has the eyelets out of reset (R520). -/
def State.eyeReady (s : State) (e : Nat) : Bool := ((s.eye e).phase = .ready || s.shadowing) && !s.eyeBusy e

/-- An eyelet's reset pulsed low for 2 stitches (R137), never while it is busy with a forwarded operation (R138). -/
def State.pulse (s : State) (e : Nat) : State :=
  if s.eyeBusy e || (s.eyeRec? e).isNone || !s.drives then s
  else (s.modEye e (fun y => { y with phase := .pulse (s.now + 2), suspended := [] })).emit (.flashReset e true)

/-- A MIRROR sent to the partner (R527). -/
def State.sendMirror (s : State) (item : MirrorItem) : State :=
  let q := (s.pair.mirrorSeq + 1) % 2 ^ 24
  let body := match item with
    | .flag p w => natBE 1 0 ++ natBE 2 p ++ natBE 4 w ++ natBE 3 q
    | .counter k v => natBE 1 1 ++ natBE 2 k ++ natBE 4 v ++ natBE 3 q
  let m : MirrorMsg := { item := item, seq := q, first := s.now, last := s.now }
  let s := { s with pair := { s.pair with mirrorSeq := q, mirrors := s.pair.mirrors ++ [m] } }
  s.toPartner 0x03 body

/-- A counter raise: written at once, and mirrored by an active unit (R260, R527). -/
def State.raiseCounter (s : State) (k v : Nat) : State :=
  if s.classCounter k < v then
    let s := s.setWord (counterAddr k) v
    if s.pair.role = .active && !s.pair.partnerLost then s.sendMirror (.counter k v) else s
  else s

/-- The raises of a flag found with RAISE_PENDING at hand-over are still to be completed (R296). -/
def State.raiseWaits (s : State) (p : Nat) : Bool := (s.plat p).raiseOwed && flagRaise (s.flag p)
/-- Their headers have all been read, but for those on an eyelet that is ID_BAD or retired (log entry 43). -/
def State.raisesRead (s : State) (p : Nat) : Bool :=
  (s.slottedLasts p).all (fun x => (s.plat p).raised.testBit x.entry || s.eyeBad (8 * (x.pd / 2) + x.lastEyelet))
/-- LAST_HEADER_READ of entry `x` completes its raise (R296). -/
def State.completesRaise (s : State) (p : Nat) (x : LastEntry) : Bool :=
  s.raiseWaits p && (s.plat p).raising.isNone && (s.plat p).fill.isNone && (s.plat p).act.isNone && s.slotted x &&
  !(s.plat p).raised.testBit x.entry
/-- A VERIFY record (R263, R627): page, or 0xFFFF_FFFF, and the source that was read. -/
def State.sourceRecord (s : State) (l code : Nat) (page : Option Nat) (src : Source) : State :=
  let k := match src with | .a => 0 | .b => 1 | .golden => 2 | .staged => 3
  s.eventInc 0x06 (.last l) code (natBE 4 (page.getD 0xFFFFFFFF) ++ natBE 1 k)

/-- The slot that the flag makes ACTIVE, from whose header an owed raise is completed (R296). -/
def State.raiseSource (s : State) (p : Nat) : Source := if flagActive (s.flag p) then .b else .a
/-- The header of entry `e` has been judged for its raise: one that fails a check of R243 raises nothing and makes its record
(R263, R296). -/
def State.raiseRead (s : State) (p e : Nat) (h : Bytes) (bad : Option Nat) : State :=
  let s := match bad with
    | some c => s.sourceRecord (16 * p + e) c none (s.raiseSource p)
    | none => s.raiseCounter (hdrClass h) (hdrVersion h)
  s.modPlat p (fun t => { t with raised := t.raised ||| (1 <<< e), raising := none })
/-- Checks 1 to 7 of that header, then its point-engine operation (R243, R244). -/
def State.raiseJudged (s : State) (p : Nat) : State :=
  match (s.plat p).raising with
  | none => s
  | some (e, h) =>
    if (s.opOf 1 (16 * p + e)).isSome then s
    else match s.lastEntry? (16 * p + e) with
      | none => s.raiseRead p e h (some Code.lastFieldBad)
      | some x => match s.headerChecks x (sourceEyelet x (s.lastSegment x) (s.raiseSource p)) h with
        | some c => s.raiseRead p e h (some c)
        | none => s.startOp 1 (16 * p + e) 1 verifySteps
/-- Firmware then clears RAISE_PENDING, before the fill job starts (R296). -/
def State.endRaises (s : State) (p : Nat) : State :=
  if !s.raiseWaits p then s
  else
    let w := mkFlag (flagActive (s.flag p)) false (flagGen (s.flag p))
    let s := match (s.plat p).raising with | some (e, _) => s.abortOp 1 (16 * p + e) | none => s
    let s := (s.setWord (flagAddr p) w).modPlat p (fun t => { t with raiseOwed := false, raised := 0, raising := none })
    if s.pair.role = .active && !s.pair.partnerLost then s.sendMirror (.flag p w) else s
/-- At hand-over, the flags with RAISE_PENDING (R296). -/
def State.oweRaises (s : State) : State :=
  (List.range 64).foldl (fun s p =>
    if flagRaise (s.flag p) then s.modPlat p (fun t => { t with raiseOwed := true, raised := 0 }) else s) s

/-- Every owed raise has been read: the first fill job of any platform may start (R296). -/
def State.allRaisesRead (s : State) : Bool := (List.range 64).all (fun p => !s.raiseWaits p || s.raisesRead p)

/-- CH_UP of the channel of welt `w` (R230); fills wait for it (R449). -/
def State.weltChanUp (s : State) (w : Nat) : Bool := (s.chan (weltChannel w)).up && !(s.chan (weltChannel w)).down

/-- The start of a fill job is open (R193, R197, R275, R277, R520, R615): held, nothing waiting before it, the map
re-pointed to the slot of the flag (R170, R296), or a fill in a new epoch owed, as after a REFILL that had to wait; the job
queued for the lasts of an empty boot set waits for its channels (R230, R449); in a standby, when its partner's fill or a running
platform calls for one. -/
def State.mayFill (s : State) (p : Nat) : Bool :=
  let t := s.plat p
  s.fw && (s.drives || s.shadowing) && s.pat.isSome && (s.platRec? p).isSome && !s.env.cleared && (t.hold || s.shadowing) &&
  t.fill.isNone && t.cob.isNone && s.allRaisesRead && (s.shadowing || t.map == flagActive (s.flag p)) &&
  !(s.deferred.any (fun d => match d with | .epoch q _ _ _ => q = p | _ => false)) &&
  (if s.shadowing then t.fillOwed else match t.state with
    | .held => ((s.bootSet p).length ≠ 0 || t.refills ≠ []) && t.writeback.isNone &&
        !((s.platRec p).cobblerEn && (t.waitingLost.length ≠ 0 || (s.openJob p).isSome))
    | .verified => t.fillOwed && (s.platRec p).welts.all s.weltChanUp
    | .recovering => t.fillOwed && t.writeback.isNone
    | .quarantined => t.fillOwed
    | _ => false)

/-- FILL_JOB_START (R193, R194): the epoch counter raised, a fresh key drawn, the epoch starting at the next boundary; with
the counter at its end no job starts. -/
def execFillJobStart (p : Nat) (s : State) : Host.Outcome State Fault Refusal :=
  if !s.mayFill p then .next s
  else
  let s := (List.range 64).foldl (fun s q => s.endRaises q) s
  if epochMax ≤ s.epochCounter then .next (s.tellExhausted p)
  else
    let s := s.raiseEpoch
    let n := s.epochCounter
    let (v, s) := s.draw
    .next (s.later (.epoch p n (v.setWidth 128) (if (s.plat p).state = .recovering then 10 else 0)))

/-- The boundary at which the fill job begins (R137, R194, R275), its cause that of R701: the epoch starts, the eyelets of the job
are pulsed and the platform is FILLING, or stays VERIFIED with an empty boot set. After CLEAR and in the entry to freeze no key is
drawn live again (R198, R638). A standby's map follows the journal flag here:
it re-points no window that it drives. -/
def State.epochNow (s : State) (p n : Nat) (key : BitVec 128) (cause : Nat) : State :=
  if (!(s.plat p).hold && !s.shadowing) || s.env.cleared || s.frz.entering.isSome then s
  else
    let s := s.startEpoch p n key
    let st := (s.plat p).state
    let s := s.modPlat p (fun t => { t with
      map := if s.shadowing then flagActive (s.flag p) else t.map, fillOwed := false, waitingLost := [], cobWhole := false, cobQueue := []
      noSource := if st = .verified then t.noSource else 0
      fill := some { todo := (s.platRec p).lasts.map (·.entry) } })
    let s := (((s.platRec p).lasts.flatMap (s.fillEyelets p)).eraseDups).foldl (fun s e => s.pulse e) s
    let s := (s.platRec p).welts.foldl (fun s w => s.modWelt w (fun x => { x with credit := 0, buf := [], dsec := none })) s
    if st = .verified then s.sendState p else if s.shadowing then s else s.setCustody p .filling .held cause

/-- The fill job of a last's platform. -/
def State.fillOf (s : State) (l : Nat) : Option FillJob := (s.plat (l / 16)).fill
/-- The fill job changed. -/
def State.modFill (s : State) (p : Nat) (f : FillJob → FillJob) : State :=
  s.modPlat p (fun t => { t with fill := t.fill.map f })

/-- The VERIFY record of a fill or an activation, which reads the source of the last's latch record. -/
def State.verifyRecord (s : State) (l code : Nat) (page : Option Nat) : State := s.sourceRecord l code page (s.latch l).source

/-- The verification of a last ends with a code: nothing more of it is read or sealed (R243, R248), and the job goes on with
its next entry where it was verifying this one. -/
def State.lastFails (s : State) (l code : Nat) (page : Option Nat := none) : State :=
  let s := s.modLatch l (fun x => { x with stage := .failed, code := code })
  let s := s.modFill (l / 16) (fun f =>
    let f := { f with todo := f.todo.filter (· ≠ l % 16) }
    if f.cur = some (l % 16) then { f with cur := none, pages := [], reads := [], finishing := false } else f)
  let s := (s.platRec (l / 16)).welts.foldl (fun s w => s.modWelt w (fun x =>
    { x with buf := x.buf.filter (fun b => b.last ≠ l || b.sealed) })) s
  s.verifyRecord l code page

/-- The bytes of a read taken from the welt's grant (R66). -/
def State.spend (s : State) (w n : Nat) : State := s.modWelt w (fun x => { x with credit := x.credit - n })

/-- The entry a fill of the job would take up next is `l`'s, and nothing is in progress. -/
def FillJob.expects (f : FillJob) (e : Nat) : Bool := f.cur.isNone && !f.stopped && !f.again && f.todo.head? = some e

/-- The activation of a platform expects the header of entry `e` next (R293 step 2). -/
def Activation.expectsHeader (a : Activation) (e : Nat) : Bool :=
  a.table.isNone && !a.committed && a.headers.head? = some e
/-- Where an activation's reads of the point engine are kept apart from a fill's. -/
def actIdent (l : Nat) : Nat := 1024 + l

/-- The slot an activation verifies: the one the journal flag does not name (R293). -/
def State.inactive (s : State) (p : Nat) : Source := if flagActive (s.flag p) then .a else .b

/-- A status block at offset 0x040 of the mailbox page (R287). -/
def State.statusBlock (s : State) (p cmd seq status : Nat) (done : Bool) : Bytes :=
  let t := s.plat p
  let ls := (s.platRec p).lasts
  let w := s.flag p
  let latched := maskOf ((ls.filter (fun x => (s.latch (16 * p + x.entry)).latched)).map (·.entry))
  let slotted := maskOf ((s.slottedLasts p).map (·.entry))
  let pending := flagRaise w || flagActive w != t.map
  let lease := match t.lease with | some l => decide (l.holder = .host) | none => false
  let left := match t.act with | some a => if a.writeback then 0 else a.deadline - s.now | none => 0
  natBE 2 0x4D53 ++ natBE 1 cmd ++ natBE 1 seq ++ natBE 2 status ++
  natBE 1 (b2n done + 2 * b2n (decide (t.excluded ≠ 0)) + 4 * b2n pending + 8 * b2n lease) ++
  natBE 1 (t.state.code + 16 * t.phase.code) ++ natBE 2 latched ++ natBE 2 t.excluded ++ natBE 2 slotted ++
  natBE 1 (b2n (flagActive w)) ++ natBE 1 (b2n t.map) ++ natBE 4 left ++ natBE 4 t.releases ++
  digestBytes t.measure ++ natBE 8 s.now
/-- The status block written into the mailbox page of presented device `k` (R282, R287; log entry 83). -/
def State.writeStatusBlock (s : State) (p k cmd seq status : Nat) (done : Bool) : State :=
  let b := s.statusBlock p cmd seq status done
  s.modPd k (fun d => { d with mailbox := Memory.writeN 0xFF d.mailbox 0x40 b })

/-- An activation ends without its commit (R293, R295, R300): the flag stays; a host's request is answered DONE 1; a
write-back ends its lease and lets the fill run from the old slot. -/
def State.activationEnds (s : State) (p code : Nat) : State :=
  match (s.plat p).act with
  | none => s
  | some a =>
    let s := (s.modPlat p (fun t => { t with act := none })).abortOp 4 (actIdent (16 * p + a.headers.headD 0))
    if a.writeback then
      (s.modPlat p (fun t => { t with lease := none, writeback := none })).eventInc 0x08 (.platform p) code
    else s.writeStatusBlock p a.pd 0x02 a.seq code true

/-- A failing step of an activation: the record carries the check's own code (R293 steps 2 to 4). -/
def State.slotFails (s : State) (p l code : Nat) (page : Option Nat) : State :=
  (s.verifyRecord l code page).activationEnds p Code.slotVerifyFailed

/-- The check of R243 in the stitch after a fill's header arrives: checks 1 to 7, and with them passed its point-engine
operation. -/
def State.headerJudged (s : State) (l : Nat) : State :=
  match s.lastEntry? l with
  | none => s
  | some x =>
    let y := s.latch l
    let s := s.modLatch l (fun y => { y with formatOk := hdrFormatOk y.header })
    match s.headerChecks x (sourceEyelet x (s.lastSegment x) y.source) y.header with
    | some c => s.lastFails l c
    | none => (s.modLatch l (fun y => { y with stage := .signature })).startOp 1 l 1 verifySteps
/-- The headers that have arrived for fills and for owed raises, at the boundary (R243). -/
def State.headerStep (s : State) : State :=
  if !s.fw then s
  else
    let here := s.latches.filter (fun e => decide (e.2.stage = .header) && (s.fillOf e.1).any (fun f => f.cur = some (e.1 % 16)))
    s.platNums.foldl State.raiseJudged (here.foldl (fun s e => s.headerJudged e.1) s)

/-- LAST_HEADER_READ (R243, R293 step 2): the 384 bytes of a header have arrived for a fill, which judges it at the boundary, or for
an activation. A source eyelet that is ID_BAD or retired ends the verification with CHANNEL_RETIRED (R262); the read waits
for a busy or unready eyelet (R702), for the welt's grant (R66), and, in a fill, for the channel to be up (R449). Before the
first fill it completes an owed raise (R296). -/
def execLastHeaderRead (last : Nat) (header : Bytes) (s : State) : Host.Outcome State Fault Refusal :=
  let p := last / 16
  let e := last % 16
  match s.lastEntry? last with
  | none => .next s
  | some x =>
    let w := x.pd / 2
    let filling := match (s.plat p).fill with | some f => f.expects e | none => false
    let activating := match (s.plat p).act with | some a => a.expectsHeader e | none => false
    if s.completesRaise p x then
      if !s.fw || header.length ≠ 384 || s.eyeBad (8 * w + x.lastEyelet) || !s.eyeReady (8 * w + x.lastEyelet) then .next s
      else .next ((s.ownRead (8 * w + x.lastEyelet) (x.areaPage (s.raiseSource p))).modPlat p (fun t => { t with
        raising := some (e, header) }))
    else
    let src := if filling then s.fillSource p x else s.inactive p
    let eyes := [8 * w + (sourceEyelet x (s.lastSegment x) src).1, 8 * w + x.lastEyelet]
    if !s.fw || header.length ≠ 384 || !(filling || activating) || (filling && !s.weltChanUp w) then .next s
    else if eyes.any s.eyeBad then
      .next (if filling then s.lastFails last Code.channelRetired else s.slotFails p last Code.channelRetired none)
    else if !eyes.all s.eyeReady || (s.welt w).credit < 384 then .next s
    else
      let s := (s.spend w 384).ownRead (8 * w + x.lastEyelet) (x.areaPage src)
      if filling then
        let s := s.modLatch last (fun y => { y with stage := .header, source := src, code := 0, formatOk := false
                                                    header := header, verdict := false, latched := false })
        .next (s.modFill p (fun f => { f with cur := some e, pages := [], reads := [], finishing := false }))
      else
        match s.headerChecks x (sourceEyelet x (s.lastSegment x) src) header with
        | some c => .next (s.slotFails p last c none)
        | none =>
          if (s.opOf 4 (actIdent last)).isSome then .next s
          else
            let s := s.startOp 4 (actIdent last) 1 verifySteps
            .next (s.modPlat p (fun t => { t with act := t.act.map (fun a => { a with table := some (e, header) }) }))

/-- LAST_HEADER_VERIFIED (R243 checks 8 and 9, R244, R245): the 167 steps are done and the key digest and the
verdict reach the record, or complete an owed raise (R296). -/
def execLastHeaderVerified (last : Nat) (s : State) : Host.Outcome State Fault Refusal :=
  let p := last / 16
  if !s.live || !s.opDone 1 last then .next s
  else match (s.plat p).raising.bind (fun r => if r.1 = last % 16 then some r.2 else none) with
  | some h => .next ((s.endOp 1 last).raiseRead p (last % 16) h (s.signerChecks p h))
  | none =>
  if (s.latch last).stage = .signature then
    let s := s.endOp 1 last
    match s.signerChecks p (s.latch last).header with
    | some c => .next (s.lastFails last c)
    | none => .next (s.modLatch last (fun y => { y with stage := .table, verdict := true }))
  else .next s

/-- Step 2 of R293 for one last: the 167 steps of its header's verification are done. -/
def State.activationVerified (s : State) (last : Nat) : State :=
  let p := last / 16
  if !s.opDone 4 (actIdent last) then s
  else match (s.plat p).act with
  | some a =>
    match a.table with
    | some (te, h) =>
      if te ≠ last % 16 then s
      else
        let s := s.endOp 4 (actIdent last)
        match s.signerChecks p h with
        | some c => s.slotFails p last c none
        | none =>
          if hdrSequence h ≤ hdrSequence (s.latch last).header then s.slotFails p last Code.sequenceStale none else s
    | none => s
  | none => s

/-- The eight entries of the digest sector that begins with mirror page `first`: those of a table whose first page is `b`, the
sector's own for the rest. -/
def sectorEntries (table old : Bytes) (b first : Nat) : Bytes :=
  (List.range 8).flatMap (fun k =>
    if b ≤ first + k && first + k < b + table.length / 32 then bytesAt table (32 * (first + k - b)) 32
    else bytesAt old (32 * k) 32)
/-- The entries of a table sealed into the digest sectors of the entry's mirror pages, eight to a sector (R191, R249). What the
sequencer held of them is stale. -/
def State.sealTable (s : State) (x : LastEntry) (table : Bytes) : State :=
  let b := (s.lastSegment x).solePage.getD 0
  let sectors := if table.length < 32 then 0 else (b + table.length / 32 - 1) / 8 - b / 8 + 1
  let s := (List.range sectors).foldl (fun s i =>
    let first := (b / 8 + i) * 8
    let m := max b first
    s.sealDigests m (sectorEntries table ((s.openDigests m).getD (fill 256 0)) b first)) s
  s.modWelt (x.pd / 2) (fun w => { w with dsec := none })

/-- The next pages of the rejoin list go to the partner, at most 256 in a message, once those asked for before are done
(R523). -/
def State.sendRejoin (s : State) : State :=
  if s.pair.rejoinOut ≠ [] || s.pair.rejoin = [] || s.pair.partnerLost then s
  else
    let out := s.pair.rejoin.take 256
    let s := { s with pair := { s.pair with rejoin := s.pair.rejoin.drop 256, rejoinOut := out } }
    s.toPartner 0x08 (out.flatMap (natBE 4))
/-- A standby lacks pages of a platform that runs: they join its rejoin list (R521, R523). -/
def State.wantRejoin (s : State) (ms : List Nat) : State :=
  if s.pair.role ≠ .standby then s
  else
    let new := ms.filter (fun m => !s.pair.rejoin.contains m && !s.pair.rejoinOut.contains m)
    ({ s with pair := { s.pair with rejoin := s.pair.rejoin ++ new } } : State).sendRejoin
/-- A page asked for has been judged. -/
def State.rejoinDone (s : State) (m : Nat) : State :=
  if s.pair.rejoinOut.contains m then
    ({ s with pair := { s.pair with rejoinOut := s.pair.rejoinOut.filter (· ≠ m) } } : State).sendRejoin
  else s

/-- TABLE_STREAM_DONE (R238, R247 to R249, R293 step 3): the table has streamed through the awl. An activation's is sealed into
the platform's staging area. -/
def execTableStreamDone (last : Nat) (table : Bytes) (cmpFault : Bool) (s : State) :
    Host.Outcome State Fault Refusal :=
  let p := last / 16
  let e := last % 16
  match s.lastEntry? last with
  | none => .next s
  | some x =>
    let w := x.pd / 2
    let le := 8 * w + x.lastEyelet
    let y := s.latch last
    let filling := y.stage = .table && (match (s.plat p).fill with
      | some f => decide (f.cur = some e) && (!f.stopped || f.finishing)
      | none => false)
    let actHdr := match (s.plat p).act with
      | some a => (match a.table with | some (te, h) => if te = e && (s.opOf 4 (actIdent last)).isNone then some h else none
                                      | none => none)
      | none => none
    let want := if filling then some y.header else actHdr
    match want with
    | none => .next s
    | some h =>
      if !s.live || table.length ≠ 32 * hdrPages h then .next s
      else if s.eyeBad le then
        .next (if filling then s.lastFails last Code.channelRetired else s.slotFails p last Code.channelRetired none)
      else if !s.eyeReady le || (s.welt w).credit < table.length then .next s
      else
        let s := (s.spend w table.length).ownRead le (x.areaPage (if filling then y.source else s.inactive p) + 1)
        let ok := sm3 table = hdrTable h
        if filling then
          let s := (s.sealTable x table).modLatch last (fun y => { y with tableRead := true })
          if cmpFault then .next ((s.lastFails last Code.verifyCompareFault).compareFault w)
          else if ok then
            let s := (s.faultOk 1 w).modLatch last (fun y => { y with stage := .pages, tableOk := some true })
            let s := s.modFill p (fun f => { f with pages := List.range (hdrPages h), reads := [], finishing := false })
            let st := (s.plat p).state
            let b := (s.lastSegment x).solePage.getD 0
            .next (if st = .released || st = .running then s.wantRejoin ((List.range (hdrPages h)).map (b + ·)) else s)
          else
            let s := s.modLatch last (fun y => { y with tableOk := some false })
            .next (s.lastFails last Code.tableDigestMismatch)
        else if cmpFault then .next ((s.slotFails p last Code.verifyCompareFault none).compareFault w)
        else if !ok then .next (s.slotFails p last Code.tableDigestMismatch none)
        else
          let key := match (s.plat p).act with | some a => a.key | none => 0
          let s := (s.faultOk 1 w).stageTable key p w (s.tablePlace p x) table
          .next (s.modPlat p (fun t => { t with act := t.act.map (fun a =>
            let hs := a.headers.drop 1
            let ts := a.tables ++ [(e, h, table)]
            { a with table := none, headers := hs, tables := ts
                     pages := if hs = [] then ts.map (·.1) else a.pages, page := 0, reads := [] }) }))

/-- The latch logic sets LATCHED once R257 holds, or ends the fill with ROLLBACK_REJECTED when only the counter stands in
the way (R257, R262). -/
def State.tryLatch (s : State) (l : Nat) : State :=
  let y := s.latch l
  let n := hdrPages y.header
  let all := (List.range n).all (fun j => tget false y.matched j && tget false y.written j)
  if y.latched || !y.verdict || y.tableOk ≠ some true || !all then s
  else if hdrVersion y.header < s.classCounter (hdrClass y.header) then
    if y.stage = .failed then s else s.lastFails l Code.rollbackRejected
  else s.modLatch l (fun y => { y with latched := true, stage := .latched, code := 0 })

/-- The pages of an entry a repair rewrites: those listed, and those R215 made LOST (R254, R302). -/
def State.againPages (s : State) (p e : Nat) : List Nat :=
  ((s.latch (16 * p + e)).bad ++ ((s.plat p).waitingLost.filter (fun x => x.1 = e)).map Prod.snd).eraseDups

/-- The pages of an entry a second judgement reads, ascending: those, and for a last whose verification ended before its last page
those not yet matched (R254; log entry 84). -/
def State.judgePages (s : State) (p e : Nat) : List Nat :=
  let y := s.latch (16 * p + e)
  let rest := y.verdict && y.tableOk = some true
  (List.range (hdrPages y.header)).filter (fun j => (s.againPages p e).contains j || (rest && !tget false y.matched j))
/-- A second judgement takes up the first of the entries that has a page to judge; a last that had failed is in its pages again,
with no code (R254, R266, R267). -/
def State.againTake (s : State) (p : Nat) (es : List Nat) : State :=
  match es.find? (fun e => s.judgePages p e ≠ []) with
  | none => s.modFill p (fun f => { f with cur := none, todo := [], pages := [] })
  | some e =>
    (s.modFill p (fun f => { f with cur := some e, todo := es.dropWhile (· ≠ e), pages := s.judgePages p e })).modLatch (16 * p + e)
      (fun y => if y.stage = .failed && y.verdict && y.tableOk = some true then { y with stage := .pages, code := 0 } else y)

/-- The job's next page, or the end of the current last; in a second judgement (R254) the next entry's pages follow. -/
def State.nextPage (s : State) (l : Nat) : State :=
  let p := l / 16
  let s := s.modFill p (fun f => { f with pages := f.pages.drop 1, reads := [], finishing := false })
  match (s.plat p).fill with
  | none => s
  | some f =>
    if f.pages ≠ [] then s
    else
      let s := s.modFill p (fun f => { f with cur := none, todo := f.todo.filter (· ≠ l % 16) })
      if !f.again then s else s.againTake p (f.todo.filter (· ≠ l % 16))

/-- The page and the digest entry the fill sequencer holds for it, once its digest sector is fetched and opened (R250). -/
def State.heldDigest (s : State) (w m : Nat) : Option Digest :=
  (s.welt w).dsec.bind (fun d => if d.1 = digestIndex m then some (digestEntry m d.2) else none)

/-- One read of a page of a fill, judged against the digest entry that the sequencer holds (R247, R248, R250, R252 to R254). A
page left without a frame can take no copy (R199, R219; log entry 75). -/
def State.fillPageRead (s : State) (l : Nat) (x : LastEntry) (data : Bytes) (cmpFault : Bool) : State :=
  let p := l / 16
  let w := x.pd / 2
  let g := s.lastSegment x
  match (s.plat p).fill with
  | none => s
  | some f =>
    match f.pages with
    | [] => s
    | j :: _ =>
      let src := sourceEyelet x g (s.latch l).source
      let e := 8 * w + src.1
      let m := g.solePage.getD 0 + j
      if f.cur ≠ some (l % 16) || (f.stopped && !f.finishing) || data.length ≠ 4096 then s
      else if s.eyeBad e || (s.page m).noFrame then s.lastFails l Code.channelRetired
      else if !s.eyeReady e || (s.welt w).credit < 4096 || 2 ≤ (s.welt w).buf.length then s
      else match s.heldDigest w m with
      | none => s
      | some want =>
        let s := (s.spend w 4096).ownRead e (src.2 + j)
        if cmpFault then (s.lastFails l Code.verifyCompareFault).compareFault w
        else
          let d := sm3 data
          let reads := f.reads ++ [d]
          let s := s.sendPageCheck l j f.reads.length d
          match judgeReads want reads with
          | .again => s.modFill p (fun f => { f with reads := reads })
          | .matched n =>
            let s := if n = 1 then s.faultOk 0 e else s.countFault 0 e Code.pageReadUnstable
            let s := (s.faultOk 1 w).modLatch l (fun y => { y with
              matched := tset false y.matched j true, bad := y.bad.filter (· ≠ j) })
            let s := s.modPlat p (fun t => { t with waitingLost := t.waitingLost.filter (· ≠ (l % 16, j)) })
            let s := s.modWelt w (fun x => { x with buf := x.buf ++ [{ last := l, page := j, mirror := m, data := data }] })
            s.nextPage l
          | .mismatch =>
            let full := 256 ≤ (s.latch l).bad.length && !(s.latch l).bad.contains j
            if full then s.lastFails l Code.pageDigestMismatch (some j)
            else
              let s := s.modLatch l (fun y => { y with bad := if y.bad.contains j then y.bad else y.bad ++ [j] })
              ((s.verifyRecord l Code.pageDigestMismatch (some j)).rejoinDone m).nextPage l
          | .unstable =>
            let s := (s.verifyRecord l Code.pageReadUnstable (some j)).modFill p (fun f => { f with reads := [] })
            s.countFault 0 e Code.pageReadUnstable

/-- One read of a page of an activation, judged against the table in the staging area and not sealed (R293 step 4). -/
def State.activationPageRead (s : State) (p : Nat) (data : Bytes) (cmpFault : Bool) : State :=
  match (s.plat p).act with
  | none => s
  | some a =>
    match a.pages with
    | [] => s
    | te :: rest =>
      let l := 16 * p + te
      match s.lastEntry? l, a.tables.find? (fun t => t.1 = te) with
      | some x, some (_, h, table) =>
        let w := x.pd / 2
        let e := 8 * w + (sourceEyelet x (s.lastSegment x) (s.inactive p)).1
        let upd := fun (s : State) (g : Activation → Activation) =>
          s.modPlat p (fun t => { t with act := t.act.map g })
        if a.headers ≠ [] || a.ready || data.length ≠ 4096 then s
        else if s.eyeBad e then s.slotFails p l Code.channelRetired none
        else if !s.eyeReady e || (s.welt w).credit < 4096 then s
        else
          let s := (s.spend w 4096).ownRead e ((sourceEyelet x (s.lastSegment x) (s.inactive p)).2 + a.page)
          if cmpFault then (s.slotFails p l Code.verifyCompareFault (some a.page)).compareFault w
          else
            let s := s.sendPageCheck l a.page a.reads.length (sm3 data)
            let reads := a.reads ++ [sm3 data]
            let want := (s.stagedEntry a.key p w (s.tablePlace p x) a.page).getD (tableEntry table a.page)
            match judgeReads want reads with
            | .again => upd s (fun a => { a with reads := reads })
            | .matched n =>
              let s := (if n = 1 then s.faultOk 0 e else s.countFault 0 e Code.pageReadUnstable).faultOk 1 w
              if a.page + 1 < hdrPages h then upd s (fun a => { a with page := a.page + 1, reads := [] })
              else upd s (fun a => { a with pages := rest, page := 0, reads := [], ready := decide (rest = []) })
            | .mismatch => s.slotFails p l Code.pageDigestMismatch (some a.page)
            | .unstable =>
              (s.slotFails p l Code.pageReadUnstable (some a.page)).countFault 0 e Code.pageReadUnstable
      | _, _ => s

/-- The read of such a page as the standby that asked for it observes it (R523): judged against its own entry and put into the fill
buffer; a page that does not match is asked for again. -/
def State.rejoinPageSeen (s : State) (m : Nat) (data : Bytes) : State :=
  match s.pageEntry m with
  | none => s
  | some (p, e, j) =>
    let l := 16 * p + e
    let y := s.latch l
    let w := match s.lastEntry? l with | some x => x.pd / 2 | none => 0
    if !s.shadowing || !s.pair.rejoinOut.contains m || !y.verdict || y.tableOk ≠ some true || tget false y.matched j ||
        data.length ≠ 4096 || 2 ≤ (s.welt w).buf.length || (s.page m).noFrame then s
    else if some (sm3 data) = s.pageDigest m then
      let s := s.modLatch l (fun y => { y with matched := tset false y.matched j true, bad := y.bad.filter (· ≠ j) })
      let s := s.modFill p (fun f => if f.cur = some e then { f with pages := f.pages.filter (· ≠ j), reads := [] } else f)
      let s := if y.stage = .pages && (s.plat p).fill.any (fun f => f.cur = some e && f.pages = []) then s.nextPage l else s
      s.modWelt w (fun x => { x with buf := x.buf ++ [{ last := l, page := j, mirror := m, data := data }] })
    else ({ s with pair := { s.pair with
        rejoinOut := s.pair.rejoinOut.filter (· ≠ m), rejoin := s.pair.rejoin ++ [m] } } : State).sendRejoin

/-- One read of a page the partner asked for (R523): within the welt's grant, sealing nothing. -/
def State.rejoinPageRead (s : State) (m : Nat) (data : Bytes) : State :=
  match s.refillSource m with
  | some (e, fp) =>
    if s.pair.role ≠ .active || !s.pair.rejoinAsked.contains m || data.length ≠ 4096 then s
    else if s.eyeBad e then { s with pair := { s.pair with rejoinAsked := s.pair.rejoinAsked.filter (· ≠ m) } }
    else if !s.eyeReady e || (s.welt (e / 8)).credit < 4096 then s
    else
      let s := (s.spend (e / 8) 4096).ownRead e fp
      { s with pair := { s.pair with rejoinAsked := s.pair.rejoinAsked.filter (· ≠ m) } }
  | none => s

/-- PAGE_READ_DONE (R252): an awl finishes a page digest for a fill, an activation or a partner's rejoin list. -/
def execPageReadDone (what : ReadFor) (data : Bytes) (cmpFault : Bool) (s : State) : Host.Outcome State Fault Refusal :=
  if !s.live then .next s
  else match what with
    | .fill l => match s.lastEntry? l with
      | some x => .next (s.fillPageRead l x data cmpFault)
      | none => .next s
    | .activation p => .next (s.activationPageRead p data cmpFault)
    | .rejoin m => .next (if s.pair.role = .active then s.rejoinPageRead m data else s.rejoinPageSeen m data)

/-- The oldest page of a fill buffer that PAGE_SEALED has not taken yet. -/
def WeltSt.unsealed (w : WeltSt) : Option BufPage := w.buf.find? (fun b => !b.sealed)
/-- That page taken: it stays in the buffer until its last sector is drained. -/
def takeSealed : List BufPage → List BufPage
  | [] => []
  | b :: bs => if b.sealed then b :: takeSealed bs else if b.left = 0 then bs else { b with sealed := true } :: bs

/-- PAGE_SEALED (R201, R251, R257): the sixteenth sector of the oldest page in the welt's buffer is written in a slot of the stitch
now running; the page is VALID at the boundary. -/
def execPageSealed (welt : Fin 64) (s : State) : Host.Outcome State Fault Refusal :=
  let left := match ((s.soleWrites (fun _ => [])).welt welt.val).unsealed with | some b => b.left | none => 16
  match (s.welt welt.val).unsealed with
  | none => .next s
  | some b =>
    if !s.live || left ≠ 0 then .next s
    else
      let s := s.modWelt welt.val (fun w => { w with buf := takeSealed w.buf })
      let s := s.writePage b.mirror b.data
      let s := s.modLatch b.last (fun y => { y with written := tset false y.written b.page true })
      let s := (s.later (.page b.mirror .valid)).tryLatch b.last
      .next (s.rejoinDone b.mirror)

/-- The entries of a platform whose table has matched and that have a page neither matched nor listed (R518). -/
def State.missedEntries (s : State) (p : Nat) : List Nat :=
  ((s.platRec p).lasts.filter (fun x =>
    let y := s.latch (16 * p + x.entry)
    decide (y.stage = .pages) && y.verdict && y.tableOk = some true &&
      (List.range (hdrPages y.header)).any (fun j => !tget false y.matched j && !y.bad.contains j))).map (·.entry)
/-- The fill job that a new active unit goes on with reads also the pages that it had left to the rejoin list as a standby (R518,
R521). -/
def State.missedStep (s : State) (p : Nat) : State :=
  if s.drives && decide ((s.plat p).state = .filling) && s.fillEnded p && s.missedEntries p ≠ [] then
    (s.modPlat p (fun t => { t with fill := some { again := true } })).againTake p (s.missedEntries p)
  else s

/-- A fill of a running platform's entry begins (R197, R480): the job reads that entry in the current epoch, after those
permitted before it; an entry whose table has streamed in this epoch is not read again (R249). -/
def State.fillRunningNow (s : State) (p e : Nat) : State :=
  if (s.latch (16 * p + e)).tableRead then s
  else match (s.plat p).fill with
  | none => s.modPlat p (fun t => { t with fill := some { todo := [e], onRunning := true } })
  | some f =>
    if f.onRunning && f.cur ≠ some e && !f.todo.contains e then s.modFill p (fun f => { f with todo := f.todo ++ [e] }) else s

end Sys2Proof.Machine
end

