-- ==== Sys2Proof/Machine/Mailbox.lean ====
section
/-!
DEFINITION. The mailbox and the activation of the inactive slot (R282 to R296, R527 to R529).
-/
namespace Sys2Proof.Machine
open Sys2Proof

/-- The host holds the platform's lease. -/
def State.hostLease (s : State) (p : Nat) : Bool :=
  match (s.plat p).lease with | some l => decide (l.holder = .host) | none => false
/-- An ACTIVATE_REQUEST of the platform runs (R285). -/
def State.activating (s : State) (p : Nat) : Bool :=
  match (s.plat p).act with | some a => !a.writeback | none => false

/-- The command taken off the platform's queue; MAILBOX_PENDING goes with the last one. -/
def State.mboxPop (s : State) (p : Nat) : State :=
  s.modPlat p (fun t => { t with mboxQueue := t.mboxQueue.drop 1, mailboxPending := decide (1 < t.mboxQueue.length) })

/-- A request refused with BUSY counts in BUSY_COUNT (R91; log entry 74). -/
def State.busyCounted (s : State) (code : Nat) : State :=
  if code = Code.busy then { s with stitch := { s.stitch with busyCount := satInc 0xFFFF s.stitch.busyCount } } else s

/-- A refusal of a mailbox command: answered, nothing carried out; BUSY is counted (R91, R284, R285). -/
def State.mboxRefuse (s : State) (p k : Nat) (b : Bytes) (code : Nat) : State :=
  (s.busyCounted code).writeStatusBlock p k (blkCmd b) (blkSeq b) code true

/-- Commands at the head of the queue whose CMD is unknown are answered MAILBOX_FORMAT_BAD (R284). -/
def State.mboxFlush (s : State) (p : Nat) : Nat → State
  | 0 => s
  | n + 1 =>
    match (s.plat p).mboxQueue with
    | (k, b) :: _ =>
      if blkCmd b = 0 || 4 < blkCmd b then ((s.mboxPop p).mboxRefuse p k b Code.mailboxFormatBad).mboxFlush p n else s
    | [] => s

/-- A mailbox command of one CMD: the refusals of R285 in order, then `act` on the presented device of its mailbox and on its SEQ
and LEN. The management domain must be up (R38). -/
def State.mailbox (s : State) (p cmd : Nat) (permitted : PlatSt → Bool) (act : State → Nat → Nat → Nat → State) : State :=
  if !s.live || !s.sys.mgmtUp || !s.platOk p then s
  else
    let s := s.mboxFlush p (s.plat p).mboxQueue.length
    match (s.plat p).mboxQueue with
    | [] => s
    | (k, b) :: _ =>
      if blkCmd b ≠ cmd then s
      else
        let s := s.mboxPop p
        if !blkOk b then s.mboxRefuse p k b Code.mailboxFormatBad
        else if s.activating p then s.mboxRefuse p k b Code.busy
        else if !permitted (s.plat p) then s.mboxRefuse p k b Code.phaseRefused
        else act s k (blkSeq b) (blkLen b)

/-- BOOT_DONE (R285): the capture has latched it in phase BOOT (R315), and firmware posts the PHASE request; no effect in
RUNTIME and UPDATE. A full ring refuses it with BUSY, and then nothing changes (R703). -/
def execBootDone (p : Nat) (s : State) : Host.Outcome State Fault Refusal :=
  .next (s.mailbox p 1 (fun t => t.phase ≠ .held) (fun s k seq _ =>
    if (s.plat p).phase = .boot then
      if !s.ringRoom then (s.busyCounted Code.busy).writeStatusBlock p k 1 seq Code.busy true
      else ((s.modPlat p (fun t => { t with bootDoneSeen := true })).askRuntime p).writeStatusBlock p k 1 seq Code.ok true
    else s.writeStatusBlock p k 1 seq Code.ok true))

/-- STATUS (R285): a fresh status block. -/
def execMailboxStatus (p : Nat) (s : State) : Host.Outcome State Fault Refusal :=
  .next (s.mailbox p 3 (fun _ => true) (fun s k seq _ => s.writeStatusBlock p k 3 seq Code.ok true))

/-- MEASURE_EXTEND (R285, R286): MEASURE = SM3(MEASURE ‖ data area bytes 0 to LEN − 1). -/
def execMeasureExtend (p : Nat) (s : State) : Host.Outcome State Fault Refusal :=
  .next (s.mailbox p 4 (fun t => t.phase = .boot || t.phase = .runtime) (fun s k seq len =>
    let m := sm3 (digestBytes (s.plat p).measure ++ Memory.readN 0xFF (s.pd k).mailbox 0x80 len)
    (s.modPlat p (fun t => { t with measure := m })).writeStatusBlock p k 4 seq Code.ok true))

/-- The bytes a welt's grants give over one schedule cycle, S_w of R294. -/
def State.cycleGrant (s : State) (w : Nat) : Nat :=
  (s.stitch.active.rows.map (fun r => 40 * rowAwl r w)).foldl (· + ·) 0

/-- The deadline of R294 in stitches from acceptance; none when some welt has no grant. -/
def State.activateDeadline (s : State) (p : Nat) : Option Nat :=
  let ls := s.slottedLasts p
  let ws := (ls.map (fun x => x.pd / 2)).eraseDups
  if ws.any (fun w => s.cycleGrant w = 0) then none
  else
    let nW := fun w => ((ls.filter (fun x => x.pd / 2 = w)).map (fun x =>
      384 + 4128 * (s.lastSegment x).pageCount)).foldl (· + ·) 0
    some (2000 + 2 * (ws.map (fun w => ceilDiv (nW w * s.stitch.active.rows.length) (s.cycleGrant w))).foldl (· + ·) 0)

/-- An activation begins with step 1 of R293; `k` is the presented device whose mailbox asked for it. A fresh key is drawn for the
tables it keeps in the staging area (log entry 75). -/
def State.beginActivation (s : State) (p k seq deadline : Nat) (writeback : Bool) : State :=
  let es := (s.slottedLasts p).map (·.entry)
  let (v, s) := s.draw
  s.modPlat p (fun t => { t with act := some { seq := seq, pd := k, writeback := writeback, deadline := deadline, accepted := s.now,
                                               headers := es, ready := decide (es = []), key := v.setWidth 128 } })

/-- ACTIVATE_REQUEST (R285, R293 step 1, R294): answered DONE 0 with its deadline, and verification begins; or ended at once
with ACTIVATE_DEADLINE or FLIP_PENDING. A unit that shadows verifies beside its partner, which holds the lease (R520). -/
def execActivateRequest (p : Nat) (s : State) : Host.Outcome State Fault Refusal :=
  .next (s.mailbox p 2 (fun t => t.phase = .update && (s.hostLease p || s.shadowing)) (fun s k seq _ =>
    match s.activateDeadline p with
    | none => s.writeStatusBlock p k 2 seq Code.activateDeadline true
    | some d =>
      if flagActive (s.flag p) != (s.plat p).map || flagRaise (s.flag p) then
        s.writeStatusBlock p k 2 seq Code.flipPending true
      else (s.beginActivation p k seq (s.now + d) false).writeStatusBlock p k 2 seq Code.ok false))

/-! ### The flip, and mirrored writes (R292, R293 steps 5 to 7, R527 to R529) -/

/-- The counters of the activated lasts raised (R260, R293 step 6). -/
def State.raiseAll (s : State) (a : Activation) : State :=
  a.tables.foldl (fun s t => s.raiseCounter (hdrClass t.2.1) (hdrVersion t.2.1)) s

/-- Step 7 is done: the activation ends with OK (R293). -/
def State.activationDone (s : State) (p : Nat) : State :=
  match (s.plat p).act with
  | none => s
  | some a =>
    let s := s.modPlat p (fun t => { t with act := none })
    if a.writeback then
      s.modPlat p (fun t => { t with lease := none, writeback := none, fill := none })
    else s.writeStatusBlock p a.pd 0x02 a.seq Code.ok true

/-- A flag write reaches the unit's own MRAM, and what follows it: after the commit the raises and the write that clears
RAISE_PENDING, after that the end (R293). `again` writes the second word. -/
def State.flagWritten (s : State) (p w : Nat) (again : State → Nat → State) : State :=
  let s := s.setWord (flagAddr p) w
  match (s.plat p).act with
  | none => s
  | some a =>
    if flagRaise w then
      let s := (s.raiseAll a).modPlat p (fun t => { t with act := t.act.map (fun a => { a with committed := true }) })
      again s (mkFlag (flagActive w) false (flagGen w))
    else s.activationDone p

/-- A flag write of an activation (R527, R529): an unpaired unit, and one whose partner is lost with SOLO set, writes at once;
an active unit waits for the partner's acknowledgement; with the partner lost and SOLO clear the step ends with
PARTNER_LOST. -/
def State.writeFlag (s : State) (p w : Nat) : State :=
  let direct := fun s : State => s.flagWritten p w (fun s w' => s.flagWritten p w' (fun s _ => s))
  if !s.paired then direct s
  else if s.pair.partnerLost then
    if s.pair.solo then direct s
    else if flagRaise w then s.activationEnds p Code.partnerLost else s
  else s.sendMirror (.flag p w)

/-- ACTIVATION_COMMIT (R293 steps 5 to 7): every slotted last has verified. A unit that shadows writes no flag: its partner's MIRROR
does (R520, R527). -/
def execActivationCommit (p : Nat) (s : State) : Host.Outcome State Fault Refusal :=
  match (s.plat p).act with
  | none => .next s
  | some a =>
    let waits := s.pair.mirrors.any (fun m => match m.item with | .flag q _ => q = p | _ => false)
    if !s.fw || s.shadowing || !a.ready || a.committed || waits then .next s
    else
      let w := s.flag p
      .next (s.writeFlag p (mkFlag (!flagActive w) true (flagGen w + 1)))

/-- ACTIVATE_DEADLINE (R294): the deadline has come and the commit has not been written. -/
def execActivateDeadline (p : Nat) (s : State) : Host.Outcome State Fault Refusal :=
  match (s.plat p).act with
  | none => .next s
  | some a =>
    if s.fw && !a.writeback && !a.committed && a.deadline ≤ s.now then
      .next ((s.dropFlag p).activationEnds p Code.activateDeadline)
    else .next s

end Sys2Proof.Machine
end

