-- ==== Sys2Proof/Machine/Cobbler.lean ====
section
/-!
DEFINITION. The cobbler (R300 to R306, R704): sources, page and whole-image repairs, the journal, the page steps, and the
write-back of a staged SLOT bundle.
-/
namespace Sys2Proof.Machine
open Sys2Proof

/-! ### Sources and targets (R301, R303) -/

/-- The slot the job writes: the one the failing fill read from, or the inactive slot in a write-back. A job resumed before any
fill of the device start writes the slot that a fill would read (R306). -/
def State.cobTarget (s : State) (p : Nat) (j : CobJob) : Source :=
  if j.writeback then s.inactive p
  else if (s.latch (16 * p + j.entry)).stage = .idle then
    (match s.lastEntry? (16 * p + j.entry) with | some x => s.fillSource p x | none => .a)
  else (s.latch (16 * p + j.entry)).source
/-- The global eyelet and first flash page of the job's target image. -/
def State.cobTargetEye (s : State) (p : Nat) (j : CobJob) (x : LastEntry) : Nat × Nat :=
  let t := sourceEyelet x (s.lastSegment x) (s.cobTarget p j)
  (8 * (x.pd / 2) + t.1, t.2)
/-- The first page of the target's last area on LAST_EYELET. -/
def State.cobTargetArea (s : State) (p : Nat) (j : CobJob) (x : LastEntry) : Nat := x.areaPage (s.cobTarget p j)
/-- The source of an order of R301: 0 the other slot, 1 golden, 2 staged. -/
def State.cobSource (s : State) (p : Nat) (j : CobJob) (order : Nat) : Source :=
  match order with
  | 0 => if s.cobTarget p j = .b then .a else .b
  | 1 => .golden
  | _ => .staged
/-- The source is there to be tried (R301). -/
def State.cobHas (s : State) (p : Nat) (j : CobJob) (x : LastEntry) (order : Nat) : Bool :=
  let w := x.pd / 2
  match order with
  | 0 => s.slotted x && !s.eyeBad (8 * w + (sourceEyelet x (s.lastSegment x) (s.cobSource p j 0)).1)
  | 1 => x.golden.isSome && !s.eyeBad (8 * w + x.golden.getD 0)
  | _ => match (s.plat p).recovery with | some b => b.mask.testBit x.entry | none => false

/-- The job changed. -/
def State.modCob (s : State) (p : Nat) (f : CobJob → CobJob) : State :=
  s.modPlat p (fun t => { t with cob := t.cob.map f })

/-- The journal record of R305. -/
def cobRecord (p : Nat) (j : CobJob) (eyelet now : Nat) : Bytes :=
  let step := match j.step with | .read => 0 | .erase => 1 | .program => 2 | .check => 3
  natBE 1 0xA5 ++ natBE 1 step ++ natBE 1 j.source ++ natBE 1 (b2n j.whole) ++ natBE 2 (16 * p + j.entry) ++
  natBE 1 (eyelet % 8) ++ natBE 1 0 ++
  natBE 4 (if j.area ≠ [] then 0xFFFFFFFF else j.pages.headD 0) ++ natBE 4 (j.area.headD 0) ++
  natBE 8 j.started ++ natBE 8 now
/-- The journal written: the record, VALID last when it opens (R305). A resumed job leaves the record of the interruption as it
is until its source is verified (R306). -/
def State.journal (s : State) (p : Nat) : State :=
  match (s.plat p).cob, (s.plat p).cob.bind (fun j => s.lastEntry? (16 * p + j.entry)) with
  | some j, some x =>
    if j.resume.isSome then s else
    let b := cobRecord p j (s.cobTargetEye p j x).1 s.now
    (s.setBytes (cobJournalAddr p + 1) (b.drop 1)).setBytes (cobJournalAddr p) (b.take 1)
  | _, _ => s

/-! ### The end of a job -/

/-- The next queued entry, or the end of the recovery (R275): NO_SOURCE where an entry has no source, unless RUN_DEGRADED leaves
repaired ones to judge; a new fill in a new epoch after a whole-image repair or a job that waited for the hold, and before a
write-back or a re-pointing of the map that waits (R170, R308); else a second judgement in the same epoch. -/
def State.cobNext (s : State) (p : Nat) : State :=
  let s := ((s.closeJournal p).modPlat p (fun t => { t with cob := none })).abortOp 2 p
  let t := s.plat p
  if t.cobQueue ≠ [] || (t.noSource ≠ 0 && (!(s.platRec p).runDegraded || t.cobDone = [])) then s
  else if t.cobWhole || !t.cobSame || t.writeback.isSome || t.map != flagActive (s.flag p) then
    s.modPlat p (fun t => { t with fillOwed := true, cobDone := [] })
  else
    let s := (s.modPlat p (fun t => { t with cobDone := [], fill := some { again := true } })).againTake p t.cobDone
    s.later (.custody p .filling 10)
/-- A whole-image repair that needs a new epoch, when none is left: it is not made, and the platform stays RECOVERING, but for the
second judgement of the entries repaired before it (R193). -/
def State.cobSpent (s : State) (p : Nat) : State :=
  let s := (((s.closeJournal p).modPlat p (fun t => { t with cob := none })).abortOp 2 p).tellExhausted p
  if (s.plat p).cobDone = [] then s else s.cobNext p

/-- The repair in hand comes from a staged bundle, and no entry still queued could use that bundle: its use completes (R291,
log entry 73). -/
def PlatSt.bundleUsed (t : PlatSt) : Bool :=
  match t.cob, t.recovery with
  | some j, some b => !j.writeback && j.source = 2 && t.cobQueue.all (fun e => !b.mask.testBit e)
  | _, _ => false

/-- The entry has been repaired (R275); the lease of a bundle whose use completes ends (R291). -/
def State.cobRepaired (s : State) (p e : Nat) (whole : Bool) : State :=
  let s := if (s.plat p).bundleUsed then s.modPlat p (fun t => { t with lease := none, recovery := none }) else s
  (s.modPlat p (fun t => { t with cobDone := t.cobDone ++ [e], cobWhole := t.cobWhole || whole })).cobNext p

/-- No source is good for the entry, or the target is gone: the platform follows NO_SOURCE (R301, R304). -/
def State.cobGivesUp (s : State) (p e code : Nat) : State :=
  let s := s.verifyRecord (16 * p + e) code none
  (s.modPlat p (fun t => { t with noSource := t.noSource ||| (1 <<< e) })).cobNext p

/-- The failure of a write-back: the flag stays, the lease ends, the fill runs from the old slot (R300). -/
def State.writebackFails (s : State) (p code : Nat) : State :=
  let s := (s.closeJournal p).modPlat p (fun t => { t with cob := none, writeback := none, lease := none })
  s.eventInc 0x08 (.platform p) code

/-- What a job is to rewrite as far as its failing last tells (R302), until the source's header decides: the pages of a page
repair, or the whole area and image. -/
def State.cobPlan (s : State) (p : Nat) (x : LastEntry) (j : CobJob) : CobJob :=
  let y := s.latch (16 * p + j.entry)
  if y.verdict && y.tableOk = some true && y.bad.length < 256 then
    { j with whole := false, area := [], pages := s.againPages p j.entry }
  else { j with whole := true, area := List.range x.areaPages, pages := List.range (s.lastSegment x).pageCount }

/-- The first source left that is there is tried: its header is read, then judged, then its table, but for a verified bundle
(R245, R299, R301). A job that reaches order 3 without a bundle waits RECOVERY_WAIT stitches. -/
def State.cobTry (s : State) (p : Nat) : Nat → State
  | 0 => s
  | fuel + 1 =>
    match (s.plat p).cob with
    | none => s
    | some j =>
      match s.lastEntry? (16 * p + j.entry), j.orders with
      | none, _ => s.cobGivesUp p j.entry Code.noRecoverySource
      | some _, [] => s.cobGivesUp p j.entry Code.noRecoverySource
      | some x, o :: rest =>
        if s.cobHas p j x o then
          let s := s.modCob p (fun j => { s.cobPlan p x j with
            source := o, header := [], signed := false, verified := false, credit := 0, waiting := none })
          (s.abortOp 2 p).journal p
        else if o = 2 && (s.platRec p).recoveryWait ≠ 0 then
          (s.modCob p (fun j => { s.cobPlan p x j with source := o, verified := false, waiting := some s.now })).journal p
        else (s.modCob p (fun j => { j with orders := rest })).cobTry p fuel

/-- The source in use fails: the next is tried, from the entry's beginning (R301, R304). -/
def State.cobSourceFails (s : State) (p : Nat) : State :=
  let s := s.modCob p (fun j => { j with orders := j.orders.drop 1, header := [], signed := false, verified := false
                                         reads := [], step := .read, areaBack := [], checking := false, data := [], retried := false
                                         busySince := none, programs := 0, left := 0 })
  s.cobTry p 4

/-- Where an interrupted job of the entry stood, if its journal record is still open (R305, R306). -/
def State.journalled (s : State) (p e : Nat) : Option (Nat × Bool × Nat × Nat) :=
  let b := s.bytes (cobJournalAddr p) 32
  if fieldAt b 0 1 = 0xA5 && fieldAt b 4 2 = 16 * p + e then
    some (fieldAt b 2 1, decide (fieldAt b 3 1 = 1), fieldAt b 12 4, fieldAt b 8 4)
  else none
/-- The source orders a job starts with: from the journalled source, or from order 1 when none is journalled or the staged
bundle was lost (R306). -/
def State.firstOrders (s : State) (p : Nat) (r : Option (Nat × Bool × Nat × Nat)) : List Nat :=
  match r with
  | some (src, _) => if 2 ≤ src && (s.plat p).recovery.isNone then [0, 1, 2] else [0, 1, 2].drop src
  | none => [0, 1, 2]

/-- COBBLER_JOB_START (R137, R275, R301, R305): the next failing entry of a RECOVERING platform. A target already ID_BAD or
retired leaves the entry without help (R304). -/
def execCobblerJobStart (p : Nat) (s : State) : Host.Outcome State Fault Refusal :=
  let t := s.plat p
  match t.cobQueue with
  | [] => .next s
  | e :: rest =>
    match s.lastEntry? (16 * p + e) with
    | none => .next s
    | some x =>
      if !s.fw || !s.drives || s.env.cleared || t.state ≠ .recovering || t.cob.isSome || !(s.platRec p).cobblerEn then
        .next s
      else
        let r := s.journalled p e
        let began := if r.isSome then fieldAt (s.bytes (cobJournalAddr p) 32) 16 8 else s.now
        let j : CobJob := { entry := e, started := began, seq := s.cobSeq, resume := r, orders := s.firstOrders p r }
        let s := { s with cobSeq := s.cobSeq + 1 }
        let s := s.modPlat p (fun t => { t with cobQueue := rest, cob := some j })
        let te := (s.cobTargetEye p j x).1
        if s.eyeBad te then .next (s.cobGivesUp p e Code.channelRetired)
        else
          let other := (s.cobSource p j 0)
          let es := [te, 8 * (x.pd / 2) + x.lastEyelet] ++
            (if s.slotted x then [8 * (x.pd / 2) + (sourceEyelet x (s.lastSegment x) other).1] else []) ++
            (match x.golden with | some g => [8 * (x.pd / 2) + g] | none => [])
          .next ((es.eraseDups.foldl (fun s e => s.pulse e) s).cobTry p 4)

/-- RECOVERY_WAIT_EXPIRY (R301): no verified bundle came in time; the staged source fails. -/
def execRecoveryWaitExpiry (p : Nat) (s : State) : Host.Outcome State Fault Refusal :=
  match (s.plat p).cob with
  | some j =>
    match j.waiting with
    | some t0 =>
      if s.fw && t0 + (s.platRec p).recoveryWait ≤ s.now then
        .next ((s.modCob p (fun j => { j with orders := j.orders.drop 1, waiting := none })).cobTry p 4)
      else .next s
    | none => .next s
  | none => .next s

/-- The cobbler has the stitch on the quarter of the entry's welt (R69, R704). -/
def State.cobTurnOf (s : State) (p : Nat) (x : LastEntry) : Bool :=
  let q := weltQuarter (x.pd / 2)
  (match s.row? with | some r => rowCob r q | none => false) && tget 0 s.cobTurn q = p + 1

/-- The failing last allows a page repair from a source header (R302). -/
def State.pageRepair (s : State) (l : Nat) (h : Bytes) : Bool :=
  let y := s.latch l
  hdrTable h = hdrTable y.header && y.verdict && y.tableOk = some true && y.bad.length < 256

/-- The first `a` pages of a last area, which a resumed job has written and checked before its interruption (log entry 73). -/
def areaStart (h tb : Bytes) (a : Nat) : Bytes := (h ++ ones (4096 - h.length) ++ tb).take (4096 * a)

/-- The source in use fails with a code, and with its record (R263, R301). -/
def State.cobSourceBad (s : State) (p : Nat) (j : CobJob) (code : Nat) : State :=
  (s.sourceRecord (16 * p + j.entry) code none (s.cobSource p j j.source)).cobSourceFails p

/-- The source has passed checks 1 to 9 and its table matches: the choice of page or whole-image repair (R301, R302), whose table is
sealed into the staging area. A whole-image repair needs a new epoch, and at the end of the counter there is none (R193). A page
repair resumed after a device reset, whose failing last's entries are gone, judges its page against the source's table, which
equals theirs (R302; log entry 73). -/
def State.cobSourceGood (s : State) (p : Nat) (j : CobJob) (x : LastEntry) (h tb : Bytes) : State :=
  let l := 16 * p + j.entry
  let w := x.pd / 2
  let staged := j.source = 2
  let resumed := match j.resume with
    | some (src, false, _, _) => decide (src = j.source ∧ (s.latch l).stage = LatchStage.idle)
    | _ => false
  if epochMax ≤ s.epochCounter && !s.pageRepair l h && !resumed then s.cobSpent p
  else
    let s := s.modCob p (fun j => { j with verified := true, header := h, table := tb, credit := 0, step := .read
                                           reads := [], areaBack := [] })
    let s := if s.pageRepair l h then
        s.modCob p (fun j => { j with whole := false, area := [], pages := s.againPages p j.entry })
      else
        let (v, s) := s.draw
        let key := v.setWidth 128
        (if staged then s else s.stageTable key p w 0 tb).modCob p (fun j => { j with
          whole := true, area := List.range (1 + ceilDiv (hdrPages h) 128), pages := List.range (hdrPages h), key := key
          left := if !staged && (s.tableFrame p w 0).isSome then ceilDiv tb.length 256 else 0 })
    let s := match j.resume with
      | some (src, true, a, pg) =>
        if src = j.source then s.modCob p (fun j => { j with
            whole := true, area := if pg = 0xFFFFFFFF then (List.range (1 + ceilDiv (hdrPages h) 128)).drop a else []
            areaBack := if pg = 0xFFFFFFFF then areaStart h tb a else []
            pages := if pg = 0xFFFFFFFF then List.range (hdrPages h) else (List.range (hdrPages h)).drop pg
            resume := none })
        else s
      | some (src, false, _, pg) =>
        if src ≠ j.source then s
        else if (s.latch l).stage = LatchStage.idle then s.modCob p (fun j => { j with
            whole := false, area := [], left := 0, pages := if pg < hdrPages h then [pg] else j.pages, resume := none })
        else s.modCob p (fun j => { j with
            pages := if !j.whole && j.pages.contains pg then j.pages.dropWhile (· ≠ pg) else j.pages
            resume := none })
      | none => s
    let s := (s.modCob p (fun j => { j with resume := none })).journal p
    if (match (s.plat p).cob with | some j => decide (j.area = [] ∧ j.pages = []) | none => false) then
      s.cobRepaired p j.entry false
    else s

/-- The source's header, or its table, is there to be read now: its eyelets are not gone, which fails the source (R262, R308), the
stitch is the job's, and the bytes are granted (R66, R69, R702). -/
def State.cobSourceRead (s : State) (p : Nat) (j : CobJob) (x : LastEntry) (page n : Nat) (act : State → State) : State :=
  let w := x.pd / 2
  let src := s.cobSource p j j.source
  let le := 8 * w + x.lastEyelet
  if s.eyeBad le || s.eyeBad (8 * w + (sourceEyelet x (s.lastSegment x) src).1) then s.cobSourceBad p j Code.channelRetired
  else if !s.cobTurnOf p x || j.credit < n || !s.eyeReady le then s
  else act { (s.ownRead le (x.areaPage src + page)).modCob p (fun j => { j with credit := j.credit - n }) with cobLatest := some p }
/-- Checks 8 and 9 of the source's header (R243, R244). -/
def State.cobVerdict (s : State) (p : Nat) (j : CobJob) : State :=
  if !s.opDone 2 p then s
  else match (s.endOp 2 p).signerChecks p j.header with
    | some c => (s.endOp 2 p).cobSourceBad p j c
    | none => (s.endOp 2 p).modCob p (fun j => { j with signed := true })
/-- The source's table has been read (R245, R247, R301). -/
def State.cobTable (s : State) (p : Nat) (j : CobJob) (x : LastEntry) (table : Bytes) (cmpFault : Bool) : State :=
  if cmpFault then
    ((s.sourceRecord (16 * p + j.entry) Code.verifyCompareFault none (s.cobSource p j j.source)).compareFault (x.pd / 2)).cobSourceFails p
  else if sm3 table ≠ hdrTable j.header then s.cobSourceBad p j Code.tableDigestMismatch
  else s.cobSourceGood p j x j.header table

/-- The header and the table of a rewritten area, as read back (R302). -/
def CobJob.backHeader (j : CobJob) : Bytes := j.areaBack.take 384
/-- That table. -/
def CobJob.backTable (j : CobJob) : Bytes := (j.areaBack.drop 4096).take (32 * hdrPages j.backHeader)

/-- WRITEBACK_START (R300, R308): a held platform's verified SLOT bundle is written to the inactive slot before the fill, after any
cobbler job, once the map names the active slot (R170). -/
def execWritebackStart (p : Nat) (s : State) : Host.Outcome State Fault Refusal :=
  let t := s.plat p
  match t.writeback with
  | none => .next s
  | some b =>
    match (s.maskEntries p b.mask) with
    | [] => .next s
    | x :: rest =>
      let open_ := (t.state = .held && !((s.platRec p).cobblerEn && t.waitingLost.length ≠ 0)) ||
        (t.state = .recovering && t.fillOwed)
      if !s.fw || !s.drives || s.env.cleared || !open_ || t.cob.isSome || t.act.isSome || t.fill.isSome ||
          t.map != flagActive (s.flag p) then .next s
      else
        let j : CobJob := { entry := x.entry, more := rest.map (·.entry), source := 2, verified := true, whole := true,
                            writeback := true, started := s.now, seq := s.cobSeq,
                            area := List.range x.areaPages, pages := List.range (s.lastSegment x).pageCount }
        let s := { s with cobSeq := s.cobSeq + 1 }
        let s := s.modPlat p (fun t => { t with cob := some j })
        let es := (s.maskEntries p b.mask).flatMap (fun x =>
          [(s.cobTargetEye p { j with entry := x.entry } x).1, 8 * (x.pd / 2) + x.lastEyelet])
        .next ((es.eraseDups.foldl (fun s e => s.pulse e) s).journal p)

/-- The digest an image page is judged against: the failing last's own entry, from the digest region, in a page repair; the
source's table in the staging area in a whole-image repair; a staged last's own table (R302, R304). -/
def State.cobWant (s : State) (p : Nat) (x : LastEntry) (j : CobJob) (k : Nat) : Digest :=
  if j.writeback then
    tableEntry (match (s.plat p).writeback with | some b => s.bundleTable p b.mask x | none => []) k
  else if j.source = 2 then tableEntry j.table k
  else if j.whole then (s.stagedEntry j.key p (x.pd / 2) 0 k).getD (tableEntry j.table k)
  else (s.pageDigest ((s.lastSegment x).solePage.getD 0 + k)).getD (tableEntry j.table k)
/-- The page is one the judgement covers: a write-back also copies the segment's pages beyond its header's PAGE_COUNT. -/
def State.cobJudged (s : State) (p : Nat) (x : LastEntry) (j : CobJob) (k : Nat) : Bool :=
  !j.writeback || (match (s.plat p).writeback with | some b => decide (k < hdrPages (s.bundleHeader p b.mask x)) | none => false)
/-- The source's page is not good: the next source is tried; a write-back fails (R300, R304). -/
def State.cobPageBad (s : State) (p : Nat) (j : CobJob) (code : Nat) (page : Option Nat) : State :=
  let s := s.sourceRecord (16 * p + j.entry) code page (s.cobSource p j j.source)
  if j.writeback then s.writebackFails p Code.slotVerifyFailed else s.cobSourceFails p

/-- The page of the source in hand is good: the page's erase is next (R304). -/
def State.cobPageRead (s : State) (p : Nat) (data : Bytes) : State :=
  (s.modCob p (fun j => { j with data := data, want := sm3 data, step := .erase, reads := [], programs := 0
                                 retried := false })).journal p

/-- COBBLER_READ (R302, R304 step 0): the source page read and judged; area pages have no table entry; staged pages come from
the staging store, and take no command on a flash port. -/
def execCobblerRead (p : Nat) (data : Bytes) (cmpFault : Bool) (s : State) : Host.Outcome State Fault Refusal :=
  match (s.plat p).cob with
  | none => .next s
  | some j =>
    match s.lastEntry? (16 * p + j.entry) with
    | none => .next s
    | some x =>
      let w := x.pd / 2
      let mask := if j.writeback then (match (s.plat p).writeback with | some b => b.mask | none => 0)
        else (match (s.plat p).recovery with | some b => b.mask | none => 0)
      let base := s.bundleBase p mask x.entry
      let staged := j.source = 2
      let d := if !staged then data
        else match j.area, j.pages with
          | k :: _, _ => s.bundlePage p mask (base + k)
          | [], k :: _ => s.bundlePage p mask (base + x.areaPages + k)
          | [], [] => []
      let e := 8 * w + (sourceEyelet x (s.lastSegment x) (s.cobSource p j j.source)).1
      let from_ := if j.area ≠ [] then 8 * w + x.lastEyelet else e
      if !s.fw || !j.verified || j.checking || j.step ≠ .read || d.length ≠ 4096 then .next s
      else if !staged && (!s.cobTurnOf p x || j.left ≠ 0 && j.area = []) then .next s
      else if !staged && s.eyeBad from_ then .next (s.cobSourceFails p)
      else if !staged && (j.credit < 4096 || !s.eyeReady from_) then .next s
      else
        let fp := match j.area, j.pages with
          | k :: _, _ => x.areaPage (s.cobSource p j j.source) + k
          | [], k :: _ => (sourceEyelet x (s.lastSegment x) (s.cobSource p j j.source)).2 + k
          | [], [] => 0
        let s := if staged then s else { s.ownRead from_ fp with cobLatest := some p }
        let s := s.modCob p (fun j => { j with credit := if staged then j.credit else j.credit - 4096 })
        match j.area, j.pages with
        | _ :: _, _ => .next (s.cobPageRead p d)
        | [], [] => .next s
        | [], k :: _ =>
          if !s.cobJudged p x j k then .next (s.cobPageRead p d)
          else if !staged && cmpFault then
            .next ((s.sourceRecord (16 * p + j.entry) Code.verifyCompareFault (some k) (s.cobSource p j j.source)).compareFault w
              |>.cobSourceFails p)
          else
            let reads := j.reads ++ [sm3 d]
            match judgeReads (s.cobWant p x j k) reads with
            | .again => .next (s.modCob p (fun j => { j with reads := reads }))
            | .matched n =>
              let s := if staged then s
                else (if n = 1 then s.faultOk 0 e else s.countFault 0 e Code.pageReadUnstable).faultOk 1 w
              .next (s.cobPageRead p d)
            | .mismatch => .next (s.cobPageBad p j Code.pageDigestMismatch (some k))
            | .unstable =>
              .next ((if staged then s else s.countFault 0 e Code.pageReadUnstable).cobPageBad p j Code.pageReadUnstable (some k))

/-- The eyelet and flash page the job rewrites now. -/
def State.cobPlace (s : State) (p : Nat) (j : CobJob) (x : LastEntry) : Nat × Nat :=
  match j.area with
  | k :: _ => (8 * (x.pd / 2) + x.lastEyelet, s.cobTargetArea p j x + k)
  | [] => ((s.cobTargetEye p j x).1, (s.cobTargetEye p j x).2 + j.pages.headD 0)

/-- The target is ID_BAD or retired when the cobbler comes to write it: no source can help (R304, R308). -/
def State.cobTargetGone (s : State) (p : Nat) (j : CobJob) : State :=
  if j.writeback then s.writebackFails p Code.channelRetired else s.cobGivesUp p j.entry Code.channelRetired

/-- A poll found the cobbler's own erase or program still busy: past four times its T_ field the eyelet counts a fault
(R619 kind 0). -/
def State.cobStillBusy (s : State) (e : Nat) (kind : FwdKind) (since : Nat) : State :=
  if since + 4 * tField (s.eyeRec e) kind = s.now then s.countFault 0 e Code.eyeletStuck else s

/-- The cobbler may write the eyelet: it is not the golden eyelet of the entry (R303). -/
def LastEntry.mayWrite (x : LastEntry) (e : Nat) : Bool := x.golden.map (8 * (x.pd / 2) + ·) ≠ some e

/-- COBBLER_ERASE (R140, R303, R304 step 1): write enable and a 4 KiB erase of the target page. A target that is the golden eyelet
is never written: no source can help (log entry 73). -/
def execCobblerErase (p : Nat) (s : State) : Host.Outcome State Fault Refusal :=
  match (s.plat p).cob with
  | none => .next s
  | some j =>
    match s.lastEntry? (16 * p + j.entry) with
    | none => .next s
    | some x =>
      let (e, fp) := s.cobPlace p j x
      if !s.fw || !s.drives || !(s.plat p).hold || j.step ≠ .erase || !s.cobTurnOf p x || s.eyeBusy e then .next s
      else if s.eyeBad e || !x.mayWrite e then .next (s.cobTargetGone p j)
      else if !s.eyeReady e then .next s
      else
        let s := (s.toFlash e 0x06 none []).toFlash e 0x21 (some (fp * 4096)) []
        let s := { s with cobLatest := some p }
        let s := s.modCob p (fun j => { j with step := .program, programs := 0, busySince := some s.now })
        .next (s.journal p)

/-- COBBLER_PROGRAM (R140, R304 step 2): once a poll shows the eyelet ready, the next of the sixteen 256-byte programs. -/
def execCobblerProgram (p : Nat) (ready : Bool) (s : State) : Host.Outcome State Fault Refusal :=
  match (s.plat p).cob with
  | none => .next s
  | some j =>
    match s.lastEntry? (16 * p + j.entry) with
    | none => .next s
    | some x =>
      let (e, fp) := s.cobPlace p j x
      if !s.fw || !s.drives || !(s.plat p).hold || j.step ≠ .program || !s.cobTurnOf p x || s.eyeBusy e then .next s
      else if s.eyeBad e then .next (s.cobTargetGone p j)
      else
        let s := { s.toFlash e (s.eyeRec e).statusOp none [] with cobLatest := some p }
        if !ready then
          .next (s.cobStillBusy e (if j.programs = 0 then .erase4K else .program) (j.busySince.getD 0))
        else
          let k := j.programs
          let s := (s.toFlash e 0x06 none []).toFlash e 0x12 (some (fp * 4096 + 256 * k)) (bytesAt j.data (256 * k) 256)
          let s := s.modCob p (fun j => { j with programs := k + 1, busySince := some s.now
                                                 step := if k + 1 = 16 then .check else .program })
          .next (if k + 1 = 16 then s.journal p else s)

/-- The job has written its last page (R275, R300, R302). -/
def State.cobFinished (s : State) (p : Nat) (j : CobJob) : State :=
  if !j.writeback then s.cobRepaired p j.entry j.whole
  else match j.more with
    | e :: rest =>
      match s.lastEntry? (16 * p + e) with
      | some x => (s.modCob p (fun j => { j with entry := e, more := rest, step := .read, area := List.range x.areaPages
                                                 pages := List.range (s.lastSegment x).pageCount, areaBack := []
                                                 reads := [] })).journal p
      | none => s.writebackFails p Code.slotVerifyFailed
    | [] =>
      let s := (s.closeJournal p).modPlat p (fun t => { t with cob := none })
      let w := s.flag p
      if flagActive w != (s.plat p).map || flagRaise w then s.writebackFails p Code.flipPending
      else s.beginActivation p 0 0 0 true

/-- The page has been written and checked: the next page, the check of a rewritten area, which a write-back does not have, or the end
(R302, R304). -/
def State.cobPageDone (s : State) (p : Nat) (j : CobJob) (back : Bytes) : State :=
  match j.area with
  | _ :: [] =>
    let s := s.modCob p (fun j => { j with
      area := [], areaBack := if j.writeback then [] else j.areaBack ++ back, checking := !j.writeback, step := .read })
    if !j.writeback then s else if j.pages = [] then s.cobFinished p j else s.journal p
  | _ :: rest =>
    (s.modCob p (fun j => { j with area := rest, areaBack := j.areaBack ++ back, step := .read })).journal p
  | [] =>
    let s := s.modCob p (fun j => { j with pages := j.pages.drop 1, step := .read })
    if j.pages.drop 1 = [] then s.cobFinished p { j with pages := [] } else s.journal p

/-- The rewritten area fails a check of R302: the job ends from its source, with the record of what was read (R263). -/
def State.cobBackBad (s : State) (p : Nat) (j : CobJob) (code : Nat) : State :=
  (s.sourceRecord (16 * p + j.entry) code none (s.cobTarget p j)).cobSourceFails p
/-- The point engine has run for the header read back: checks 8 and 9, and the table comparison of R249 (R247, R302). -/
def State.cobBackVerdict (s : State) (p : Nat) (j : CobJob) (x : LastEntry) (cmpFault : Bool) : State :=
  if !s.opDone 2 p then s
  else
    let s := s.endOp 2 p
    match s.signerChecks p j.backHeader with
    | some c => s.cobBackBad p j c
    | none =>
      if cmpFault then
        ((s.sourceRecord (16 * p + j.entry) Code.verifyCompareFault none (s.cobTarget p j)).compareFault (x.pd / 2)).cobSourceFails p
      else if sm3 j.backTable ≠ hdrTable j.backHeader then s.cobBackBad p j Code.tableDigestMismatch
      else
        let s := s.modCob p (fun j => { j with checking := false, areaBack := [] })
        if j.pages = [] then s.cobFinished p j else s.journal p

/-- COBBLER_SOURCE_VERIFIED (R245, R301, R302): the next part of a source's verification that is ready: its header read, checks 8 and
9, its table; a verified bundle's come from the staging store at once. After a rewritten area, the verdict on what was read
back. -/
def execCobblerSourceVerified (p : Nat) (header table : Bytes) (cmpFault : Bool) (s : State) :
    Host.Outcome State Fault Refusal :=
  match (s.plat p).cob with
  | none => .next s
  | some j =>
    match s.lastEntry? (16 * p + j.entry) with
    | none => .next s
    | some x =>
      let mask := match (s.plat p).recovery with | some b => b.mask | none => 0
      if !s.fw || j.waiting.isSome then .next s
      else if j.checking then .next (s.cobBackVerdict p j x cmpFault)
      else if j.writeback || j.verified then .next s
      else if j.source = 2 then
        .next (if (s.bundleHeader p mask x).length ≠ 384 then s
          else s.cobSourceGood p j x (s.bundleHeader p mask x) (s.bundleTable p mask x))
      else if j.header = [] then
        .next (if header.length ≠ 384 then s
          else s.cobSourceRead p j x 0 384 (fun s => s.modCob p (fun j => { j with header := header })))
      else if !j.signed then .next (s.cobVerdict p j)
      else .next (if table.length ≠ 32 * hdrPages j.header then s
        else s.cobSourceRead p j x 1 table.length (fun s => s.cobTable p j x table cmpFault))

/-- COBBLER_CHECK (R304 step 3): once ready, the target page is read back and its digest compared; a first failure repeats the
erase, a second is a permanent fault of the target. -/
def execCobblerCheck (p : Nat) (ready : Bool) (data : Bytes) (cmpFault : Bool) (s : State) :
    Host.Outcome State Fault Refusal :=
  match (s.plat p).cob with
  | none => .next s
  | some j =>
    match s.lastEntry? (16 * p + j.entry) with
    | none => .next s
    | some x =>
      let (e, fp) := s.cobPlace p j x
      if !s.fw || !s.drives || j.step ≠ .check || !s.cobTurnOf p x || s.eyeBusy e then .next s
      else if s.eyeBad e then .next (s.cobTargetGone p j)
      else
        let s := { s.toFlash e (s.eyeRec e).statusOp none [] with cobLatest := some p }
        if !ready then .next (s.cobStillBusy e .program (j.busySince.getD 0))
        else if j.credit < 4096 || data.length ≠ 4096 then .next (s.modCob p (fun j => { j with busySince := none }))
        else
          let s := (s.ownRead e fp).modCob p (fun j => { j with credit := j.credit - 4096, busySince := none })
          if !cmpFault && sm3 data = j.want then .next (s.cobPageDone p j data)
          else
            let s := if cmpFault then s.compareFault (x.pd / 2) else s
            if !j.retried then
              .next ((s.modCob p (fun j => { j with retried := true, step := .erase, programs := 0 })).journal p)
            else
              let s := s.modFault 0 e (fun f => { f with permanent := true })
              let s := s.eventInc 0x03 (.eyelet e) Code.faultPermanent (natBE 1 0 ++ natBE 1 2)
              .next ((s.post 0x08 2 (natBE 1 1 ++ natBE 4 e)).cobTargetGone p j)

/-- The refill that the welt's awl hashes, while its read is under way (R214). -/
def State.refillOf (s : State) (w : Nat) : Option Refill :=
  match (s.chan (weltChannel w)).running with
  | some f => if f.welt = w && !f.matched then some f else none
  | none => none

/-- An operation put before those that `later_` holds of. -/
def insertOp (later_ : PeOp → Bool) (o : PeOp) : List PeOp → List PeOp
  | [] => [o]
  | x :: xs => if later_ x then o :: x :: xs else x :: insertOp later_ o xs
/-- A point-engine operation queued for the job: the jobs share the cobbler's steps in the order in which they were queued (R704). -/
def State.cobStartOp (s : State) (p : Nat) (j : CobJob) : State :=
  let queued := fun o : PeOp => decide (o.owner = 2) && (match (s.plat o.ident).cob with
    | some k => decide (j.seq < k.seq) | none => false)
  let o : PeOp := { owner := 2, ident := p, steps := verifySteps, total := verifySteps }
  { s with point := { s.point with ops := insertOp queued o s.point.ops } }
/-- The checks 1 to 7 of a header the job has read, in the stitch after it arrives, and its point-engine operation (R243, R244): the
source's, or that of the area as read back (R302). -/
def State.cobVerify (s : State) (p : Nat) : State :=
  match (s.plat p).cob, (s.plat p).cob.bind (fun j => s.lastEntry? (16 * p + j.entry)) with
  | some j, some x =>
    if !s.fw || (s.opOf 2 p).isSome then s
    else if j.checking then
      match s.headerChecks x (sourceEyelet x (s.lastSegment x) (s.cobTarget p j)) j.backHeader with
      | some c => s.cobBackBad p j c
      | none => s.cobStartOp p j
    else if j.header = [] || j.signed || j.verified then s
    else match s.headerChecks x (sourceEyelet x (s.lastSegment x) (s.cobSource p j j.source)) j.header with
      | some c => s.cobSourceBad p j c
      | none => s.cobStartOp p j
  | _, _ => s

/-- The job's next command is a read that can be issued (R59, R302, R702): of its source's header, its table or a page, or of the page
to check; its eyelet is ready, and of an image page whose judgement needs the source's table that table is written. -/
def State.cobReads (s : State) (p : Nat) (j : CobJob) (x : LastEntry) : Bool :=
  let w := x.pd / 2
  let src := 8 * w + (sourceEyelet x (s.lastSegment x) (s.cobSource p j j.source)).1
  if j.waiting.isSome || j.checking || j.busySince.isSome then false
  else if !j.verified then j.source ≠ 2 && (j.header = [] || j.signed) && s.eyeReady (8 * w + x.lastEyelet)
  else match j.step with
    | .read => j.source ≠ 2 && (if j.area ≠ [] then s.eyeReady (8 * w + x.lastEyelet) else j.left = 0 && s.eyeReady src)
    | .check => true
    | _ => false
/-- The bytes that read still wants of the welt's awl (R301, R304). -/
def State.cobNeed (s : State) (p : Nat) (j : CobJob) (x : LastEntry) : Nat :=
  if !s.cobReads p j x then 0
  else (if j.verified then 4096 else if j.header = [] then 384 else 32 * hdrPages j.header) - j.credit
/-- The job has a flash-side command ready: it waits for no staged source, no verification and no erase or program of its eyelet
(R704). -/
def State.cobReady (s : State) (p : Nat) (j : CobJob) (x : LastEntry) : Bool :=
  s.cobReads p j x || (j.verified && !j.checking && j.busySince.isNone &&
    (match j.step with | .erase => s.eyeReady (s.cobPlace p j x).1 | .program => true | _ => false))

/-- Which job has each quarter's cobbler stitch (R69, R704): the next running job after the one served last, in platform order,
that has a command ready. A stitch that no such job takes goes to a poll for one that waits for its eyelet (log entry 73). A job
whose read is granted bytes has issued the cobbler's latest command (R313). -/
def State.cobArbitrate (s : State) : State :=
  let s := s.platNums.foldl State.cobVerify s
  let s : State := { s with welts := tmapAll {} s.welts (fun _ w => { w with cobTook := 0 }) }
  match s.row? with
  | none => { s with cobTurn := [] }
  | some r =>
    (List.range 4).foldl (fun s q =>
      let here := fun (ok : Nat → CobJob → LastEntry → Bool) => s.platNums.filter (fun p =>
        match (s.plat p).cob, (s.plat p).cob.bind (fun j => s.lastEntry? (16 * p + j.entry)) with
        | some j, some x => weltQuarter (x.pd / 2) = q && ok p j x
        | _, _ => false)
      let ready := here s.cobReady
      let jobs := if ready ≠ [] then ready else here (fun _ j _ => j.busySince.isSome)
      let last := tget 0 s.cobLast q
      let pick := match jobs.find? (fun p => last ≤ p) with | some p => some p | none => jobs.head?
      match (if rowCob r q then pick else none) with
      | some p =>
        let s : State := { s with cobTurn := tset 0 s.cobTurn q (p + 1), cobLast := tset 0 s.cobLast q (p + 1) }
        match (s.plat p).cob, (s.plat p).cob.bind (fun j => s.lastEntry? (16 * p + j.entry)) with
        | some j, some x =>
          let refill := match s.refillOf (x.pd / 2) with | some f => 4096 - f.credit | none => 0
          let grant := min (s.cobNeed p j x) (40 * rowAwl r (x.pd / 2) - refill)
          if grant = 0 then s
          else { (s.modCob p (fun j => { j with credit := j.credit + grant })).modWelt (x.pd / 2) (fun w => { w with cobTook := grant })
            with cobLatest := some p }
        | _, _ => s
      | none => { s with cobTurn := tset 0 s.cobTurn q 0 }) s

end Sys2Proof.Machine
end

