-- ==== Sys2Proof/Machine/Fuse.lean ====
section
/-!
DEFINITION. Fuses as read (chapter 11): shadows, the value each field takes, locks, validity, life-cycle, features and
patches.
-/
namespace Sys2Proof.Machine
open Sys2Proof

/-- The shadow of a word as the latest device start read it (R411). -/
def State.shadow (s : State) (w : Nat) : OtpWord := tget {} s.fuse.shadow w
/-- The LOOSE value of a word: the OR of the two readings (R412), or its override (R422). -/
def State.loose (s : State) (w : Nat) : Nat :=
  match tfind s.fuse.ovr w with
  | some v => v
  | none => (s.shadow w).tight ||| (s.shadow w).loose
/-- The TIGHT value of a word: the AND of the two readings (R412), or its override (R422). -/
def State.tight (s : State) (w : Nat) : Nat :=
  match tfind s.fuse.ovr w with
  | some v => v
  | none => (s.shadow w).tight &&& (s.shadow w).loose
/-- The word is marginal: its readings differ (R412). -/
def State.marginal (s : State) (w : Nat) : Bool :=
  (tfind s.fuse.ovr w).isNone && (s.shadow w).tight ≠ (s.shadow w).loose
/-- Words whose two readings differed at the latest device start. -/
def State.marginalAtStart (s : State) : List Nat := (s.fuse.shadow.filter (fun e => e.2.tight ≠ e.2.loose)).map Prod.fst
/-- Words reported marginal since the latest start, those that programming left so among them (R413, R429, R435). -/
def State.marginalWords (s : State) : List Nat :=
  s.marginalAtStart ++ s.fuse.reported.filter (fun w => !s.marginalAtStart.contains w)

/-- A word written into the fuses. -/
def State.blow (s : State) (w : Nat) (o : OtpWord) : State :=
  { s with fuse := { s.fuse with otp := tset {} s.fuse.otp w o } }

/-- A word as read afresh at both margins: TIGHT is the AND, LOOSE the OR (R410, R412). -/
def State.freshLoose (s : State) (w : Nat) : Nat := (tget {} s.fuse.otp w).loose ||| (tget {} s.fuse.otp w).tight
/-- TIGHT as read afresh. -/
def State.freshTight (s : State) (w : Nat) : Nat := (tget {} s.fuse.otp w).loose &&& (tget {} s.fuse.otp w).tight
/-- A word after pulses on both fuses of some of its bits, which then read `tight` and `loose`: no other bit changes and no fuse is
mended (R429; both fuses of a bit take the reading, log entry 90). -/
def State.blowBits (s : State) (w bits tight loose : Nat) : State :=
  let o := tget {} s.fuse.otp w
  let t := tight &&& bits
  let l := loose &&& bits
  s.blow w { firmA := o.firmA ||| t, firmB := o.firmB ||| t, weakA := o.weakA ||| l, weakB := o.weakB ||| l }
/-- The word an accepted request blows. -/
def FuseReq.target (r : FuseReq) : Nat := if r.advance then r.word - 1 else r.word
/-- Bits of a word whose pulses power loss or a reset has cut short: each may be unblown, marginal or blown (R432; log entry 2). -/
def State.cutBits (s : State) (w bits : Nat) : State :=
  let (a, s) := s.draw
  let (b, s) := s.draw
  s.blowBits w bits (a &&& b).toNat a.toNat
/-- A fuse command that power loss or a device reset meets (R430 to R432): a lock reaches its LOCK bits only once CHECK stands, and
LC_SCUTTLED goes before lock word 0. -/
def State.fuseCut (s : State) : State :=
  match s.fuse.job with
  | none => s
  | some j =>
    let w := j.req.target
    let first := if j.req.lock then j.bits &&& 0xFFFFFFF0 else j.bits
    let s := s.cutBits w first
    let s := if j.req.lock && s.freshLoose w &&& first = first then s.cutBits w (j.bits &&& 15) else s
    if w = 3 && s.freshLoose 3 ≠ 0 then s.cutBits 504 0xFFFFFFFF else s

/-! ### Life-cycle and locks -/

/-- The life-cycle state: 0 BLANK, 1 PROVISION, 2 PRODUCTION, 3 RETURN, 4 SCUTTLED (R415). -/
def State.lifecycle (s : State) : Nat :=
  if s.loose 3 ≠ 0 then 4 else if s.loose 2 ≠ 0 then 3 else if s.loose 1 ≠ 0 then 2 else if s.loose 0 ≠ 0 then 1 else 0

/-- The anti-rollback count (R414). -/
def State.arbCount (s : State) : Nat :=
  (List.range 8).foldl (fun a i => let v := s.loose (136 + i); if v = 0 then a else 32 * i + Nat.log2 v + 1) 0

/-- SPLIT is marginal in its own bits, above 352, or not a multiple of 4 (R412). -/
def State.splitBad (s : State) : Bool :=
  let o := s.shadow 148
  bitsOf o.tight 8 0 ≠ bitsOf o.loose 8 0 || 352 < bitsOf (s.loose 148) 8 0 || bitsOf (s.loose 148) 8 0 % 4 ≠ 0
/-- SPLIT (R409). -/
def State.split (s : State) : Nat := bitsOf (s.loose 148) 8 0

/-- The words a lock word covers (R408). -/
def State.lockWords (s : State) : Nat → List Nat
  | 0 => List.range 8
  | 1 => (List.range 64).map (· + 8)
  | 2 => (List.range 32).map (· + 72)
  | 3 => (List.range 32).map (· + 104)
  | 4 => (List.range 8).map (· + 136)
  | 5 => (List.range 8).map (· + 144)
  | 6 => (List.range s.split).map (· + 152)
  | 7 => (List.range (352 - s.split)).map (· + (152 + s.split))
  | _ => []
/-- The lock of a word below 504: its bank or area (R408). -/
def State.lockOf (s : State) (w : Nat) : Nat :=
  if w < 8 then 0 else if w < 72 then 1 else if w < 104 then 2 else if w < 136 then 3 else if w < 144 then 4
  else if w < 152 then 5 else if w < 152 + s.split then 6 else 7
/-- The bank or area is locked (R416). -/
def State.fuseLocked (s : State) (k : Nat) : Bool := bitsOf (s.loose (504 + k)) 3 0 ≠ 0
/-- CHECK over the LOOSE values of the given words: the first 28 bits of SM3 (R417). -/
def check28 (ws : List Nat) : Nat := (sm3 (ws.flatMap (fun v => natBE 4 v))).toNat / 2 ^ 228
/-- The LOOSE value of a word as the latest device start read it, which no override changes (R412, R423). -/
def State.burnt (s : State) (w : Nat) : Nat := (s.shadow w).tight ||| (s.shadow w).loose
/-- The bank or area of lock `k` is invalid (R417); an override leaves that as it is (R423). -/
def State.fuseInvalid (s : State) (k : Nat) : Bool :=
  [1, 2, 3, 5, 6, 7].contains k && s.fuseLocked k &&
    check28 ((s.lockWords k).map s.burnt) ≠ bitsOf (s.loose (504 + k)) 31 4
/-- Bank 6 is wholly off (R412, R418). -/
def State.bank6Off (s : State) : Bool := s.splitBad || s.fuseInvalid 5
/-- In PRODUCTION or RETURN: where an invalid bank 2 or 3 closes its keys (R418). -/
def State.fielded (s : State) : Bool := s.lifecycle = 2 || s.lifecycle = 3

/-! ### Fields (R409, R412, R418) -/

/-- K: the window fraction. -/
def State.fuseK (s : State) : Nat := if s.fuseInvalid 5 then 15 else bitsOf (s.loose 144) 3 0
/-- TRIAL_CUT. -/
def State.trialCut (s : State) : Nat := if s.fuseInvalid 5 then 59 else bitsOf (s.loose 145) 5 0
/-- PERIOD_CUT. -/
def State.periodCut (s : State) : Nat := if s.fuseInvalid 5 then 59 else min 59 (bitsOf (s.loose 146) 5 0)
/-- MIN_TAMPER. -/
def State.minTamper (s : State) : Level :=
  if s.fuseInvalid 5 then .clear
  else match bitsOf (s.loose 147) 1 0 with | 0 => .log | 3 => .scuttle | _ => .clear
/-- The longest heel period (R409). -/
def State.periodMax (s : State) : Nat := 60000000 - 1000000 * s.periodCut
/-- The longest trial (R409), in stitches. -/
def State.trialMax (s : State) : Nat := max 2000000 (120000000 - 2000000 * s.trialCut)
/-- DEVICE_ID. -/
def State.deviceId (s : State) : Bytes := [10, 11, 12, 13].flatMap (fun w => natBE 4 (s.loose w))
/-- The bytes of a run of words, LOOSE values. -/
def State.looseBytes (s : State) (w n : Nat) : Bytes := (List.range n).flatMap (fun i => natBE 4 (s.loose (w + i)))
/-- A key digest of eight words: absent when any is marginal or all are zero (R409, R412). -/
def State.fuseDigest (s : State) (w : Nat) : Option Digest :=
  if (List.range 8).any (fun i => s.marginal (w + i)) || (List.range 8).all (fun i => s.loose (w + i) = 0) then none
  else some (digestOfBytes (s.looseBytes w 8))
/-- FW_KEY k. -/
def State.fwKey (s : State) (k : Nat) : Option Digest := s.fuseDigest (72 + 8 * k)
/-- FW_REVOKE k. -/
def State.fwRevoked (s : State) (k : Nat) : Bool := bitsOf (s.loose 4) (8 * k + 7) (8 * k) ≠ 0
/-- OWNER_KEY k. -/
def State.ownerKey (s : State) (k : Nat) : Option Digest := s.fuseDigest (104 + 8 * k)
/-- The firmware key that a public key is, usable now. -/
def State.fwKeyOf (s : State) (key : Bytes) : Option Nat :=
  if s.fielded && s.fuseInvalid 2 then none
  else [0, 1, 2, 3].find? (fun k => s.fwKey k = some (sm3 key) && !s.fwRevoked k)
/-- The owner key that a public key is. -/
def State.ownerKeyOf (s : State) (key : Bytes) : Option Nat := [0, 1, 2, 3].find? (fun k => s.ownerKey k = some (sm3 key))
/-- The owner key that a pattern or SEALED blob may be signed with (R418). -/
def State.ownerKeyUsable (s : State) (key : Bytes) : Option Nat :=
  if s.fielded && s.fuseInvalid 3 then none else s.ownerKeyOf key

/-- An override of feature word 0 is in force (R419). -/
def State.featureShadowed (s : State) : Bool := (tfind s.fuse.ovr 152).isSome
/-- The enable bit of feature word 0 as it governs (R412, R418, R419). -/
def State.featureBit (s : State) (b : Nat) : Bool :=
  !s.bank6Off && !s.fuseInvalid 6 && 0 < s.split && (s.tight 152).testBit b
/-- The feature is available (R419): the bit governs in PRODUCTION, and in PROVISION while feature word 0 is overridden. -/
def State.feature (s : State) (b : Nat) : Bool :=
  if s.lifecycle = 2 || s.lifecycle = 1 && s.featureShadowed then s.featureBit b else true

/-! ### ROM patches (R420, R421) -/

/-- The ROM words that an applied entry replaces, with their values. -/
def State.patchAt (s : State) (off : Nat) : List (Nat × Nat) :=
  let w := 152 + off
  let w0 := s.loose w
  let bare := w0 % 2 ^ 30
  let echeck := (sm3 (natBE 4 bare ++ natBE 4 (s.loose (w + 1)) ++ natBE 4 (s.loose (w + 2)))).toNat / 2 ^ 224
  if s.bank6Off || s.fuseInvalid 7 || [0, 1, 2, 3].any (fun i => s.marginal (w + i)) then []
  else if w0.testBit 30 && !w0.testBit 31 && echeck = s.loose (w + 3) && bitsOf w0 15 0 + 1 < 65536 then
    [(bitsOf w0 15 0, s.loose (w + 1)), (bitsOf w0 15 0 + 1, s.loose (w + 2))]
  else []
/-- Every replaced ROM word, the entry at the higher offset last. -/
def State.patches (s : State) : List (Nat × Nat) :=
  ((List.range 88).filter (fun i => s.split ≤ 4 * i)).flatMap (fun i => s.patchAt (4 * i))
/-- A fetch of a ROM word (R420, R421): where two entries replace it, the one at the higher offset wins. -/
def State.romFetch (s : State) (i : Nat) : Word :=
  match (s.patches.reverse.find? (fun e => e.1 = i)) with
  | some e => BitVec.ofNat 32 e.2
  | none => Config.romWord i

/-- Which of its LOOSE and TIGHT values is taken of a word (R412): the wrapped roots read 0, and the words of bank 6 read 0 while
it is wholly off. -/
def State.takes (s : State) (w loose tight : Nat) : Nat :=
  if 14 ≤ w && w ≤ 37 then 0
  else if 152 ≤ w && w < 504 then
    if s.bank6Off then 0 else if w < 152 + s.split then tight else loose
  else loose
/-- The value taken of a word out of the shadows (R412, R422, R434). -/
def State.fuseTaken (s : State) (w : Nat) : Nat := s.takes w (s.loose w) (s.tight w)
/-- The value taken under R412 of a word read afresh (R432). -/
def State.freshTaken (s : State) (w : Nat) : Nat := s.takes w (s.freshLoose w) (s.freshTight w)

/-! ### The tamper level in force (R612, R613) -/

/-- The level in force. -/
def State.level (s : State) : Level :=
  match s.heel.patLevel with
  | some l => if s.minTamper.code < l.code then l else s.minTamper
  | none => s.minTamper
/-- The level as carried out: SCUTTLE outside PRODUCTION is CLEAR. -/
def State.levelDone (s : State) : Level := if s.level = .scuttle && s.lifecycle ≠ 2 then .clear else s.level

/-! ### The fuse load of a device start (R411, R413, R417) -/

/-- The shadows built and overrides dropped; a record for each marginal word and for each invalid bank or area. -/
def State.fuseLoad (s : State) : State :=
  let s := { s with fuse := { s.fuse with shadow := s.fuse.otp, ovr := [], overNext := [] } }
  let s := s.marginalWords.foldl (fun s w =>
    s.event 0x0C (.fuse w) Code.fuseMarginal (natBE 4 (s.shadow w).tight ++ natBE 4 (s.shadow w).loose)) s
  ([1, 2, 3, 5, 6, 7].filter s.fuseInvalid).foldl (fun s k => s.event 0x0C (.fuse (504 + k)) Code.fuseBankIncomplete) s

end Sys2Proof.Machine
end

