-- ==== Sys2Proof/Machine/Keys.lean ====
section
/-!
DEFINITION. The key store (chapter 09): derivation of slots 0 to 4, records and their tags, orphaning, the checks before a
use, the half-select procedure, roots.
-/
namespace Sys2Proof.Machine
open Sys2Proof

/-- HMAC-SM3 of RFC 2104 with a block of 64 bytes (R323). -/
def hmacSm3 (key msg : Bytes) : Digest :=
  let k := fit 64 0 key
  sm3 (k.map (· ^^^ 0x5C) ++ digestBytes (sm3 (k.map (· ^^^ 0x36) ++ msg)))

/-- The labels of R348. -/
def labelId : Bytes := [0x54, 0x4B, 0x56, 0x2D, 0x49, 0x44]
/-- TKV-VAMP. -/
def labelVamp : Bytes := [0x54, 0x4B, 0x56, 0x2D, 0x56, 0x41, 0x4D, 0x50]
/-- TKV-STORE. -/
def labelStore : Bytes := [0x54, 0x4B, 0x56, 0x2D, 0x53, 0x54, 0x4F, 0x52, 0x45]
/-- TKV-SOLE. -/
def labelSole : Bytes := [0x54, 0x4B, 0x56, 0x2D, 0x53, 0x4F, 0x4C, 0x45]
/-- TKV-DOMAIN. -/
def labelDomain : Bytes := [0x54, 0x4B, 0x56, 0x2D, 0x44, 0x4F, 0x4D, 0x41, 0x49, 0x4E]

/-- A slot derived from a root (R348). -/
def State.deriveSlot (s : State) (root : Digest) (label : Bytes) : Digest :=
  hmacSm3 (digestBytes root) (label ++ s.deviceId)
/-- The private scalar of an SM2 slot (R348). -/
def scalarOf (d : Digest) : Nat := d.toNat % (Config.sm2Order - 2) + 1

/-! ### Roots (R369) -/

/-- The root code that life-cycle and debug select. -/
def State.rootCodeNow (s : State) : Nat :=
  match s.lifecycle with
  | 0 => 4 | 1 => if s.frz.debug then 4 else 1 | 2 => if s.frz.debug then 4 else 2
  | 3 => if s.frz.debug then 4 else 3 | _ => 0
/-- Debug is enabled (R369): always in BLANK, never in SCUTTLED. -/
def State.debugOn (s : State) : Bool := s.lifecycle = 0 || (s.lifecycle ≠ 4 && s.frz.debug)
/-- The root of a code: TEST_ROOT, or the life-cycle root unwrapped. -/
def State.rootOf (s : State) : Nat → Option Digest
  | 1 => some (Config.pufUnwrap (s.looseBytes 14 8))
  | 2 => some (Config.pufUnwrap (s.looseBytes 22 8))
  | 3 => some (Config.pufUnwrap (s.looseBytes 30 8))
  | 4 => some Config.testRoot
  | _ => none
/-- ROOT_CHECK of a life-cycle root agrees (R446). -/
def State.rootChecks (s : State) : Nat → Bool
  | 4 => true
  | c => match s.rootOf c with
    | some r => (digestBytes (sm3 (digestBytes r))).take 8 == s.looseBytes (38 + 2 * (c - 1)) 2
    | none => true

/-- The domain root code: TEST_ROOT while a member has debug enabled (R371). -/
def State.domainCodeNow (s : State) : Nat :=
  if s.rootCodeNow = 0 then 0 else if s.keys.domainTest then 4 else s.rootCodeNow

/-- Slots 0 to 4 derived from the root in force (R348). -/
def State.deriveSlots (s : State) : State :=
  let c := s.rootCodeNow
  let dc := s.domainCodeNow
  let r := s.rootOf c
  let d := fun label => r.map (fun x => s.deriveSlot x label)
  { s with keys := { s.keys with
      root := r, code := c, domainCode := dc
      slot0 := d labelId, slot1 := d labelVamp, slot3 := d labelSole
      slot2 := some (s.deriveSlot Config.pufKey labelStore)
      slot4 := (s.rootOf dc).map (fun x => s.deriveSlot x labelDomain) } }

/-- Slots 0 to 4 and the unwrapped root zeroised (R373). -/
def State.zeroSlots (s : State) : State :=
  { s with keys := { s.keys with root := none, slot0 := none, slot1 := none, slot2 := none, slot3 := none, slot4 := none } }
/-- The volatile slots zeroised, with their generation counter (R357, R373). -/
def State.zeroVolatile (s : State) : State := { s with keys := { s.keys with vol := [], volGen := 0 } }

/-- The public key of slot 0. -/
def State.idKey (s : State) : Bytes := Config.sm2Public (scalarOf (s.keys.slot0.getD 0))
/-- The public key of slot 1. -/
def State.vampKey (s : State) : Bytes := Config.sm2Public (scalarOf (s.keys.slot1.getD 0))
/-- Bytes 0 to 15 of slot 2. -/
def State.storeKey (s : State) : BitVec 128 := ((s.keys.slot2.getD 0).toNat / 2 ^ 128 : Nat)
/-- Bytes 16 to 31 of slot 2. -/
def State.tagKey (s : State) : Bytes := (digestBytes (s.keys.slot2.getD 0)).drop 16
/-- The sole key-encryption key, slot 3. -/
def State.soleKey (s : State) : BitVec 128 := ((s.keys.slot3.getD 0).toNat / 2 ^ 128 : Nat)

/-! ### Stored halves (R353 to R355) -/

/-- Offset of a half in the key store. -/
def halfAddr (slot h : Nat) : Nat := 256 * slot + 16 + 64 * h
/-- SELECT of a persistent slot. -/
def State.keySelect (s : State) (slot : Nat) : Nat := beNat (Memory.readN 0 s.keys.store (256 * slot) 4)
/-- The bytes of a half. -/
def State.keyHalf (s : State) (slot h : Nat) : Bytes := Memory.readN 0 s.keys.store (halfAddr slot h) 64
/-- TAG of a half's bytes 0 to 55 (R353). -/
def State.keyTag (s : State) (slot h : Nat) (b : Bytes) : Bytes :=
  (digestBytes (hmacSm3 s.tagKey (natBE 2 slot ++ natBE 1 h ++ b.take 56))).take 8
/-- The bytes of a half that holds a record (R354). -/
def State.encodeHalf (s : State) (slot h : Nat) (r : KeyRec) : Bytes :=
  let m := if r.usage = 0 then fill 32 0
           else digestBytes (r.material ^^^ Config.storeStream s.storeKey slot h r.ownGen)
  let b := m ++ natBE 1 r.type ++ natBE 1 r.usage ++ natBE 1 (b2n r.exp) ++ [0] ++ natBE 2 r.parent ++ [0, 0] ++
    natBE 4 r.parentGen ++ natBE 4 r.ownGen ++ fill 8 0
  b ++ s.keyTag slot h b
/-- The record a half's bytes hold. -/
def State.decodeHalf (s : State) (slot h : Nat) (b : Bytes) : KeyRec :=
  let gen := fieldAt b 44 4
  { material := if fieldAt b 33 1 = 0 then 0 else digestOfBytes (b.take 32) ^^^ Config.storeStream s.storeKey slot h gen
    type := fieldAt b 32 1, usage := fieldAt b 33 1, exp := (fieldAt b 34 1).testBit 0
    parent := fieldAt b 36 2, parentGen := fieldAt b 40 4, ownGen := gen }

/-- What a slot holds (R355, R357). -/
inductive Found where
  | empty (gen : Nat)
  | corrupt
  | key (r : KeyRec)
  deriving DecidableEq, Repr

/-- The record of a slot 5 to 1,279: its TAG is checked at every read (R353). -/
def State.keyRec (s : State) (slot : Nat) : Found :=
  if slot < 1024 then
    match s.keySelect slot with
    | 0 => .empty 0
    | 1 | 2 =>
      let h := s.keySelect slot - 1
      let b := s.keyHalf slot h
      if b.drop 56 ≠ s.keyTag slot h b then .corrupt
      else
        let r := s.decodeHalf slot h b
        if r.usage = 0 then .empty r.ownGen else .key r
    | _ => .corrupt
  else
    match tfind s.keys.vol slot with
    | none => .empty 0
    | some r => if r.bad then .corrupt else if r.usage = 0 then .empty r.ownGen else .key r

/-- The key is orphaned (R360), walked toward its root. -/
def State.orphaned (s : State) (r : KeyRec) : Nat → Bool
  | 0 => true
  | n + 1 =>
    if r.parent = 0xFFFF then r.parentGen ≠ s.keys.code
    else match s.keyRec r.parent with
      | .key q => if q.ownGen = r.parentGen then s.orphaned q n else true
      | _ => true
/-- Steps of the walk: a depth of at most 8 (R360, R362). -/
abbrev walkFuel : Nat := 9
/-- The depth of a key: 1 under a root (R362). -/
def State.keyDepth (s : State) (r : KeyRec) : Nat → Nat
  | 0 => 0
  | n + 1 => if r.parent = 0xFFFF then 1 else match s.keyRec r.parent with | .key q => s.keyDepth q n + 1 | _ => 1

/-- SCUTTLED (R372): the life-cycle state of this device start (R415, R431), or a tamper SCUTTLE since, from the moment its fuse reads
blown (R373). -/
def State.scuttled (s : State) : Bool := s.lifecycle = 4 || s.env.scuttled
/-- The key store is closed: cleared by tamper, or SCUTTLED (R359 check 1, R372). -/
def State.keysClosed (s : State) : Option Nat :=
  if s.scuttled then some Code.keyStoreScuttled else if s.env.cleared then some Code.tamperClear else none

/-- The checks of R359 on an owner slot, with the code a slot 0 to 15 gives the use. -/
def State.useKey (s : State) (slot usage reserved : Nat) : Except Nat KeyRec :=
  match s.keysClosed with
  | some c => .error c
  | none =>
    if 1279 < slot then .error Code.keySlotReserved
    else if slot < 16 then .error reserved
    else match s.keyRec slot with
      | .empty _ => .error Code.keySlotEmpty
      | .corrupt => .error Code.keyCorrupt
      | .key r =>
        if r.usage ≠ usage then .error Code.keyUsageDenied
        else if s.orphaned r walkFuel then .error Code.keyOrphaned
        else .ok r

/-- Bytes of a key's material (R351). -/
def keyLen (type : Nat) : Nat := if type = 1 || type = 2 then 16 else 32
/-- The material as bytes, of its length. -/
def KeyRec.bytes (r : KeyRec) : Bytes := (digestBytes r.material).take (keyLen r.type)
/-- USAGE and TYPE pair (R351). -/
def keyPairs (usage type : Nat) : Bool :=
  match usage with
  | 1 | 2 | 3 => type = 1
  | 4 => type = 2 || type = 3 || type = 4
  | 5 => type = 4
  | 6 => type = 2 || type = 3
  | _ => false
/-- The check value of R366. -/
def checkValue (type : Nat) (material : BitVec 256) : Bytes :=
  let m := (digestBytes material).take (keyLen type)
  if type = 1 then (natBE 16 (Config.sm4Block (BitVec.ofNat 128 (beNat m)) 0).toNat).take 8
  else if type = 4 then (digestBytes (sm3 (Config.sm2Public material.toNat))).take 8
  else (digestBytes (hmacSm3 m [])).take 8

/-! ### Writing records (R356, R357, R367) -/

/-- Records on their way into the key store that have still to take a generation (R356, R367). -/
def KeysSt.ungenerated (k : KeysSt) : Nat :=
  (match k.commit with | some c => if c.written then 0 else 1 | none => 0) + k.queue.length
/-- Generations for the slot's kind are used up, those that waiting records will take among them (R356, R357). -/
def State.genExhausted (s : State) (slot : Nat) : Bool :=
  if slot < 1024 then 0xFFFFFFFF ≤ s.word keyGenAddr + s.keys.ungenerated else 0xFFFFFFFF ≤ s.keys.volGen
/-- A record for the slot is on its way into the key store: the slot is taken (R337, R362). -/
def State.keyPending (s : State) (slot : Nat) : Bool :=
  s.keys.commit.any (fun c => c.slot = slot) || s.keys.queue.any (fun c => c.slot = slot)

/-- The store with bytes written. -/
def State.storeWrite (s : State) (a : Nat) (b : Bytes) : State :=
  { s with keys := { s.keys with store := Memory.writeN 0 s.keys.store a b } }

/-- The record that a command or a derivation has made is written (R338, R367): a persistent one by the half-select steps of the
stitches that follow, after any that is being written (log entry 85), a volatile one in one step (R357). -/
def State.commitKey (s : State) (slot : Nat) (r : KeyRec) (o : Option Origin := none) : State :=
  if slot < 1024 then
    let c : KeyCommit :=
      { slot := slot, half := if s.keySelect slot = 1 then 1 else 0, record := r, began := s.now, origin := o }
    if s.keys.commit.isSome then { s with keys := { s.keys with queue := s.keys.queue ++ [c] } }
    else { s with keys := { s.keys with commit := some c } }
  else
    let g := s.keys.volGen + 1
    { s with keys := { s.keys with
        volGen := g, vol := tput s.keys.vol slot { r with ownGen := g }
        commits := satInc 0xFFFF s.keys.commits } }

/-- Step 3 of R367: the key-generation counter raised, then the alternate half written. -/
def State.keyStep3 (s : State) (c : KeyCommit) : State :=
  let g := s.word keyGenAddr + 1
  let r := { c.record with ownGen := g }
  let s := s.setWord keyGenAddr g
  let s := s.storeWrite (halfAddr c.slot c.half) (s.encodeHalf c.slot c.half r)
  { s with keys := { s.keys with commit := some { c with record := r, written := true } } }
/-- Step 4 of R367: the half read back holds its TAG and, for a key, material of the same check value. -/
def State.halfGood (s : State) (c : KeyCommit) : Bool :=
  let b := s.keyHalf c.slot c.half
  b.drop 56 = s.keyTag c.slot c.half b &&
  (c.record.usage = 0 || checkValue c.record.type (s.decodeHalf c.slot c.half b).material = checkValue c.record.type c.record.material)
/-- Step 5 of R367: SELECT names the half; COMMITS counts the operation (R378). -/
def State.keyStep5 (s : State) (c : KeyCommit) : State :=
  let s := s.storeWrite (256 * c.slot) (natBE 4 (c.half + 1))
  { s with keys := { s.keys with commit := some { c with selected := true }, commits := satInc 0xFFFF s.keys.commits } }
/-- The record being written is done with; the next one's turn comes. -/
def State.commitNext (s : State) : State :=
  { s with keys := { s.keys with
      commit := s.keys.queue.head?.map (fun c => { c with began := s.now }), queue := s.keys.queue.drop 1 } }
/-- Step 6 of R367: the old half zeroised; the operation is done. -/
def State.keyStep6 (s : State) (c : KeyCommit) : State :=
  (s.storeWrite (halfAddr c.slot (1 - c.half)) (fill 64 0)).commitNext

/-- An operation aborted before step 5 (R368, R378). -/
def State.keyAborted (s : State) : State :=
  { s with keys := { s.keys with aborts := satInc 0xFFFF s.keys.aborts } }
/-- The records being written and waiting when everything asked of the unit is dropped (R368): a partial half is zeroised, a
selected one counts as done, the others are aborted; no response. -/
def State.commitDropped (s : State) : State :=
  let s := s.keys.queue.foldl (fun s _ => s.keyAborted) s
  let s : State := { s with keys := { s.keys with queue := [] } }
  match s.keys.commit with
  | none => s
  | some c =>
    if c.selected then s.keyStep6 c
    else
      let s := if c.written then s.storeWrite (halfAddr c.slot c.half) (fill 64 0) else s
      s.commitNext.keyAborted

/-- The scan of R358: unselected halves that hold a record are zeroised, CORRUPT slots counted. -/
def State.keyScan (s : State) : State :=
  let slots := (List.range 1024).filter (fun i => 5 ≤ i)
  let holds := fun i h => !allZero (s.keyHalf i h)
  let stale := slots.flatMap (fun i =>
    let sel := s.keySelect i
    ([0, 1].filter (fun h => sel ≤ 2 && sel ≠ h + 1 && holds i h)).map (fun h => (i, h)))
  let corrupt := (slots.filter (fun i => s.keyRec i = .corrupt)).length
  let s := stale.foldl (fun s x => s.storeWrite (halfAddr x.1 x.2) (fill 64 0)) s
  { s with keys := { s.keys with corrupt := corrupt, stale := stale.length } }

/-! ### Retention SRAM (R227, R373; the wrapping's form: log entry 76) -/

/-- A volatile record wrapped under slot 3, or unwrapped: the two are one operation. -/
def wrapRec (slot3 : Digest) (slot : Nat) (r : KeyRec) : KeyRec :=
  { r with material := r.material ^^^ Config.wrapStream slot3 slot }
/-- An epoch key wrapped under slot 3, or unwrapped. -/
def wrapEpoch (slot3 : Digest) (p : Nat) (k : Option (BitVec 128)) : Option (BitVec 128) :=
  k.map (fun x => x ^^^ (Config.wrapStream slot3 (4096 + p)).setWidth 128)
/-- Volatile slots and epoch keys moved into retention SRAM under slot 3 (R227, R373). -/
def State.wrapKeys (s : State) : State :=
  let d := s.keys.slot3.getD 0
  { s with
    keys := { s.keys with kept := tmapAll {} s.keys.vol (wrapRec d), vol := [] }
    sole := { s.sole with wrapped := tmapAll none s.sole.epochKey (wrapEpoch d), epochKey := [] } }
/-- They come back once slot 3 is derived again. -/
def State.unwrapKeys (s : State) : State :=
  let d := s.keys.slot3.getD 0
  if s.keys.kept = [] && s.sole.wrapped = [] then s
  else { s with
    keys := { s.keys with vol := tmapAll {} s.keys.kept (wrapRec d), kept := [] }
    sole := { s.sole with epochKey := tmapAll none s.sole.wrapped (wrapEpoch d), wrapped := [] } }

/-! ### Root switches (R370, R371) -/

/-- Sessions and other consequences are the caller's; here the root code changes and the slots are derived again. -/
def State.rootSwitchNow (s : State) : State :=
  if s.env.cleared || s.frz.entering.isSome then s else s.deriveSlots

/-! ### What a slot reports (R362, R377, R378) -/

/-- STATE of KEYS_SLOT_S. -/
def State.slotState (s : State) (slot : Nat) : Nat :=
  if 1279 < slot then 7
  else if s.scuttled then 2
  else if slot = 2 then 5 else if slot < 5 then 4 else if slot < 16 then 6
  else match s.keyRec slot with
    | .empty _ => 0 | .corrupt => 2 | .key r => if s.orphaned r walkFuel then 3 else 1

/-- TYPE, USAGE, EXPORT, PARENT, PARENT_GEN, OWN_GEN as reported. -/
def State.slotInfo (s : State) (slot : Nat) : KeyRec :=
  if s.scuttled then {}
  else match slot with
  | 0 => { type := 4, usage := 5, parent := 0xFFFF, parentGen := s.keys.code, ownGen := s.keys.code }
  | 1 => { type := 4, usage := 4, parent := 0xFFFF, parentGen := s.keys.code, ownGen := s.keys.code }
  | 3 => { type := 1, usage := 3, parent := 0xFFFF, parentGen := s.keys.code, ownGen := s.keys.code }
  | 4 => { type := 4, usage := 4, parent := 0xFFFF, parentGen := s.keys.domainCode, ownGen := s.keys.domainCode }
  | 2 => {}
  | n =>
    if n < 16 || 1279 < n then {}
    else match s.keyRec n with
      | .key r => r
      | .empty g => { ownGen := g }
      | .corrupt => {}

end Sys2Proof.Machine
end

