-- ==== Sys2Proof/Machine/Link.lean ====
section
/-!
DEFINITION. The VAMP link (chapter 15): responses, frames sent and replayed, the table of commands, sessions, and the
admission of requests (R565).
-/
namespace Sys2Proof.Machine
open Sys2Proof

/-! ### The link block -/

/-- The VAMP block changed. -/
def State.modVamp (s : State) (f : VampSt → VampSt) : State := { s with vamp := f s.vamp }
/-- A channel's record. -/
def State.vchan (s : State) (ch : Nat) : VChan := tget {} s.vamp.chans ch
/-- A channel's record changed. -/
def State.modVchan (s : State) (ch : Nat) (f : VChan → VChan) : State :=
  s.modVamp (fun v => { v with chans := tmod {} v.chans ch f })
/-- A session that is open. -/
def State.session? (s : State) (ch : Nat) : Option Session := tfind s.vamp.sessions ch

/-- DATA frames sent and not acknowledged (R557). -/
def VampSt.outstanding (v : VampSt) : Nat := (v.txSeq + 65536 - v.peerAck) % 65536
/-- The latest grant leaves room for a frame (R557). -/
def VampSt.room (v : VampSt) : Bool := v.outstanding < v.credits
/-- The link is up for R79: trained, with room (R557). -/
def VampSt.refresh (v : VampSt) : VampSt := { v with up := v.trained && v.room }

/-- The command table of a channel keeps the latest 32 (R580). -/
def State.addCmd (s : State) (ch : Nat) (c : VCmd) : State :=
  s.modVchan ch (fun v => { v with cmds := (v.cmds ++ [c]).drop (v.cmds.length + 1 - 32) })
/-- The bound of a running command ends in stitch `t` (R573, R577, R578). -/
def State.setDue (s : State) (o : Origin) (t : Nat) : State :=
  s.modVchan o.ch (fun v => { v with cmds := v.cmds.map (fun c =>
    if c.tag = o.tag && c.state = 1 then { c with due := some t } else c) })
/-- The command running under a TAG. -/
def State.running? (s : State) (ch tag : Nat) : Option VCmd :=
  (s.vchan ch).cmds.find? (fun c => c.tag = tag && c.state = 1)

/-! ### Messages sent -/

/-- The 12-byte envelope (R563). -/
def envelope (opcode tag status : Nat) (interim : Bool) (incident : Nat) : Bytes :=
  natBE 2 opcode ++ natBE 2 tag ++ natBE 2 status ++ natBE 1 (b2n interim) ++ [0] ++ natBE 4 incident

/-- A run of bytes cut into pieces of `n`. -/
def chunks (n : Nat) : Nat → Bytes → List Bytes
  | 0, _ => []
  | k + 1, b => if b.length ≤ n then [b] else b.take n :: chunks n k (b.drop n)

/-- The header's bytes 0, 1, 8, 9 and 10 of a DATA frame (R553, R569). -/
def frameAad (more : Bool) (len channel : Nat) : Bytes := natBE 1 1 ++ natBE 1 (b2n more) ++ natBE 2 len ++ natBE 1 channel

/-- The nonce of a sealed frame (R569). -/
def vampNonce (dir ch counter : Nat) : Nat := dir * 2 ^ 88 + ch * 2 ^ 80 + counter

/-- One DATA frame queued, sealed on a session channel (R569). -/
def State.queueFrame (s : State) (ch : Nat) (more event : Bool) (recs : List Nat) (tag : Option Nat) (payload : Bytes) :
    State :=
  match s.session? ch with
  | some x =>
    let n := x.txCount + 1
    let sealed := sm4Seal x.keyOut (vampNonce 1 ch n) (frameAad more (payload.length + 24) ch) payload
    let f : TxFrame := { channel := ch, more := more, payload := natBE 8 n ++ sealed, event := event, recs := recs, tag := tag }
    s.modVamp (fun v => { v with
      tx := v.tx ++ [f], sessions := tput v.sessions ch { x with txCount := n } })
  | none =>
    let f : TxFrame := { channel := ch, more := more, payload := payload, event := event, recs := recs, tag := tag }
    s.modVamp (fun v => { v with tx := v.tx ++ [f] })

/-- Frames of a message queued in order, MORE set on all but the last (R563). -/
def State.queueParts (s : State) (ch : Nat) (tag : Option Nat) : List Bytes → State
  | [] => s
  | [b] => s.queueFrame ch false false [] tag b
  | b :: bs => (s.queueFrame ch true false [] tag b).queueParts ch tag bs

/-- A response can leave on the channel: the link is trained and a session channel's session is open (R562, R571). -/
def State.canSend (s : State) (ch : Nat) : Bool := s.vamp.trained && (ch = 0 || (s.session? ch).isSome)
/-- A response queued for transmission, or discarded while the link is down (R562, R566). -/
def State.send (s : State) (ch tag opcode status : Nat) (interim : Bool) (incident : Nat) (body : Bytes) : State :=
  if s.canSend ch then
    let msg := envelope opcode tag status interim incident ++ body
    let n := if ch = 0 then 2048 else 2024
    (s.emit (.response ch tag opcode status body)).queueParts ch (some tag) (chunks n (msg.length / n + 1) msg)
  else s

/-- The final answer to a command: the table keeps its outcome (R566, R580). -/
def State.answer (s : State) (o : Origin) (status : Nat) (body : Bytes := []) : State :=
  let s := s.busyCounted status
  let inc := match s.running? o.ch o.tag with | some c => c.incident | none => 0
  let st := if s.canSend o.ch then 2 else 3
  let s := s.modVchan o.ch (fun v => { v with cmds := v.cmds.map (fun c =>
    if c.tag = o.tag && c.state = 1 then { c with status := status, state := st } else c) })
  s.send o.ch o.tag o.opcode status false inc body

/-- The interim answer of a two-stage command (R566). -/
def State.interim (s : State) (o : Origin) (status : Nat) (body : Bytes) : State :=
  let inc := match s.running? o.ch o.tag with | some c => c.incident | none => 0
  s.send o.ch o.tag o.opcode status true inc body

/-! ### Frames sent (R557, R559, R560) -/

/-- The bytes of a DATA frame as the link carries it, with the ACK and CREDITS of this moment (R553). -/
def State.dataBytes (s : State) (f : TxFrame) : Bytes :=
  let h := natBE 1 1 ++ natBE 1 (b2n f.more) ++ natBE 2 f.seq ++ natBE 2 s.vamp.rxSeq ++ natBE 2 16 ++
    natBE 2 f.payload.length ++ natBE 1 f.channel ++ [0]
  h ++ f.payload ++ natBE 4 (Config.crc32 (h ++ f.payload)).toNat
/-- The bytes of an ACK, NAK or TRAIN. -/
def State.ctlBytes (s : State) (type : Nat) (payload : Bytes) : Bytes :=
  let h := natBE 1 type ++ [0, 0, 0] ++ natBE 2 s.vamp.rxSeq ++ natBE 2 16 ++ natBE 2 payload.length ++ [0, 0]
  h ++ payload ++ natBE 4 (Config.crc32 (h ++ payload)).toNat
/-- The payload of the Larir's TRAIN (R555). -/
def State.trainPayload (s : State) : Bytes :=
  natBE 2 1 ++ natBE 1 1 ++ [0] ++ natBE 2 16 ++ natBE 2 2048 ++ natBE 1 s.pair.unitId ++ fill 7 0

/-- A control frame leaves. -/
def State.sendCtl (s : State) (type : Nat) (payload : Bytes) : State :=
  (s.emit (.link type 0 (s.ctlBytes type payload))).modVamp (fun v => { v with ackDue := false, lastTx := s.now })

/-- The frame leaves now: its first transmission takes the next SEQ, later ones are replays of the same SEQ. Frames sent stand in
the order of their SEQ before those that wait. -/
def State.sendTx (s : State) (f : TxFrame) : State :=
  let g : TxFrame := { f with seq := (s.vamp.txSeq + 1) % 65536, sent := some s.now }
  let s := s.modVamp (fun v => { v with
    txSeq := g.seq, ackDue := false, lastTx := s.now
    tx := v.tx.filter (fun x => x.sent.isSome) ++ [g] ++ (v.tx.filter (fun x => x.sent.isNone)).erase f })
  (s.emit (.link 1 g.seq (s.dataBytes g))).modVamp VampSt.refresh

/-- The next DATA frame to send: EVENT frames first, then queue order; a message gives way only between frames (R559). -/
def VampSt.nextTx (v : VampSt) : Option TxFrame :=
  match v.tx.find? (fun f => f.event && f.sent.isNone) with
  | some f => some f
  | none => v.tx.find? (fun f => f.sent.isNone)

/-- Frames leave in the order of R559 while the stitch has bytes left: 1,000 bytes of payload code in each (R549). -/
def State.transmit (s : State) : Nat → Nat → State
  | 0, _ => s
  | n + 1, budget =>
    if budget = 0 then s
    else match s.vamp.ctl with
    | c :: cs =>
      ((s.modVamp (fun v => { v with ctl := cs })).sendCtl 3 (natBE 2 c)).transmit n (budget - min budget 18)
    | [] =>
      match if s.vamp.trained && s.vamp.room then s.vamp.nextTx else none with
      | some f =>
        let len := 16 + f.payload.length
        let s := if budget < len then s.modVamp (fun v => { v with debt := len - budget }) else s
        (s.sendTx f).transmit n (budget - min budget len)
      | none => if s.vamp.ackDue then s.sendCtl 2 [] else s

/-- What the link sends in one stitch: TRAIN while it trains, else frames within the stitch's 1,000 bytes. -/
def State.linkStitch (s : State) : State :=
  if s.vamp.training then s.sendCtl 4 s.trainPayload
  else
    let d := s.vamp.debt
    let s := s.modVamp (fun v => { v with debt := d - 1000 })
    s.transmit 64 (1000 - d)

/-! ### Sessions (R571) -/

/-- A session ends: its digest contexts are freed (R339), its channel's running commands stay in the table. -/
def State.endSession (s : State) (ch : Nat) : State :=
  let s := s.modVamp (fun v => { v with sessions := terase v.sessions ch })
  let s := s.modVchan ch (fun v => { v with rx := [], tooLong := false, inbox := [] })
  { s with
    sel := s.sel.filter (fun e => e.1 / 8 ≠ ch)
    dgst := { s.dgst with ctxs := s.dgst.ctxs.filter (fun e => e.2.owner ≠ 7 || e.2.session ≠ ch) }
    stitch := { s.stitch with hiLatch := s.stitch.hiLatch.filter (fun e => e.1 ≠ 8 + ch) } }
/-- Every session ends. -/
def State.endSessions (s : State) : State := (s.vamp.sessions.map Prod.fst).foldl State.endSession s

/-- Accepted commands are abandoned without a response (R76). -/
def State.abandonCmds (s : State) : State :=
  s.modVamp (fun v => { v with
    jobs := [], quiesce := []
    chans := tmapAll {} v.chans (fun _ c => { c with
      inbox := [], cmds := c.cmds.filter (fun x => x.state ≠ 1) }) })

/-! ### Requests (R564, R565) -/

/-- Opcodes of R573 that the adapter may send. -/
def vampOpcodes : List Nat :=
  [0x0001, 0x0002, 0x0010, 0x0011, 0x0012, 0x0020, 0x0030, 0x0031, 0x0040, 0x0041, 0x0042, 0x0043, 0x0050, 0x0060, 0x0061,
   0x0062, 0x0063, 0x0070, 0x0080, 0x0081, 0x0082, 0x0083, 0x0090, 0x00A0, 0x00F0]
/-- Commands that need no session (R573). -/
def plainOpcodes : List Nat := [0x0001, 0x0010, 0x0020, 0x0030, 0x0031, 0x00A0]
/-- Commands permitted only on channel 0: HELLO and FREEZE_READ (R573). -/
def zeroOnly : List Nat := [0x0001, 0x00A0]

/-- Body length and reserved fields are right for the opcode (R574, R565). -/
def bodyOk (op : Nat) (b : Bytes) : Bool :=
  let f := fieldAt b
  match op with
  | 0x0001 => b.length = 148 && f 144 4 = 0x00010000
  | 0x0002 => b.length = 0
  | 0x0010 => b.length = 4 && f 2 1 = 0 && f 3 1 ≤ 1 && (f 3 1 = 1 || f 0 2 = 0)
  | 0x0011 => b.length = 8 && f 0 4 % 4 = 0 && 0x20000000 ≤ f 0 4 && 1 ≤ f 4 4 && f 4 4 ≤ 256 &&
      f 0 4 + 4 * f 4 4 ≤ 0x20140000
  | 0x0012 => b.length = 8
  | 0x0020 => b.length = 12 && 1 ≤ f 8 4 && f 8 4 ≤ 64
  | 0x0030 => b.length = 48 && f 40 1 ≤ 1 && allZero (b.drop 41)
  | 0x0031 => b.length = 48 && f 32 1 ≤ 1 && allZero (b.drop 33)
  | 0x0040 => b.length = 12 && f 3 1 ≤ 3 && f 0 1 = 0 && f 1 1 ≤ 1 && f 4 2 = 0 && (f 3 1 = 0 || (f 1 2 = 0 && f 6 2 = 0))
  | 0x0041 => 9 ≤ b.length && b.length ≤ 65544
  | 0x0042 => b.length = 8 && f 4 4 ≤ 1
  | 0x0043 => b.length = 4
  | 0x0050 => b.length = 8 && f 0 1 = 0 && f 2 1 ≤ 6 && (f 2 1 = 6 || (f 1 1 = 0 && f 4 4 = 0)) && f 1 1 ≤ 1
  | 0x0060 | 0x0061 => 4 ≤ b.length && f 0 2 = 0
  | 0x0062 | 0x0063 => b.length = 4 && f 0 2 = 0
  | 0x0070 => 64 ≤ b.length && b.length ≤ 65600 && allZero (bytesAt b 20 12) && f 0 4 &&& 0xFFF8C0FC = 0 &&
      f 16 4 &&& 0xFFFFFEF8 = 0
  | 0x0080 => b.length = 4 && f 0 4 ≤ 511
  | 0x0081 => (f 0 2 = 1 || f 0 2 = 4) && b.length = 4 + 4 * f 0 2
  | 0x0082 => b.length = 72 && f 0 4 ≤ 511
  | 0x0083 => b.length = 68 && 1 ≤ f 0 4 && f 0 4 ≤ 4
  | 0x0090 => b.length = 4 && f 0 4 ≤ 2
  | 0x00A0 => b.length = 12
  | 0x00F0 => b.length = 160
  | _ => false

/-- In RESCUE the ROM serves only these (R450). -/
def rescueServes (op : Nat) (b : Bytes) : Bool :=
  [0x0001, 0x0002, 0x0010, 0x0011, 0x0020, 0x0041, 0x0042, 0x0043].contains op || (op = 0x0040 && fieldAt b 3 1 = 1)

/-- The bound of a command in stitches from its acceptance (R573): what waits for the ledger takes its bound as it is placed,
STAGE_CLOSE and DIGEST_RUN theirs as they are taken (R577, R578). -/
def commandBound (op : Nat) (body : Bytes) : Nat :=
  match op with
  | 0x0030 => 2000
  | 0x0031 => 5000
  | 0x0082 | 0x0083 => 3000
  | 0x0090 => if fieldAt body 0 4 = 0 then 110 else 64
  | _ => 64
/-- A refusal at once that changes no state of the command table (R565). -/
def State.refuseAtOnce (s : State) (ch tag op code inc : Nat) : State :=
  (s.busyCounted code).send ch tag op code false inc []

/-- A whole request on a channel: refused at once under R565, R450 or R644, or admitted to wait for its own command. -/
def State.request (s : State) (ch : Nat) (m : Bytes) : State :=
  let op := fieldAt m 0 2
  let tag := fieldAt m 2 2
  let inc := fieldAt m 8 4
  let body := m.drop 12
  let no := fun code => s.refuseAtOnce ch tag op code inc
  if s.frz.frozen && op ≠ 0x00A0 then no Code.freezeActive
  else if !vampOpcodes.contains op then no Code.vampOpcodeUnknown
  else if ch = 0 && !plainOpcodes.contains op then no Code.sessionRequired
  else if m.length < 12 || fieldAt m 4 4 ≠ 0 || !bodyOk op body || (ch ≠ 0 && zeroOnly.contains op) then
    no Code.vampBodyBad
  else if (s.running? ch tag).isSome then no Code.vampTagInUse
  else if 16 ≤ ((s.vchan ch).cmds.filter (fun c => c.state = 1)).length then no Code.busy
  else if s.boot.stage = .rescue && !rescueServes op body then no Code.rescueActive
  else if s.boot.stage ≠ .running && s.boot.stage ≠ .rescue && op ≠ 0x00A0 then no Code.busy
  else
    let s := s.addCmd ch { tag := tag, opcode := op, accepted := s.now, incident := inc, state := 1,
                             due := some (s.now + commandBound op body) }
    s.modVchan ch (fun v => { v with inbox := v.inbox ++ [m] })

/-- The request at the front of a channel's inbox, when it is the one the command serves: its origin and body, and the
state with it taken out. -/
def State.takeReq (s : State) (ch op : Nat) (sub : Bytes → Bool := fun _ => true) : Option (Origin × Bytes × State) :=
  match (s.vchan ch).inbox with
  | m :: ms =>
    if fieldAt m 0 2 = op && sub (m.drop 12) then
      some (⟨ch, fieldAt m 2 2, op⟩, m.drop 12, s.modVchan ch (fun v => { v with inbox := ms }))
    else none
  | [] => none

/-- A command that acts on its request if it is there, and otherwise changes nothing. -/
def State.serve (s : State) (ch op : Nat) (sub : Bytes → Bool) (act : State → Origin → Bytes → State) :
    Host.Outcome State Fault Refusal :=
  match s.takeReq ch op sub with
  | some (o, b, t) => .next (act t o b)
  | none => .next s

/-! ### The ledger (R77, R573) -/

/-- The stitch in which engine `e` completes its `n`-th step granted to `owner` counted from stitch `at_`, looking no further
than `limit` stitches (R77). Without a schedule every stitch grants every engine (R602). -/
def State.stepsDone (s : State) (e owner : Nat) : Nat → Nat → Nat → Option Nat
  | 0, _, _ => none
  | fuel + 1, at_, n =>
    let rows := s.stitch.active.rows
    let grants := if rows.length = 0 then true else match rows[at_ % rows.length]? with
      | some r => decide (rowPe r e = owner)
      | none => false
    if grants then if n ≤ 1 then some at_ else s.stepsDone e owner fuel (at_ + 1) (n - 1)
    else s.stepsDone e owner fuel (at_ + 1) n

/-- The engine that completes `n` steps of `owner` first, by `bound`: the engine, the first stitch a step of it may run in, and the
stitch of its last step. Steps count from the stitch after `start`, or after the engine's ledger end (R77; log entry 71). -/
def State.ledgerPlace (s : State) (ends : List Nat) (owner start bound n : Nat) : Option (Nat × Nat × Nat) :=
  [0, 1, 2, 3].foldl (fun best e =>
    let st := max start (ends.getD e 0) + 1
    match s.stepsDone e owner (bound + 1 - st) st n with
    | some d => match best with
      | some (_, _, b) => if d < b then some (e, st, d) else best
      | none => some (e, st, d)
    | none => best) none

/-- An update-queue operation placed by the ledger of R573; none where it cannot finish within the bound, or while an
accepted pattern waits for its switch (R78). -/
def State.placeUpdate (s : State) (steps bound op : Nat) (o : Option Origin) (j : VJob) : Option State :=
  if s.patNext.isSome then none
  else match s.ledgerPlace s.vamp.ledgerEnd 4 s.now (s.now + bound) steps with
    | none => none
    | some (e, st, d) =>
      let id := s.vamp.nextJob
      let s := s.modVamp (fun v => { v with
        ledgerEnd := v.ledgerEnd.set e d, jobs := v.jobs ++ [(id, o, j)], nextJob := id + 1 })
      let s := match o with | some o => s.setDue o (s.now + bound) | none => s
      some (s.startOp 4 (4096 + id) op steps (some e) st)

/-- A verification for the update queue that no ledger places (R299, R705). -/
def State.queueUpdate (s : State) (o : Origin) (j : VJob) : State :=
  let id := s.vamp.nextJob
  let s := s.modVamp (fun v => { v with jobs := v.jobs ++ [(id, some o, j)], nextJob := id + 1 })
  s.startOp 4 (4096 + id) 1 verifySteps

end Sys2Proof.Machine
end

