-- ==== Sys2Proof/Machine/Shank.lean ====
section
/-!
DEFINITION. Pairs and the shank (chapter 14): fitness, release, shadowing verdicts, the claim and the takeover.
-/
namespace Sys2Proof.Machine
open Sys2Proof

/-- The PAIR block changed. -/
def State.modPair (s : State) (f : PairSt → PairSt) : State := { s with pair := f s.pair }
/-- ROLE of LACE_PAIR (R503, R546). -/
def Role.code : Role → Nat
  | .starting => 0 | .standby => 1 | .claiming => 2 | .active => 3 | .unpaired => 4
/-- A PAIR record (R627): role and partner role. -/
def State.pairRecord (s : State) (subj : Subject) (code : Nat) : State :=
  s.eventInc 0x09 subj code (natBE 1 s.pair.role.code ++ natBE 1 s.pair.partner.role)
/-- TRIAL of BOOT_STATE (R444). -/
def bootStateAddr : Nat := 0x40050100
/-- BOOT_STATE. -/
def State.bootState (s : State) : Nat := s.word bootStateAddr
/-- BOOT_STATE written, with GEN advanced (R444). -/
def State.setBootState (s : State) (w : Nat) : State :=
  s.setWord bootStateAddr (w % 65536 + 65536 * ((bitsOf s.bootState 31 16 + 1) % 65536))
/-- TRIAL. -/
def State.trial (s : State) : Bool := s.bootState.testBit 2
/-- The digest of the pattern in force, or zero (R535). -/
def State.patDigest (s : State) : Digest := match s.pat with | some t => t.digest | none => 0
/-- The sole self-test of every enabled channel has ended (R221). -/
def State.selfTested (s : State) : Bool := (List.range s.chanCount).all (fun c => (s.chan c).tested)

/-- Fit to claim (R511, R512, R530). A SNAPSHOT is awaited only from a partner that is ACTIVE (log entry 21). -/
def State.fit (s : State) : Bool :=
  !s.pair.unfitRelease && !s.trial && (s.boot.stage = .running || s.boot.stage = .warm) && s.live && s.pat.isSome &&
  (!s.pair.partner.ever || s.pair.partner.pattern = s.patDigest) && s.selfTested && !s.pair.strapConflict &&
  (s.pair.snapshotDone || s.pair.partnerLost || s.pair.partner.role ≠ 3)

/-- The active unit lets the shank go at a boundary: outputs and hold drive go with the role (R504, R509, R510). -/
def State.releaseShank (s : State) (unfit : Bool) : State :=
  if s.pair.role = .active || s.pair.role = .claiming then
    s.modPair (fun q => { q with
      role := .standby, driveA := false, driveB := false, claim := none, released := none
      unfitRelease := q.unfitRelease || unfit })
  else s

/-- Even units take SHANK_A_N first, odd units SHANK_B_N (R514). -/
def State.evenUnit (s : State) : Bool := s.pair.unitId % 2 = 0

/-- The claim stitch counted from `r` (R513). -/
def State.claimFrom (s : State) (r : Nat) : Nat :=
  match s.pair.drill with
  | some d => if r ≤ d + 10 then r else if s.evenUnit then r + 20 else r + 60
  | none => if s.evenUnit then r + 20 else r + 60

/-- A unit that may claim and sees the shank released schedules its claim, or reports once that it is unfit (R513, R543). -/
def State.planClaim (s : State) (r : Nat) : State :=
  if s.fit then s.modPair (fun q => { q with claim := some { at_ := s.claimFrom r } })
  else if s.pair.noFitTold || s.pair.role ≠ .standby then s
  else (s.modPair (fun q => { q with noFitTold := true })).pairRecord .device Code.noFitUnit

/-- The third consecutive sample with both lines high (R507, R513). -/
def State.releaseSeen (s : State) (aHigh bHigh : Bool) : State :=
  if s.live && s.paired && (s.pair.role = .standby || s.pair.role = .starting) && aHigh && bHigh && s.pair.released.isNone &&
      2 ≤ s.pair.highRun then
    (s.modPair (fun q => { q with aHigh := true, bHigh := true, released := some s.now, noFitTold := false })).planClaim s.now
  else s
/-- SHANK_RELEASE_SEEN (R507, R513). -/
def execShankReleaseSeen (aHigh bHigh : Bool) (s : State) : Host.Outcome State Fault Refusal := .next (s.releaseSeen aHigh bHigh)

/-- Stitch c of a claim (R514): both lines are high, or the claim is abandoned. -/
def State.claimStart (s : State) (aHigh bHigh : Bool) : State :=
  match s.pair.claim with
  | some c =>
    if !s.live || c.stage ≠ 0 || c.at_ ≠ s.now || !s.fit || (s.pair.role ≠ .standby && s.pair.role ≠ .starting) then s
    else if aHigh && bHigh then
      let s := s.modPair (fun q => { q with aHigh := true, bHigh := true, role := .claiming, claim := some { c with stage := 1 } })
      s.later (.shankDrive s.evenUnit (!s.evenUnit))
    else s.modPair (fun q => { q with aHigh := aHigh, bHigh := bHigh, claim := none, released := none })
  | none => s
/-- CLAIM_START (R514). -/
def execClaimStart (aHigh bHigh : Bool) (s : State) : Host.Outcome State Fault Refusal := .next (s.claimStart aHigh bHigh)

/-- The claim ends without the shank: both lines undriven from the next boundary, role STANDBY (R514). -/
def State.claimEnds (s : State) (code : Nat) : State :=
  let s := s.modPair (fun q => { q with role := .standby, claim := none, released := none })
  (s.later (.shankDrive false false)).pairRecord .device code

/-- Stitch c + 1 (R514): an odd unit that finds its second line low yields. -/
def State.claimSecond (s : State) (secondHigh : Bool) : State :=
  match s.pair.claim with
  | some c =>
    if !s.live || s.pair.role ≠ .claiming || c.stage ≠ 1 || s.now ≠ c.at_ + 1 then s
    else if secondHigh || s.evenUnit then
      (s.modPair (fun q => { q with claim := some { c with stage := 2 } })).later (.shankDrive true true)
    else s.claimEnds Code.claimYielded
  | none => s
/-- CLAIM_SECOND_LINE (R514). -/
def execClaimSecondLine (secondHigh : Bool) (s : State) : Host.Outcome State Fault Refusal := .next (s.claimSecond secondHigh)

/-- A read-back in stitches c + 2 to c + 4 (R514, R516): one that finds a line high ends the claim; after the last the role changes at
the boundary that follows. -/
def State.claimRead (s : State) (low : Bool) : State :=
  match s.pair.claim with
  | some c =>
    if !s.live || s.pair.role ≠ .claiming || c.stage ≠ 2 || s.now < c.at_ + 2 || c.at_ + 4 < s.now || s.deferred.contains .takeover then s
    else if !low then s.claimEnds Code.shankDisagree
    else if s.now = c.at_ + 4 then s.later .takeover
    else s
  | none => s
/-- CLAIM_CONFIRM (R514, R516): what the read-backs have shown so far. -/
def execClaimConfirm (low3 : Bool) (s : State) : Host.Outcome State Fault Refusal := .next (s.claimRead low3)

/-- The third sample in a row with one line low and one high, outside a claim sequence (R508). -/
def State.disagree (s : State) (aHigh bHigh : Bool) : State :=
  if s.live && s.paired && s.pair.role ≠ .claiming && s.pair.role ≠ .active && aHigh != bHigh && !s.pair.disagree &&
      2 ≤ s.pair.splitRun then
    let s := s.modPair (fun q => { q with
      aHigh := aHigh, bHigh := bHigh, disagree := true, disagreeCount := satInc 255 q.disagreeCount
      claim := none, released := none })
    s.pairRecord .device Code.shankDisagree
  else s
/-- SHANK_DISAGREE (R508). -/
def execShankDisagree (aHigh bHigh : Bool) (s : State) : Host.Outcome State Fault Refusal := .next (s.disagree aHigh bHigh)

/-- The sample of both lines in the ending stitch (R506 to R508, R513): a low line cancels a claim that waits and ends a
release; lines that agree end an episode of disagreement. An unpaired unit ignores them (R502). -/
def State.shankSample (s : State) (a b : Bool) : State :=
  if !s.paired then s else s.modPair (fun q =>
    let active := q.role = .active
    let q := { q with
      aHigh := a, bHigh := b, disagree := q.disagree && a != b
      highRun := if !active && a && b then q.highRun + 1 else 0
      splitRun := if !active && q.role ≠ .claiming && a != b then q.splitRun + 1 else 0
      readA := if active && q.driveA && a then q.readA + 1 else 0
      readB := if active && q.driveB && b then q.readB + 1 else 0 }
    if a && b then q
    else { q with
      released := none
      claim := match q.claim with | some c => if c.stage = 0 then none else some c | none => none })

/-- A unit that became fit after r plans its claim from the stitch now running (R513). -/
def State.claimStep (s : State) : State :=
  if s.live && s.pair.released.isSome && s.pair.claim.isNone && (s.pair.role = .standby || s.pair.role = .starting) && s.fit then
    s.planClaim s.now
  else s
/-- A unit in STARTING that has handed over and finds a line low is STANDBY; a claim that waits falls with the unit's fitness, and
a unit that the boundary has made fit plans its claim (R503, R513). -/
def State.shankStep (s : State) : State :=
  let s := if s.pair.role = .starting && s.boot.stage = .running && !s.pair.strapConflict && !(s.pair.aHigh && s.pair.bHigh)
    then s.modPair (fun q => { q with role := .standby }) else s
  let s := if s.fit then s else s.modPair (fun q => { q with
    claim := match q.claim with | some c => if c.stage = 0 then none else some c | none => none })
  s.claimStep

/-- SNAPSHOT to the partner (R530, R534): 64 flags, 1,024 counters, the latest sequence. -/
def State.sendSnapshot (s : State) : State :=
  s.toPartner 0x05 ((List.range 64).flatMap (fun p => natBE 4 (s.flag p)) ++
    (List.range 1024).flatMap (fun k => natBE 4 (s.classCounter k)) ++ natBE 4 s.pair.mirrorSeq)

/-- A platform's custody as the new active unit takes it (R516 steps 2 to 4, R518): released when the latest STATE says so and the
own latches cover the boot set, and else held, its own fill job going on. What the latest STATE said is what the unit has
followed (R520). -/
def State.takePlat (s : State) (p : Nat) : State :=
  let v := s.plat p
  let ok := (v.state = .released || v.state = .running) && (s.bootSet p).all (fun x =>
    (s.latch (16 * p + x.entry)).latched || (v.excluded.testBit x.entry && s.entryFailed p x.entry))
  let s := s.modPlat p (fun t => { t with lease := none, act := none, bootStart := none, releaseDue := false })
  if ok then
    let ph := if v.phase = .update then Phase.runtime else v.phase
    let s := s.modPlat p (fun t => { t with hold := false, bootStart := if v.state = .running then some s.now else none })
    let s := (s.platRec p).welts.foldl (fun s n => s.modWelt n (fun w => { w with lent := false })) s
    s.setCustody p v.state ph 16
  else
    let s := (s.holdActs p .held 16).modPlat p (fun t => { t with fill := v.fill, writeback := none, recovery := none })
    s.setCustody p .held .held 16

/-- A defined eyelet at the boundary at which the unit becomes ACTIVE: its reset goes high, and it is taken in the mode that
shadowing has tracked (R135). -/
def State.eyeletTaken (s : State) (e : Nat) : State :=
  (s.modEye e (fun y => { y with
    phase := if y.phase = .inReset then .ready else y.phase, resetWhenIdle := false })).emit (.flashReset e false)

/-- The eyelets of a welt that is bound to no platform any more (R24): those that are not busy go into reset, the busy ones once
they are seen idle. One whose operation stands suspended is not busy (log entry 77). -/
def State.weltUnboundNow (s : State) (n : Nat) : State :=
  (List.range 8).foldl (fun s i =>
    let e := 8 * n + i
    if s.eyeBusy e then s.modEye e (fun y => { y with resetWhenIdle := true })
    else
      let s := s.modEye e (fun y => { y with phase := .inReset, suspended := [], idRead := false, idBad := false })
      if s.drives then s.emit (.flashReset e true) else s) s

/-- The role becomes ACTIVE at a boundary (R24, R516, R518): welts enabled, the eyelets of those no platform is bound to in reset,
holds and custody set, leases and activations of the
old unit ended, and the TAKEOVER record with the platforms held, as a mask. The new active unit sends its SNAPSHOT while the
partner path is up (log entry 37). -/
def State.takeoverNow (s : State) : State :=
  if s.pair.role ≠ .claiming then s
  else
    let s := s.modPair (fun q => { q with
      role := .active, claim := none, released := none, takeovers := satInc 255 q.takeovers, rejoin := [], rejoinOut := [] })
    let s := s.platNums.foldl State.takePlat s
    let s := match s.pat with
      | some t => t.eyelets.foldl (fun (s : State) (e : Nat × EyeletRec) => if (s.weltPlat (e.1 / 8)).isSome then s.eyeletTaken e.1 else s) s
      | none => s
    let s := ((List.range s.weltCount).filter (fun n => (s.weltPlat n).isNone)).foldl State.weltUnboundNow s
    let held := maskOf (s.platNums.filter (fun p => (s.plat p).hold))
    let s := s.eventInc 0x09 .device Code.takeover
      (natBE 1 s.pair.role.code ++ natBE 1 s.pair.partner.role ++ natBE 8 held)
    s.sendSnapshot

end Sys2Proof.Machine
end

