-- ==== Sys2Proof/Machine/Heel.lean ====
section
/-!
DEFINITION. The heel (chapter 13): the request ring and the custody, table, retirement and reset requests; the heel timer.
The requests about firmware, fuses, the shank and quiescence are in HeelBoot.lean.
-/
namespace Sys2Proof.Machine
open Sys2Proof

/-- The HEEL block changed. -/
def State.modHeel (s : State) (f : HeelSt → HeelSt) : State := { s with heel := f s.heel }

/-- A fatal fault, carried out over the two boundaries that follow (R622). -/
def State.fatalNow (s : State) (cause : Nat) : State :=
  if s.env.fatal.isSome then s else { s with env := { s.env with fatal := some (cause, 1) } }

/-! ### What an accepted pattern changes (R699) -/

/-- The presented devices of a list of welts. -/
def weltPds (ws : List Nat) : List Nat := ws.flatMap (fun n => [2 * n, 2 * n + 1])
/-- The pattern `new` changes platform `p` against `old` (R699); a platform only one of them defines is changed. -/
def patChanges (old : Option Pattern) (new : Pattern) (p : Nat) : Bool :=
  match old.bind (fun t => tfind t.plats p), tfind new.plats p with
  | none, none => false
  | some a, some b =>
    match old with
    | none => true
    | some o =>
      a.welts ≠ b.welts || a.lasts ≠ b.lasts || a.anchors ≠ b.anchors ||
      (weltPds b.welts).any (fun k => tfind o.pds k ≠ tfind new.pds k) ||
      (b.welts.flatMap (fun n => (List.range 8).map (fun i => 8 * n + i))).any (fun e =>
        tfind o.eyelets e ≠ tfind new.eyelets e)
  | _, _ => true
/-- The platforms an accepted pattern changes. -/
def State.changedPlats (s : State) : List Nat :=
  match s.patNext with
  | some t => (List.range 64).filter (patChanges s.pat t)
  | none => []

/-! ### The ring (R477 to R481) -/

/-- Entry `i` of the ring. -/
def State.ringAt (s : State) (i : Nat) : RingEntry := tget {} s.heel.ring i
/-- Entry `i` changed. -/
def State.modRing (s : State) (i : Nat) (f : RingEntry → RingEntry) : State :=
  s.modHeel (fun h => { h with ring := tmod {} h.ring i f })
/-- The heel may take the entry at HEAD in this stitch (R479). -/
def State.mayTake (s : State) : Bool := s.live && s.heel.head ≠ s.heel.tail && s.heel.taken < 8
/-- HEAD past the entry taken. -/
def State.advanceHead (s : State) : State :=
  s.modHeel (fun h => { h with head := (h.head + 1) % 64, taken := h.taken + 1 })
/-- STATUS, STITCH and STATE written (R477, R479). -/
def State.ringWrite (s : State) (i : Nat) (ok : Bool) (status stitch : Nat) : State :=
  s.modRing i (fun e => { e with state := if ok then 2 else 3, status := status, stitch := stitch })
/-- Request codes of R480. -/
def ringCodes : List Nat := (List.range 0x13).map (· + 1)

/-- The PHASE request of an UPDATE_OPEN has been refused: the host lease it took ends (R288). -/
def State.leaseRefused (s : State) (p number : Nat) : State :=
  s.modPlat p (fun t => { t with
    lease := match t.lease with | some l => if l.holder = .host && l.number = number then none else some l | none => none })
/-- The answer of a request that firmware posted for a VAMP command: the heel's STATUS when refused, the response once the
effect is in force when accepted (R309). -/
def State.ringOrigin (s : State) (e : RingEntry) (ok : Bool) (status : Nat) : State :=
  match e.origin with
  | none => if ok || e.lease = 0 then s else s.leaseRefused (fieldAt e.args 0 1) e.lease
  | some o =>
    if ok then s.later (.respond o Code.ok (fieldAt e.args 0 1))
    else
      let p := fieldAt e.args 0 1
      (s.leaseRefused p e.lease).answer o status

/-- Entries at HEAD that are no request at all are refused in passing (R481). -/
def State.ringFlush (s : State) : Nat → State
  | 0 => s
  | n + 1 =>
    let e := s.ringAt s.heel.head
    if s.mayTake && (e.state ≠ 1 || !ringCodes.contains e.req) then
      ((s.ringWrite s.heel.head false Code.heelRequestBad 0).advanceHead).ringFlush n
    else s

/-- The heel takes the entry at HEAD if it is the request `req` (R479): refused with `judge`'s code, or carried out. Of the
ARGS, the first `used` bytes may be other than 0. `immediate` requests take effect in the stitch taken. `after` tells whoever
posted it. -/
def State.heelTakeWith (s : State) (req used : Nat) (immediate : Bool) (judge : State → RingEntry → Option Nat)
    (effect : State → RingEntry → State) (after : State → RingEntry → Option Nat → State) : State :=
  let s := s.ringFlush 8
  let i := s.heel.head
  let e := s.ringAt i
  if !s.mayTake || e.req ≠ req || e.state ≠ 1 then s
  else
    let bad := if allZero (e.args.drop used) then judge s e else some Code.heelRequestBad
    match bad with
    | some c => after ((s.ringWrite i false c 0).advanceHead) e (some c)
    | none =>
      let s := (s.ringWrite i true Code.ok (if immediate then s.now else s.now + 1)).advanceHead
      after (effect s e) e none

/-- The usual request: judged and carried out on its ARGS, answered under R309. -/
def State.heelTake (s : State) (req used : Nat) (immediate : Bool) (judge : State → Bytes → Option Nat)
    (effect : State → Bytes → State) : State :=
  s.heelTakeWith req used immediate (fun s e => judge s e.args) (fun s e => effect s e.args)
    (fun s e r => match r with | some c => s.ringOrigin e false c | none => s.ringOrigin e true Code.ok)

/-- A heel request as a command. -/
def State.heelReq (s : State) (req used : Nat) (immediate : Bool) (judge : State → Bytes → Option Nat)
    (effect : State → Bytes → State) : Host.Outcome State Fault Refusal :=
  .next (s.heelTake req used immediate judge effect)

/-- A platform argument is within the variant and the pattern (R481). -/
def State.platArg (s : State) (p : Nat) : Bool := p < s.weltCount && (s.platRec? p).isSome
/-- The first of the refusals whose condition holds (R481). -/
def firstRefusal : List (Bool × Nat) → Option Nat
  | [] => none
  | (b, c) :: t => if b then some c else firstRefusal t

/-- A mirror page of the platform is LOST, now or from the next boundary (R215, R480). -/
def State.hasLost (s : State) (p : Nat) : Bool :=
  let r := s.platRuns p
  s.sole.pages.any (fun e => inRuns r e.1 && s.pageState e.1 = .lost) ||
    s.deferred.any (fun d => match d with | .page m .lost => inRuns r m | _ => false)

/-- HEEL_HOLD (R480 code 0x01): assertion under R279. -/
def execHeelHold (s : State) : Host.Outcome State Fault Refusal :=
  s.heelReq 0x01 2 false
    (fun s a =>
      let p := fieldAt a 0 1
      let r := fieldAt a 1 1
      let st := (s.ahead p).1
      firstRefusal [
        (!s.platArg p || r = 0 || 3 < r, Code.heelRequestBad),
        (r = 2 && !s.hasLost p || r = 3 && !s.changedPlats.contains p, Code.heelEvidenceMissing),
        (r = 1 && !(s.platRec p).adapterHold || r = 2 && !(s.platRec p).runtimeLossHold || st = .retired ||
          r = 2 && st ≠ .released && st ≠ .running, Code.phaseRefused)])
    (fun s a =>
      let p := fieldAt a 0 1
      let r := fieldAt a 1 1
      s.later (.hold p (if r = 2 then .recovering else .held) (if r = 1 then 12 else if r = 2 then 9 else 13)))

/-- RETIRE_PLATFORM (R480 code 0x02): hold and RETIRED. -/
def execRetirePlatform (s : State) : Host.Outcome State Fault Refusal :=
  s.heelReq 0x02 2 false
    (fun s a =>
      let p := fieldAt a 0 1
      let r := fieldAt a 1 1
      firstRefusal [
        (!s.platArg p || r = 0 || 2 < r, Code.heelRequestBad),
        (r = 2 && !(s.platRec p).welts.all (fun n => (s.welt n).retired || s.deferred.contains (.retireWelt n)), Code.heelEvidenceMissing),
        (r = 1 && !(s.platRec p).adapterHold, Code.phaseRefused)])
    (fun s a => s.later (.hold (fieldAt a 0 1) .retired (if fieldAt a 1 1 = 1 then 12 else 14)))

/-- PHASE (R480 code 0x03): a hold taken before it in the stitch makes it PHASE_REFUSED (R494). A host lease counts as free for the
request that the UPDATE_OPEN which took it posts (R288). -/
def execPhase (s : State) : Host.Outcome State Fault Refusal :=
  .next (s.heelTakeWith 0x03 2 false
    (fun s e =>
      let p := fieldAt e.args 0 1
      let n := fieldAt e.args 1 1
      let t := s.plat p
      let (st, ph) := s.ahead p
      let free := match t.lease with | none => true | some l => l.holder = .host && l.number = e.lease
      let evt := t.eventSeen
      firstRefusal [
        (!s.platArg p || n = 0 || 3 < n, Code.heelRequestBad),
        (st = .running && ph = .boot && n = 2 && !evt, Code.heelEvidenceMissing),
        (!(st = .running &&
          ((ph = .boot && n = 2) || (ph = .runtime && n = 3 && (s.platRec p).updateEn && free) || (ph = .update && n = 2))),
          Code.phaseRefused)])
    (fun s e =>
      let p := fieldAt e.args 0 1
      let ph := (s.ahead p).2
      if fieldAt e.args 1 1 = 3 then s.later (.phase p .update 12)
      else if ph = .boot then s.later (.phase p .runtime (s.plat p).runtimeCause)
      else s.later (.phase p .runtime 17))
    (fun s e r => match r with | some c => s.ringOrigin e false c | none => s.ringOrigin e true Code.ok))

/-- SLOT_MAP (R480 code 0x04). -/
def execSlotMap (s : State) : Host.Outcome State Fault Refusal :=
  s.heelReq 0x04 1 false
    (fun s a =>
      let p := fieldAt a 0 1
      firstRefusal [
        (!s.platArg p, Code.heelRequestBad),
        (!s.holdAhead p, Code.phaseRefused)])
    (fun s a => s.later (.slotMap (fieldAt a 0 1)))

/-- EXCLUDE (R280, R480 code 0x05). -/
def execExclude (s : State) : Host.Outcome State Fault Refusal :=
  s.heelReq 0x05 2 false
    (fun s a =>
      let p := fieldAt a 0 1
      let e := fieldAt a 1 1
      let r := s.platRec p
      firstRefusal [
        (!s.platArg p || !r.lasts.any (fun x => x.entry = e), Code.heelRequestBad),
        (!s.entryFailed p e || (r.cobblerEn && !(s.plat p).noSource.testBit e), Code.heelEvidenceMissing),
        (!r.runDegraded || !(s.bootSet p).any (fun x => x.entry = e), Code.phaseRefused)])
    (fun s a => s.later (.exclude (fieldAt a 0 1) (fieldAt a 1 1)))

/-- The mirror pages of an entry are all EMPTY (R197). -/
def State.entryEmpty (s : State) (x : LastEntry) : Bool :=
  match (s.lastSegment x).solePage with
  | some b => s.sole.pages.all (fun e => e.1 < b || b + (s.lastSegment x).pageCount ≤ e.1 || e.2.state = .empty)
  | none => true

/-- FILL_RUNNING (R34, R197, R480 code 0x06): for a platform that is VERIFIED, RELEASED or RUNNING (log entry 84). -/
def execFillRunning (s : State) : Host.Outcome State Fault Refusal :=
  s.heelReq 0x06 2 false
    (fun s a =>
      let p := fieldAt a 0 1
      let e := fieldAt a 1 1
      match (s.platRec p).lasts.find? (fun x => x.entry = e) with
      | none => some Code.heelRequestBad
      | some x => firstRefusal [
          (!s.platArg p, Code.heelRequestBad),
          (!s.entryEmpty x, Code.heelEvidenceMissing),
          (let st := (s.ahead p).1; st ≠ .verified && st ≠ .released && st ≠ .running, Code.phaseRefused)])
    (fun s a => s.later (.fillRunning (fieldAt a 0 1) (fieldAt a 1 1)))

/-- A ledger admitted the work (R573): staged lasts and fuse requests wait in the update queue without one. -/
def VJob.ledgered : VJob → Bool
  | .staged _ _ => false
  | .fuse _ => false
  | _ => true
/-- Ledger-admitted requests are outstanding (R78). -/
def State.ledgerBusy (s : State) : Bool :=
  decide (s.att.sts ≠ []) || decide (s.att.domains ≠ []) || s.vamp.jobs.any (fun j => j.2.2.ledgered)

/-- TABLE_SWITCH (R78, R179, R480 code 0x07): at the next boundary, or once the ledger is empty. The entry's STITCH is
written again by the switch (log entry 22). -/
def execTableSwitch (s : State) : Host.Outcome State Fault Refusal :=
  s.heelReq 0x07 0 false
    (fun s _ => firstRefusal [
        (s.patNext.isNone || s.click.checkFailed || s.stitch.checkFailed, Code.heelEvidenceMissing),
        (s.heel.switchAsked.isSome, Code.busy)])
    (fun s _ =>
      let s := s.modHeel (fun h => { h with switchAsked := some ((h.head + 63) % 64) })
      let s := { s with click := { s.click with switchPending := true }, stitch := { s.stitch with switchPending := true } }
      if s.ledgerBusy then s else s.later .tableSwitch)

/-- SCHEDULE_SWITCH (R78): the last request of the old schedule has completed, so the switch happens at the next boundary. -/
def execScheduleSwitch (s : State) : Host.Outcome State Fault Refusal :=
  if s.live && s.heel.switchAsked.isSome && !s.ledgerBusy && !s.deferred.contains .tableSwitch then .next (s.later .tableSwitch)
  else .next s

/-- The mirror page whose frame a RETIRE names, when its record is permanent (R213, R217). -/
def State.badFrame (s : State) (n : Nat) : Option Nat :=
  (s.chan (n / 2 ^ 29)).permanent.find? (fun m => s.frameOf m = n % 2 ^ 29)
/-- The unit is ACTIVE and its partner was fit in its latest heartbeat (R621). -/
def State.fitPartner (s : State) : Bool := s.pair.role = .active && !s.pair.partnerLost && s.pair.partner.flags.testBit 0

/-- The variant has welt `n` and the pattern binds it to a platform (R481). -/
def State.weltBound (s : State) (n : Nat) : Bool :=
  n < s.weltCount && (match s.pat with | some t => (patWeltPlat t n).isSome | none => false)
/-- RETIRE (R480 code 0x08, R621): kind 0 sole frame (channel in bits [31:29] of the number), 1 eyelet, 2 welt, 3 port. -/
def execRetire (s : State) : Host.Outcome State Fault Refusal :=
  s.heelReq 0x08 5 false
    (fun s a =>
      let k := fieldAt a 0 1
      let n := fieldAt a 1 4
      firstRefusal [
        (3 < k || (k = 0 && (s.chanCount ≤ n / 2 ^ 29 || 704512 ≤ n % 2 ^ 29)) || (k = 1 && (s.eyeRec? n).isNone) ||
          (k = 2 && !s.weltBound n) || (k = 3 && 4 ≤ n), Code.heelRequestBad),
        ((k = 0 && (s.badFrame n).isNone) || (k = 1 && !(s.fault 0 n).permanent) || (k = 2 && !(s.fault 1 n).permanent) ||
          (k = 3 && !(s.fault 3 n).permanent), Code.heelEvidenceMissing)])
    (fun s a =>
      let n := fieldAt a 1 4
      match fieldAt a 0 1 with
      | 0 => s.later (.retireFrame ((s.badFrame n).getD 0))
      | 1 => s.later (.retireEyelet n)
      | 2 => if s.fitPartner then s.fatalNow 5 else s.later (.retireWelt n)
      | _ => s.later (.retirePort n))

/-- MGMT_RESET (R480 code 0x09). -/
def execMgmtReset (s : State) : Host.Outcome State Fault Refusal :=
  s.heelReq 0x09 0 false (fun _ _ => none) (fun s _ => s.later (.mgmtReset 2))

/-- The heel grants a device reset on request: the unit is standby, or unpaired with every platform held, or in RESCUE. -/
def State.mayDeviceReset (s : State) : Bool :=
  s.pair.role = .standby || s.boot.stage = .rescue ||
    (s.pair.role = .unpaired && (List.range 64).all s.holdAhead)

/-- DEVICE_RESET (R480 code 0x0A). -/
def execDeviceReset (s : State) : Host.Outcome State Fault Refusal :=
  s.heelReq 0x0A 0 false (fun s _ => firstRefusal [(!s.mayDeviceReset, Code.phaseRefused)])
    (fun s _ => s.later .deviceReset)

/-- HEEL_RING_TAIL_WRITE (R478): anything but (TAIL + 1) mod 64 is ignored, a full ring counts in FULL, and CORE is stamped. -/
def execHeelRingTailWrite (core : Nat) (value : Word) (s : State) : Host.Outcome State Fault Refusal :=
  let n := (s.heel.tail + 1) % 64
  if !s.live || value.toNat ≠ n then .next s
  else if n = s.heel.head then .next (s.modHeel (fun h => { h with full := satInc 0xFFFF h.full }))
  else .next ((s.modRing s.heel.tail (fun e => { e with core := core })).modHeel (fun h => { h with tail := n }))

/-! ### The heel timer (R482 to R487) -/

/-- The offset of the stitch now running (R484). -/
def State.heelOffset (s : State) : Nat := s.now - s.heel.began
/-- The window opens (R484). -/
def State.heelOpen (s : State) : Nat := if s.heel.startup then 0 else ceilDiv (s.fuseK * s.heel.period) 16
/-- A period runs: the first one begins at the boundary after the timer starts (R484). -/
def State.heelRuns (s : State) : Bool := s.heel.began ≤ s.now
/-- The service window is open: from its offset to P − 1 (R484). -/
def State.windowOpen (s : State) : Bool := s.heelRuns && s.heelOpen ≤ s.heelOffset && s.heelOffset < s.heel.period
/-- A challenge drawn: never all zeros nor all ones (R486; log entry 23). -/
def State.drawChal (s : State) : State :=
  let (v, s) := s.draw
  let w : Word := v.setWidth 32
  s.modHeel (fun h => { h with chal := if w = 0 ∨ w = BitVec.allOnes 32 then 1 else w })

/-- The action of an expiry in the stitch now running (R487): 1 device reset before the first hand-over, 2 management reset, 3 shank
release and device reset. -/
def State.expiryAction (s : State) : Nat :=
  let h := s.heel
  let second := match h.armed with | some f => decide (s.now ≤ f + 10 * h.period) | none => false
  if !h.handedOver then 1 else if second then 3 else 2
/-- The action left for the next boundary (R487). -/
def State.expiryActs (s : State) (action : Nat) : State :=
  match action with
  | 1 => s.later .deviceReset
  | 2 => s.later (.mgmtReset 1)
  | _ => (s.later (.shankRelease true)).later .deviceReset

/-- An expiry of the stitch now running: counted, recorded, and what R487 does about it left for the boundary that follows, or,
while a fuse command programs, until its pulse pair is complete and its gate closed (R494). -/
def State.heelExpiry (s : State) (code : Nat) : State :=
  let h := s.heel
  let action := s.expiryAction
  let s := s.modHeel (fun h => { h with
    expired := some code, expiries := satInc 255 h.expiries
    early := if code = Code.heelServiceEarly then satInc 255 h.early else h.early
    bad := if code = Code.heelServiceBad then satInc 255 h.bad else h.bad
    escalations := if action = 2 then h.escalations else satInc 255 h.escalations
    expiredAt := if action = 2 then s.now else h.expiredAt })
  let s := s.eventInc 0x0B .device code (natBE 4 (s.now - h.began) ++ natBE 1 action)
  if s.fuse.job.isSome then
    { s.modHeel (fun h => { h with owed := some (max action (h.owed.getD 0)) }) with
      fuse := { s.fuse with job := s.fuse.job.map (fun j => { j with abort := some (j.abort.getD none) }) } }
  else s.expiryActs action

/-- HEEL_TIMER_SVC_WRITE (R485): accepted, or an early or bad service that makes the stitch's one expiry. Before the first period
begins a write has no offset to be judged at and does nothing (log entry 91). -/
def execHeelTimerSvcWrite (_core : Nat) (value : Word) (s : State) : Host.Outcome State Fault Refusal :=
  let h := s.heel
  if !s.live || h.expired.isSome || !s.heelRuns then .next s
  else if value ≠ ~~~h.chal then .next (s.heelExpiry Code.heelServiceBad)
  else if h.serviced || s.heelOffset < s.heelOpen then .next (s.heelExpiry Code.heelServiceEarly)
  else if s.windowOpen then .next (s.modHeel (fun h => { h with serviced := true }))
  else .next s

/-- The stitch now running lies at offset P − 1 and holds no accepted service and no expiry (R485). -/
def State.heelDue (s : State) : Bool :=
  s.live && !s.heel.serviced && s.heel.expired.isNone && s.heelRuns && s.heelOffset + 1 = s.heel.period
/-- HEEL_TIMER_EXPIRY (R485, R487): offset P − 1 with no accepted service. In a quiescent mode the end of the wake period
wakes the Larir and is no expiry (R492). -/
def execHeelTimerExpiry (s : State) : Host.Outcome State Fault Refusal :=
  if s.heelDue then .next (s.heelExpiry Code.heelTimerExpired) else .next s
/-- The same at the end of a stitch at offset P − 1 that has held no HEEL_TIMER_EXPIRY (R485). -/
def State.heelEnd (s : State) : State := if s.heelDue then s.heelExpiry Code.heelTimerExpired else s

/-- ARMED_SECOND_CLEAR (R487). -/
def execArmedSecondClear (s : State) : Host.Outcome State Fault Refusal :=
  match s.heel.armed with
  | some f =>
    if s.live && f + 10 * s.heel.period < s.now then .next (s.modHeel (fun h => { h with armed := none })) else .next s
  | none => .next s

/-- What the boundary does to the timer: after an accepted service or an expiry a new period and a new challenge begin, with
the period that waits (R483, R484). -/
def State.heelPeriod (s : State) : State :=
  if s.heel.serviced || s.heel.expired.isSome then
    (s.modHeel (fun h => { h with
      serviced := false, expired := none, began := s.now
      period := h.nextPeriod.getD h.period, nextPeriod := none })).drawChal
  else s

/-- Waiting firmware work enters the ring as room comes (R703). -/
def State.ringFill (s : State) : Nat → State
  | 0 => s
  | n + 1 =>
    match s.heel.waiting with
    | e :: es =>
      if s.ringRoom then
        (s.modHeel (fun h => { h with
          waiting := es, ring := tset {} h.ring h.tail e, tail := (h.tail + 1) % 64 })).ringFill n
      else s
    | [] => s

end Sys2Proof.Machine
end

