-- ==== Sys2Proof/Machine/Log.lean ====
section
/-!
DEFINITION. The log queue (R38, R70, R79, R627 to R630): the chained log in MRAM, its two head copies, EVENT frames, and what
LOG_DRAIN returns.
-/
namespace Sys2Proof.Machine
open Sys2Proof

/-- The two copies of the head (R629). -/
abbrev headA : Nat := 0x40050180
/-- The second copy. -/
abbrev headB : Nat := 0x400501C0
/-- Records the MRAM log holds (R629). -/
abbrev logSize : Nat := 98304
/-- Where record `n` stands (R629). -/
def logAddr (n : Nat) : Nat := 0x40100000 + 32 * ((n - 1) % logSize)

/-- A head copy whose CRC passes: sequence number and chain value. -/
def State.headCopy (s : State) (a : Nat) : Option (Nat × Digest) :=
  let b := s.bytes a 48
  if fieldAt b 40 4 = (Config.crc32 (b.take 40)).toNat then some (fieldAt b 0 8, digestOfBytes (bytesAt b 8 32)) else none
/-- The head: the passing copy with the higher sequence number; a blank MRAM gives H(0) (R628, R629). -/
def State.logHead (s : State) : Nat × Digest :=
  match s.headCopy headA, s.headCopy headB with
  | some a, some b => if a.1 < b.1 then b else a
  | some a, none => a
  | none, some b => b
  | none, none => (0, 0)
/-- The older copy, which the next record's head is written to. -/
def State.olderHead (s : State) : Nat :=
  match s.headCopy headA, s.headCopy headB with
  | some a, some b => if a.1 < b.1 then headA else headB
  | some _, none => headB
  | none, _ => headA

/-- One record chained and stored, the record first and then the older copy (R628, R629), to wait for its delivery
(R79); records the ring overwrites are never delivered. -/
def State.chain (s : State) (r : FifoRec) : State :=
  let (n, h) := s.logHead
  let m := n + 1
  let g := sm3 (digestBytes h ++ natBE 8 m ++ r.bytes)
  let at_ := s.olderHead
  let body := natBE 8 m ++ digestBytes g
  let s := s.setBytes (logAddr m) (r.bytes.take 32)
  let s := s.setBytes at_ (body ++ natBE 4 (Config.crc32 body).toNat ++ fill 4 0)
  let keep := s.log.deliver.filter (fun d => m < d.seq + logSize)
  let heads := (s.log.heads.filter (fun e => m ≤ e.1 + logSize)) ++ [(m, g)]
  { s with log := { s.log with deliver := keep ++ [{ seq := m, bound := r.bound }], heads := heads } }

/-- Up to `n` records taken off the FIFO in order and chained. -/
def State.chainFifo (s : State) : Nat → State
  | 0 => s
  | n + 1 =>
    match s.log.fifo with
    | [] => s
    | r :: rs => (({ s with log := { s.log with fifo := rs } } : State).chain r).chainFifo n
/-- Everything in the FIFO chained at once: the ROM's own records (R630) and the last records before a reset (R622). -/
def State.chainAll (s : State) : State := s.chainFifo s.log.fifo.length

/-- The LOST record once the FIFO is drained (R38). -/
def State.lostRecord (s : State) : State :=
  if s.log.lost = 0 || s.log.fifo ≠ [] then s
  else
    let n := s.log.lost
    ({ s with log := { s.log with lost := 0 } } : State).event 0x0F .device Code.logRecordsLost (natBE 4 (min n 0xFFFFFFFF))

/-- Records delivered unbound and not yet acknowledged. -/
def LogSt.unboundOut (l : LogSt) : Nat := (l.deliver.filter (fun d => !d.bound && d.sent)).length

/-- The next run of undelivered records: bound ones, then unbound ones while the link is up and the queue has room (R79, R557);
consecutive, at most 32. Which of the two goes first, and that an unbound record on its way takes room, is the model's choice
(log entry 80). -/
def State.nextRun (s : State) : List Deliver :=
  let want := fun b : Bool => s.log.deliver.filter (fun d => d.bound == b && !d.sent)
  let bound := want true
  let room := 32 - s.boundCount - s.log.unboundOut
  let pick := if bound ≠ [] then bound.take 32 else if s.vamp.up then (want false).take room else []
  match pick with
  | [] => []
  | d :: _ => (pick.zipIdx.filter (fun x : Deliver × Nat => x.1.seq = d.seq + x.2)).map Prod.fst

/-- One EVENT frame on channel 0 (R559, R574): FIRST, COUNT with its UNBOUND bit, the records. -/
def State.eventFrame (s : State) (run : List Deliver) : State :=
  match run with
  | [] => s
  | d :: _ =>
    let seqs := run.map (·.seq)
    let recs := seqs.flatMap (fun n => s.bytes (logAddr n) 32)
    let body := natBE 8 d.seq ++ natBE 4 (run.length + 256 * b2n (!d.bound)) ++ fill 4 0 ++ recs
    let s := { s with
      log := { s.log with deliver := s.log.deliver.map (fun x : Deliver => if seqs.contains x.seq then { x with sent := true } else x) }
      stitch := { s.stitch with
        unboundCount := if d.bound then s.stitch.unboundCount else satAdd 0xFFFF s.stitch.unboundCount run.length } }
    let s := (seqs.foldl (fun s n => s.emit (.event n d.bound (s.bytes (logAddr n) 32))) s)
    s.queueFrame 0 false true seqs none (envelope 0x0021 0 0 false 0 ++ body)

/-- The runs that may leave now. -/
def State.deliverRuns (s : State) : Nat → State
  | 0 => s
  | n + 1 => match s.nextRun with
    | [] => s
    | run => (s.eventFrame run).deliverRuns n

/-- One granted stitch of the log queue (R70): up to 32 records chained and stored, the lost count after them, and delivery
over a link that is up. -/
def State.logQueue (s : State) : State :=
  let s := (s.chainFifo 32).lostRecord
  if s.vamp.trained then s.deliverRuns 32 else s

/-- The log queue runs in this stitch: under LOG_GRANT, or in every stitch while no schedule is in force (R70, R602); not from a
management reset to the hand-over after it, when the records stay in the FIFO (R38). -/
def State.logGranted (s : State) : Bool :=
  s.boot.stage ≠ .warm && (match s.row? with | some r => rowLog r | none => true)

/-- The chain value before record `n`: H(n − 1) (R574, R628); an open value where the model holds none (log entry 24). -/
def State.chainBefore (s : State) (n : Nat) : Digest × State :=
  let (h, v) := s.logHead
  if n ≤ 1 then (0, s) else if h < n then (v, s)
  else match tfind s.log.heads (n - 1) with
    | some d => (d, s)
    | none => s.draw

end Sys2Proof.Machine
end

