-- ==== Sys2Proof/Machine/Boot.lean ====
section
/-!
DEFINITION. Start-up (chapter 12, R437 to R451, R455, R456; R657 to R659): the directory, firmware images, BOOT_STATE, slot
choice, copy, the start of the device and of the management domain.
-/
namespace Sys2Proof.Machine
open Sys2Proof

/-! ### Pattern memory (R437) -/

/-- Bytes of pattern memory; a blank byte reads all-ones. -/
def State.pmBytes (s : State) (a n : Nat) : Bytes := Memory.readN 0xFF s.pm a n
/-- Bytes of pattern memory written. -/
def State.pmWrite (s : State) (a : Nat) (b : Bytes) : State := { s with pm := Memory.writeN 0xFF s.pm a b }
/-- Base of a firmware slot, 0 A and 1 B. -/
def fwSlotBase (k : Nat) : Nat := if k = 0 then 0x1000 else 0x1001000
/-- Firmware staging. -/
abbrev fwStaging : Nat := 0x2001000
/-- Base of a pattern slot. -/
def patSlotBase (k : Nat) : Nat := if k = 0 then 0x3001000 else 0x3801000
/-- Pattern staging. -/
abbrev patStaging : Nat := 0x4001000
/-- The certificate store. -/
abbrev certStore : Nat := 0x4801000

/-- The directory passes R440. -/
def dirOk (d : Bytes) : Bool :=
  fieldAt d 0 4 = 0x54444952 && fieldAt d 4 2 = 1 && fieldAt d 4092 4 = (Config.crc32 (d.take 4092)).toNat &&
  fieldAt d 6 1 ≤ 2 && (fieldAt d 6 1 = 0 || (1 ≤ fieldAt d 7 1 && fieldAt d 7 1 ≤ 31)) && fieldAt d 8 1 ≤ 4
/-- INIT command `i` of the directory. -/
def dirInit (d : Bytes) (i : Nat) : Bytes := bytesAt d (13 + 8 * i) (min 7 (fieldAt d (12 + 8 * i) 1))

/-- A BOOT record (R627): slot and the low half of UPDATE_SEQUENCE. -/
def State.bootRecord (s : State) (code : Nat) : State :=
  s.event 0x0D .device code (natBE 1 s.boot.slot ++ natBE 4 (fieldAt s.boot.header 20 4))

/-- The directory read, and the pattern port's mode (R440). -/
def State.readDirectory (s : State) : State :=
  let d := s.pmBytes 0 4096
  if dirOk d then
    let s := { s with boot := { s.boot with mode := fieldAt d 6 1, dummy := fieldAt d 7 1 } }
    (List.range (fieldAt d 8 1)).foldl (fun s i => s.emit (.patPort (dirInit d i))) s
  else ({ s with boot := { s.boot with mode := 0, dummy := 0 } } : State).bootRecord Code.directoryBad

/-! ### Firmware images (R441 to R443) -/

/-- UPDATE_SEQUENCE of a firmware header. -/
def fwSequence (h : Bytes) : Nat := fieldAt h 16 8
/-- SECURITY_VERSION of a firmware header. -/
def fwVersion (h : Bytes) : Nat := fieldAt h 8 4
/-- FLOOR of a firmware header. -/
def fwFloor (h : Bytes) : Nat := fieldAt h 12 2
/-- BODY_LEN of a firmware header. -/
def fwBodyLen (h : Bytes) : Nat := fieldAt h 24 4

/-- The fields of a firmware header are as R441 requires. -/
def fwFieldsOk (h : Bytes) : Bool :=
  fieldAt h 0 4 = 0x544B4657 && fieldAt h 4 2 = 1 && fieldAt h 6 2 = 0x180 &&
  fwFloor h ≤ 256 && fwFloor h ≤ fwVersion h && fieldAt h 14 2 = 0 && fwSequence h ≠ 0 &&
  4096 ≤ fwBodyLen h && fwBodyLen h ≤ 3145728 && fwBodyLen h % 4096 = 0 &&
  4096 ≤ fieldAt h 28 4 && fieldAt h 28 4 ≤ fwBodyLen h && fieldAt h 28 4 % 4096 = 0 &&
  fieldAt h 32 4 % 4 = 0 && fieldAt h 32 4 < fieldAt h 28 4 && fieldAt h 36 4 ≠ 0 && allZero (bytesAt h 136 184)

/-- The header of the image at a base. -/
def State.fwHeader (s : State) (base : Nat) : Bytes := s.pmBytes base 384
/-- The body of the image at a base. -/
def State.fwBody (s : State) (base : Nat) : Bytes := s.pmBytes (base + 65536) (fwBodyLen (s.fwHeader base))

/-- The checks of R442 in order: the code of the first that fails. -/
def State.imageFails (s : State) (base : Nat) : Option Nat :=
  let h := s.fwHeader base
  if !fwFieldsOk h || !(s.pmBytes (base + 384) 65152).all (· == 0xFF) then some Code.fwImageBad
  else if (s.fwKeyOf (hdrKey h)).isNone then some Code.fwImageBad
  else if !sm2Ok (hdrKey h) (h.take 320) (hdrSig h) then some Code.fwImageBad
  else if fwVersion h < s.arbCount then some Code.fwRollback
  else if sm3 (s.fwBody base) ≠ digestOfBytes (bytesAt h 40 32) then some Code.fwImageBad
  else none

/-! ### BOOT_STATE (R444) -/

/-- CONF_SLOT. -/
def confSlot (w : Nat) : Nat := w % 2
/-- CONF_VALID. -/
def confValid (w : Nat) : Bool := w.testBit 1
/-- TRIAL_SLOT. -/
def trialSlot (w : Nat) : Nat := bitsOf w 3 3
/-- SET_COMMITTED. -/
def setCommitted (w : Nat) : Nat := bitsOf w 9 8
/-- SET_TRIAL. -/
def setTrial (w : Nat) : Nat := bitsOf w 11 10
/-- Bits `hi` to `lo` of a word replaced by `v`. -/
def setBits (w hi lo v : Nat) : Nat := w - (bitsOf w hi lo) * 2 ^ lo + (v % 2 ^ (hi + 1 - lo)) * 2 ^ lo

/-- A trial ends without confirmation (R447 step 1). -/
def State.trialFallback (s : State) : State :=
  let w := s.bootState
  let w := setBits (setBits (setBits w 2 2 0) (4 + trialSlot s.bootState) (4 + trialSlot s.bootState) 1) 11 10 0
  (s.setBootState w).bootRecord Code.trialFallback

/-- The settings area writable to the cores (R463). -/
def State.writableArea (s : State) : Nat :=
  let w := s.bootState
  let c := setCommitted w
  let next := if c = 0 then 1 else c % 3 + 1
  if s.trial && setTrial w ≠ 0 then
    ([1, 2, 3].find? (fun k => k ≠ c && k ≠ setTrial w)).getD 1
  else next

/-! ### The pattern flag and the copy journal (R456, R465) -/

/-- The pattern flag (R465). -/
abbrev patFlagAddr : Nat := 0x40050104
/-- PATTERN_FLOOR (R465). -/
abbrev patFloorAddr : Nat := 0x40050108
/-- The pattern flag. -/
def State.patFlag (s : State) : Nat := s.word patFlagAddr
/-- PATTERN_FLOOR. -/
def State.patFloor (s : State) : Nat := beNat (s.bytes patFloorAddr 8)

/-- The copy journal. -/
abbrev copyJournalAddr : Nat := 0x40050120
/-- The journal is open. -/
def State.copyOpen (s : State) : Bool := s.bytes copyJournalAddr 1 = [0xA5]
/-- TARGET. -/
def State.copyTarget (s : State) : Nat := fieldAt (s.bytes copyJournalAddr 32) 1 1
/-- UNITS. -/
def State.copyUnits (s : State) : Nat := fieldAt (s.bytes copyJournalAddr 32) 4 2
/-- NEXT. -/
def State.copyNext (s : State) : Nat := fieldAt (s.bytes copyJournalAddr 32) 6 2
/-- The journal opened, VALID last (R456). -/
def State.openCopy (s : State) (target units next seq : Nat) : State :=
  let b := natBE 1 target ++ natBE 2 0 ++ natBE 2 units ++ natBE 2 next ++ natBE 8 seq ++ natBE 8 s.now ++ natBE 8 s.now
  (s.setBytes (copyJournalAddr + 1) b).setBytes copyJournalAddr [0xA5]
/-- NEXT advanced. -/
def State.advanceCopy (s : State) (next : Nat) : State :=
  (s.setBytes (copyJournalAddr + 6) (natBE 2 next)).setBytes (copyJournalAddr + 24) (natBE 8 s.now)
/-- The journal closed, VALID first (R456). -/
def State.closeCopy (s : State) : State :=
  if s.copyOpen then (s.setBytes copyJournalAddr [0]).setBytes (copyJournalAddr + 24) (natBE 8 s.now) else s
/-- Sixteen 4 KiB erases of the unit at `a`, each after write enable (R437, R438). -/
def unitErases (a : Nat) : List Output :=
  (List.range 16).flatMap (fun i => [.patPort [0x06], .patPort (0x21 :: natBE 4 (a + 4096 * i))])
/-- Its 256 programs of 256 bytes, each after write enable (R437, R438). -/
def unitPrograms (a : Nat) (b : Bytes) : List Output :=
  (List.range 256).flatMap (fun i => [.patPort [0x06], .patPort (0x12 :: (natBE 4 (a + 256 * i) ++ bytesAt b (256 * i) 256))])
/-- One 64 KiB unit of pattern memory written: erased, then programmed; what `b` does not reach stays erased (R438). -/
def State.writeUnit (s : State) (a : Nat) (b : Bytes) : State :=
  let b := Machine.fit 65536 0xFF b
  { s.pmWrite a b with out := s.out ++ unitErases a ++ unitPrograms a b }
/-- One 64 KiB unit erased (R438, R468). -/
def State.eraseUnit (s : State) (a : Nat) : State := { s.pmWrite a (ones 65536) with out := s.out ++ unitErases a }
/-- One 64 KiB unit copied within pattern memory (R438). -/
def State.copyUnit (s : State) (src dst u : Nat) : State := s.writeUnit (dst + 65536 * u) (s.pmBytes (src + 65536 * u) 65536)

/-! ### The journal of the staging leases (R38, R290, R307; layout: log entry 5) -/

/-- The record of platform `p`'s lease. -/
def leaseJournalAddr (p : Nat) : Nat := 0x40055000 + 64 * p
/-- Its bytes for a lease: VALID, holder, purpose, whether what is staged is being written back or has been committed, mask, two
zeros, length, number, stitch of the last data, eight zeros, the holder's adapter key. -/
def PlatSt.leaseBytes (t : PlatSt) (l : Lease) : Bytes :=
  let used := (match t.cob with | some j => j.writeback | none => false) ||
    (match t.act with | some a => a.writeback && a.committed | none => false)
  let key : Digest := match l.holder with | .session k => k | .host => 0
  natBE 1 0xA5 ++ natBE 1 (if l.holder = .host then 1 else 2) ++ natBE 1 (if l.purpose = .slot then 0 else 1) ++
    natBE 1 (b2n used) ++ natBE 2 l.mask ++ natBE 2 0 ++ natBE 4 l.length ++ natBE 4 l.number ++ natBE 8 l.lastData ++
    natBE 8 0 ++ digestBytes key
/-- The record of a FIRMWARE, PATTERN or CERTS lease, 1 to 3 (R46, R452, R453). -/
def targetJournalAddr (t : Nat) : Nat := 0x40056000 + 64 * t
/-- Its bytes: VALID, target, two zeros, number, length, 64 KiB units written, stitch of the last data, eight zeros, adapter key. -/
def TargetLease.bytes (l : TargetLease) (t : Nat) : Bytes :=
  natBE 1 0xA5 ++ natBE 1 t ++ natBE 2 0 ++ natBE 4 l.number ++ natBE 4 l.length ++
    natBE 4 (ceilDiv (l.next - l.buf.length) 65536) ++ natBE 8 l.lastData ++ natBE 8 0 ++ digestBytes l.key
/-- The records of the three target leases kept as the leases stand. -/
def State.journalTarget (s : State) (x : Nat × Option TargetLease) : State :=
  match x.2 with
  | some l =>
    let b := l.bytes x.1
    if s.bytes (targetJournalAddr x.1) 64 = b then s else s.setBytes (targetJournalAddr x.1) b
  | none => if s.bytes (targetJournalAddr x.1) 1 = [0xA5] then s.setBytes (targetJournalAddr x.1) [0] else s
/-- The record kept as the lease stands, written where it differs. -/
def State.journalLease (s : State) (p : Nat) : State :=
  match (s.plat p).lease with
  | some l =>
    let b := (s.plat p).leaseBytes l
    if s.bytes (leaseJournalAddr p) 64 = b then s else s.setBytes (leaseJournalAddr p) b
  | none => if s.bytes (leaseJournalAddr p) 1 = [0xA5] then s.setBytes (leaseJournalAddr p) [0] else s
/-- A lease as the start after a power loss or a device reset finds it (R307): a VAMP lease is kept with its bundle lost, and
takes a fresh key; a host lease, and one whose bundle was being written back, have ended. -/
def State.restoreLease (s : State) (p : Nat) : State :=
  let b := s.bytes (leaseJournalAddr p) 64
  if fieldAt b 0 1 = 0xA5 && fieldAt b 1 1 = 2 && fieldAt b 3 1 = 0 then
    let (v, s) := s.draw
    let l : Lease := {
      holder := .session (digestOfBytes (bytesAt b 32 32)), purpose := if fieldAt b 2 1 = 0 then .slot else .recovery
      mask := fieldAt b 4 2, length := fieldAt b 8 4, number := fieldAt b 12 4, key := v.setWidth 128
      lastData := min (fieldAt b 16 8) s.now }
    { s.modPlat p (fun t => { t with lease := some l }) with
      boot := { s.boot with leaseSeq := max s.boot.leaseSeq l.number } }
  else s

/-! ### Slot choice (R447, R450) -/

/-- The slot may be chosen: not rejected, and its image good. -/
def State.slotGood (s : State) (k : Nat) : Bool := !s.bootState.testBit (4 + k) && (s.imageFails (fwSlotBase k)).isNone
/-- The good slot with the higher sequence, A on a tie (R447 step 4). -/
def State.bestSlot (s : State) : Option Nat :=
  match s.slotGood 0, s.slotGood 1 with
  | true, true => if fwSequence (s.fwHeader (fwSlotBase 0)) < fwSequence (s.fwHeader (fwSlotBase 1)) then some 1 else some 0
  | true, false => some 0
  | false, true => some 1
  | false, false => none
/-- The body of a slot loaded into core SRAM at 0x1000_0000 (R447). -/
def State.loadBody (s : State) (k : Nat) : State := s.setBytes 0x10000000 (s.fwBody (fwSlotBase k))
/-- Steps 3 to 5 of R447: a slot is chosen and its body loaded, or the ROM enters RESCUE. -/
def State.chooseSlot (s : State) : State :=
  match s.bestSlot with
  | some k =>
    let s := s.loadBody k
    { s with boot := { s.boot with stage := .chosen, slot := k, header := s.fwHeader (fwSlotBase k) } }
  | none => { s with boot := { s.boot with stage := .rescue } }

/-- MC0's part of a start from the fuse load on (R447, R455): fallback, copy if one is due, slot choice. A wake leaves a trial
as it is (R493; log entry 26); a firmware copy waits while a pattern or certificate copy has the journal (R456; log entry 86). -/
def State.romChoice (s : State) (wake : Bool) : State :=
  let s := if s.trial && !wake then s.trialFallback else s
  let w := s.bootState
  if !w.testBit 6 || (s.copyOpen && 2 ≤ s.copyTarget) then s.chooseSlot
  else if (s.imageFails fwStaging).isSome then
    (s.closeCopy.setBootState (setBits w 6 6 0)).chooseSlot
  else
    let h := s.fwHeader fwStaging
    let s := if s.copyOpen then s
      else
        let t := if confValid w then 1 - confSlot w else 1
        let s := s.openCopy t (ceilDiv (65536 + fwBodyLen h) 65536) 0 (fwSequence h)
        s.setBootState (setBits w (4 + t) (4 + t) 0)
    { s with boot := { s.boot with stage := .copying } }

/-- The ROM services the heel timer, whose window is open through the whole start-up period (R455, R484). -/
def State.romService (s : State) : State :=
  let h := s.heel
  if h.startup && h.began ≤ s.now && s.now - h.began < h.period && h.expired.isNone && !h.serviced then
    s.modHeel (fun h => { h with serviced := true })
  else s
/-- FIRMWARE_COPY_UNIT (R455): the heel timer serviced, one unit written, NEXT advanced; after the last the journal closes,
STAGED_READY goes, and the slot is chosen. -/
def execFirmwareCopyUnit (s : State) : Host.Outcome State Fault Refusal :=
  if !s.live || s.boot.stage ≠ .copying || !s.copyOpen || 2 ≤ s.copyTarget then .next s
  else
    let u := s.copyNext
    let s := s.romService
    let s := if u < s.copyUnits then (s.copyUnit fwStaging (fwSlotBase s.copyTarget) u).advanceCopy (u + 1) else s
    if u + 1 < s.copyUnits then .next s
    else
      let s := s.closeCopy
      .next ((s.setBootState (setBits s.bootState 6 6 0)).chooseSlot)

/-! ### The start of the device (R445, R622, R623, R657 to R659) -/

/-- The variant of the fuses (R2, R3). -/
def State.fuseVariant (s : State) : Variant :=
  match bitsOf (s.loose 9) 1 0 with | 0 => .tkl5120 | 1 => .tkl2560 | _ => .tkl1280

/-- The three latest fatal-fault resets lie within 60,000,000 stitches (R623). -/
def State.fatalThrice (s : State) : Bool :=
  let at_ := fun i => fieldAt (s.bytes fatalStitchesAddr 24) (8 * i) 8
  3 ≤ s.word fatalsAddr && at_ 2 < at_ 0 + 60000000
/-- A fatal-fault reset counted in MRAM with its stitch (R623, R635). -/
def State.countFatal (s : State) (cause : Nat) : State :=
  let old := s.bytes (fatalStitchesAddr + 8) 16
  let s := s.setBytes fatalStitchesAddr (if 2 ≤ s.word fatalsAddr then old ++ natBE 8 s.now
    else s.bytes fatalStitchesAddr (8 * s.word fatalsAddr) ++ natBE 8 s.now)
  (s.setWord fatalCauseAddr cause).setWord fatalsAddr (satInc 255 (s.word fatalsAddr))

/-- What survives into a start, everything else being as State.reset has it: the always-on domain, MRAM, the key store,
pattern memory, the fuses, what has left the block and the queue. Counts run on where their registers count since cold
power-on (R90, R91, R188, R233, R247, R268, R378, R499, R500, R546, R680). -/
def State.survivors (s : State) (cold : Bool) : State :=
  let keep : State := {
    stitch := {
      count := s.stitch.count
      ovrCount := s.stitch.ovrCount
      ovrSource := s.stitch.ovrSource
      ovrAt := s.stitch.ovrAt
      ovrTimes := s.stitch.ovrTimes
      busyCount := s.stitch.busyCount
      unboundCount := s.stitch.unboundCount }
    plats := tmapAll {} s.plats (fun _ t => { releases := t.releases })
    click := { switches := s.click.switches, records := s.click.records }
    sole := {
      persistDropped := s.sole.persistDropped
      hotNext := if [24, 25, 26, 27].any (fun i => decide (2384 < tget 0 s.env.latest i)) then some true else none }
    env := {
      latest := s.env.latest
      due := s.env.due
      compareFaults := s.env.compareFaults
      faults := tmapAll {} s.env.faults (fun _ f => { total := f.total }) }
    heel := {
      expiries := s.heel.expiries
      early := s.heel.early
      bad := s.heel.bad
      escalations := s.heel.escalations
      entries := s.heel.entries }
    pair := { takeovers := s.pair.takeovers }
    keys := { commits := s.keys.commits, aborts := s.keys.aborts }
    frz := { debug := s.frz.debug, coreDebug := s.frz.coreDebug, ignored := s.frz.ignored }
    pwr := { mainLosses := s.pwr.mainLosses, wakeFails := s.pwr.wakeFails, wakeFailed := s.pwr.wakeFailed } }
  let k : State := if cold then {} else keep
  { k with
    mem := s.mem.filter (fun e => 0x40000000 ≤ e.1)
    pm := s.pm
    out := s.out
    fresh := s.fresh
    pending := s.pending
    log := { deliver := s.log.deliver.map (fun d => { d with bound := false, sent := false }), heads := s.log.heads }
    fuse := { otp := s.fuse.otp, vfprog := if cold then 0 else s.fuse.vfprog }
    keys := { k.keys with store := s.keys.store }
    pwr := { k.pwr with bankMv := s.pwr.bankMv, straps := s.pwr.straps } }

/-- The straps read (R501, R502). -/
def State.readStraps (s : State) : State :=
  let (u, pe, dp) := s.pwr.straps
  let bad := (!pe && dp ≠ 0) || (pe && 2 * (dp + 1) ≤ u)
  let s := s.modPair (fun q => { q with
    unitId := u, pairEn := pe, domainPairs := dp, strapConflict := bad, role := if pe then .starting else .unpaired })
  if bad then s.pairRecord .device Code.strapConflict else s

/-- A bank reads near 1.8 V, near 1.2 V, or neither (R659). -/
def bank1v2 (mv : Nat) : Bool := 1140 ≤ mv && mv ≤ 1260
/-- A BAD bank. -/
def bankBad (mv : Nat) : Bool := !(1710 ≤ mv && mv ≤ 1890) && !bank1v2 mv
/-- The welt banks measured (R659): each BAD bank is reported as an ENV record of its glitch detector, and its welts are
retired until the next device start. -/
def State.measureBanks (s : State) : State :=
  let v := fun i => s.pwr.bankMv.getD i 0
  let idx := List.range 8
  let bad := idx.filter (fun i => bankBad (v i))
  let s := { s with pwr := { s.pwr with
      host1v2 := maskOf ((List.range 4).filter (fun q => bank1v2 (v q)))
      flash1v2 := maskOf ((List.range 4).filter (fun q => bank1v2 (v (4 + q)))), bankBad := maskOf bad } }
  let s := bad.foldl (fun s i => s.eventInc 0x02 (.sensor (16 + i)) Code.ioBankVoltageBad (natBE 2 (v i) ++ natBE 1 (16 + i))) s
  let welts := (List.range s.weltCount).filter (fun n => bad.any (fun i => i % 4 = weltQuarter n))
  welts.foldl (fun s n => (s.modWelt n (fun w => { w with retired := true })).eventInc 0x04 (.welt n) Code.channelRetired
    (natBE 1 2 ++ natBE 1 0xFF)) s

/-- HC starts the heel timer in stitch 1 (R482, R484): the period begins at the boundary after. -/
def State.startTimer (s : State) : State :=
  (s.modHeel (fun h => { h with began := s.now + 2, armed := none, serviced := false, expired := none })).drawChal

/-- Trips latched while the main domain could not act are logged at the start and the level in force at the trip is carried
out on the fresh state (R640, R662): CLEARED, and SCUTTLE through SCUTTLE_PENDING. -/
def State.lateTrips (s : State) : State :=
  let due := s.env.due
  let s := { s with env := { s.env with due := [] } }
  let s := due.foldl (fun s d => s.eventInc 0x01 (.sensor d.1)
    (if d.2.2 = 0 then Code.tamperLogged else if d.2.2 = 1 then Code.tamperClear else Code.scuttlePending)
    (natBE 2 d.2.1 ++ natBE 1 d.2.2 ++ natBE 1 s.lifecycle)) s
  let top : Nat := due.foldl (fun m d => max m d.2.2) 0
  let s := if 1 ≤ top then { s with env := { s.env with cleared := true, levelDone := Level.ofCode top } } else s
  if 3 ≤ top && s.lifecycle = 2 then s.setWord tamperWordAddr 1 else s

/-- The rest of a start once MC1 has the fuses: an invalid bank 1 stops it (R418), a pending scuttle comes before anything else
(R617), else the slot is chosen. -/
def State.afterFuses (s : State) (wake : Bool) : State :=
  if s.fuseInvalid 1 then { s with boot := { s.boot with stage := .stopped } }
  else if s.scuttlePending then { s with boot := { s.boot with stage := .rom } }
  else s.romChoice wake

/-- DEVICE_START (R445): the heel holds every platform and starts the timer, the straps and the banks are read, MC1 loads the
fuses, MC0 reads the directory and chooses the firmware; the ROM chains its own records (R630). -/
def State.deviceStart (s : State) (wake : Bool := false) : State :=
  let s := s.fuseLoad
  let s := { s with
    sys := { s.sys with variant := s.fuseVariant
                        variantMarginal := bitsOf (s.shadow 9).tight 1 0 ≠ bitsOf (s.shadow 9).loose 1 0 }
    boot := { s.boot with began := s.now } }
  let s := ((s.readStraps).measureBanks).startTimer
  let s := s.lateTrips
  (s.readDirectory.afterFuses wake).chainAll

/-- A start after cold power-on or device reset: the boot count rises (R387), a freeze that preceded is recorded (R641), and
FATAL_REPEAT is found (R623). -/
def State.restart (s : State) (cold : Bool) : State :=
  let frozen := s.frz.frozen || s.frz.entering.isSome
  let at_ := beNat (s.bytes freezeStitchAddr 8)
  let s := s.fuseCut.survivors cold
  let s := if cold then (s.setWord fatalsAddr 0).setWord freezesAddr 0 else s
  let s := s.setWord bootCountAddr (satInc 0xFFFFFFFF (s.word bootCountAddr))
  let s := if frozen then s.push (mkRecord 0x0D .device Code.freezeEntered 0 [] at_) else s
  let s := (List.range 64).foldl State.restoreLease s.deviceStart
  if s.fatalThrice then
    let s := { s with env := { s.env with fatalRepeat := true } }
    (s.bootRecord Code.fatalRepeat).chainAll
  else s

/-- A device reset (R29, R38, R227, R373): the log's last records are chained first (log entry 25). -/
def State.deviceResetNow (s : State) : State := s.chainAll.restart false

/-- COLD_POWER_ON (R657): every domain, the always-on domain included; the stitch counter and the debug latch clear. -/
def execColdPowerOn (straps : Straps) (s : State) : Host.Outcome State Fault Refusal :=
  let s := { s with pwr := { s.pwr with
    bankMv := straps.banks, straps := (straps.unitId.val, straps.pairEn, straps.domainPairs.val) } }
  .next (s.restart true)

/-- ROOT_UNWRAP (R446): MC1 unwraps the selected root, checks it, derives slots 0 to 4 and scans the key store; volatile slots and
epoch keys kept over a quiescent mode come back (R227, R373). A root that fails ROOT_CHECK is an invalid bank 1. -/
def execRootUnwrap (s : State) : Host.Outcome State Fault Refusal :=
  if !s.live || s.boot.rootDone || s.boot.stage = .stopped || s.boot.stage = .running || s.boot.stage = .warm ||
      s.scuttlePending || s.env.cleared then .next s
  else if !s.rootChecks s.rootCodeNow then
    .next (({ s with boot := { s.boot with stage := .stopped } } : State).event 0x0C (.fuse 505) Code.fuseBankIncomplete)
  else
    let s := s.deriveSlots.keyScan.unwrapKeys
    .next { s with boot := { s.boot with rootDone := true } }

/-- The protection set and locked, and MGMT_UP (R449); awl 15 serves its welts from now on (R28). -/
def State.goUp (s : State) (warm : Bool) : State :=
  { s with
    bootLoad := false
    sys := { s.sys with mgmtUp := true }
    boot := { s.boot with stage := .running, warm := warm, writable := s.writableArea } }

/-- HAND_OVER (R448, R449, R457): firmware not yet confirmed runs on trial, the trial deadline is set, and the raises of flags
with RAISE_PENDING are owed before the first fill (R296). After a third fatal reset the ROM enters RESCUE instead (R623). -/
def execHandOver (s : State) : Host.Outcome State Fault Refusal :=
  if !s.live || s.boot.stage ≠ .chosen || !(s.boot.rootDone || s.env.cleared) then .next s
  else if s.env.fatalRepeat then .next { s with boot := { s.boot with stage := .rescue } }
  else
    let w := s.bootState
    let k := s.boot.slot
    let onTrial := (confSlot w ≠ k || !confValid w) && (!s.boot.woke || s.trial)
    let s := if onTrial then s.setBootState (setBits (setBits w 2 2 1) 3 3 k) else s
    let d := min (max 2000000 (fieldAt s.boot.header 36 4)) s.trialMax
    let s := { s with boot := { s.boot with deadline := if s.boot.woke then s.boot.deadline else if s.trial then some (s.now + d) else none } }
    .next (((s.goUp false).modHeel (fun h => { h with handedOver := true })).oweRaises)

/-- TRIAL_DEADLINE (R457, R489): the deadline stitch has come without a confirmation. -/
def execTrialDeadline (s : State) : Host.Outcome State Fault Refusal :=
  match s.boot.deadline with
  | some d =>
    if s.live && s.trial && d ≤ s.now then
      .next (({ s with boot := { s.boot with deadline := none } } : State).trialFallback.later .deviceReset)
    else .next s
  | none => .next s

/-- WARM_HAND_OVER (R39, R451): the ROM reloads and checks the running slot's body and hands over; firmware takes up what the
management reset stopped; a cobbler job goes on from its own commands. A pattern slot that the flag has come to name is chosen
anew, and a unit without a pattern chooses again (R466, R469). A body that fails makes the ROM request a device reset. -/
def execWarmHandOver (s : State) : Host.Outcome State Fault Refusal :=
  if !s.live || s.boot.stage ≠ .warm then .next s
  else if (s.imageFails (fwSlotBase s.boot.slot)).isSome then
    if !s.ringRoom || s.heel.ring.any (fun e => e.2.req = 0x0A && e.2.state = 1) then .next s
    else .next (s.postNow 0x0A 0 [])
  else
    let s := (s.loadBody s.boot.slot).goUp true
    let s := if s.boot.noPattern || (s.patFlag.testBit 2 && s.patFlag % 2 ≠ s.boot.patSlot) then
        { s with boot := { s.boot with patChosen := false, noPattern := false } } else s
    let s := match s.sys.resetOwed with
      | some t =>
        let r := mkRecord 0x0E .device Code.ok 0 (natBE 1 s.sys.lastCause ++ natBE 8 s.now) t
        ({ s with sys := { s.sys with resetOwed := none } } : State).keepRecord r
      | none => s
    let s := s.latches.foldl (fun s e =>
      if e.2.stage = .signature && (s.opOf 1 e.1).isNone then s.startOp 1 e.1 1 verifySteps else s) s
    .next ((List.range 64).foldl (fun s p =>
      s.modFill p (fun f => { f with stopped := false, finishing := false })) s)

end Sys2Proof.Machine
end

