-- ==== Sys2Proof/Machine/FuseCmd.lean ====
section
/-!
DEFINITION. Fuse programming (R424 to R432, R461, R617): what is permitted, the gate, the job, its readings; FUSE_READ and
FUSE_SHADOW_SET.
-/
namespace Sys2Proof.Machine
open Sys2Proof

/-- The FUSE block changed. -/
def State.modFuse (s : State) (f : FuseSt → FuseSt) : State := { s with fuse := f s.fuse }

/-- The hottest temperature sensor's code (R608). -/
def State.hottest (s : State) : Nat := [24, 25, 26, 27].foldl (fun m i => max m (tget 0 s.env.latest i)) 0
/-- VFPROG lies within 2.40 V to 2.60 V. -/
def State.vfprogOk (s : State) : Bool := 2400 ≤ s.fuse.vfprog && s.fuse.vfprog ≤ 2600
/-- Programming is possible: VFPROG, and 0 °C to 85 °C (R428). -/
def State.fuseEnvOk (s : State) : Bool := s.vfprogOk && 1024 ≤ s.hottest && s.hottest ≤ 2384

/-- The bits of a mask that name key `k` in FW_REVOKE. -/
def revokes (mask k : Nat) : Bool := bitsOf mask (8 * k + 7) (8 * k) ≠ 0
/-- A revocation that R427 forbids: of the key that verified the running firmware, or of the last usable key. -/
def State.revokeBad (s : State) (mask : Nat) : Bool :=
  let left := [0, 1, 2, 3].filter (fun k => (s.fwKey k).isSome && !s.fwRevoked k && !revokes mask k)
  left = [] || [0, 1, 2, 3].any (fun k => revokes mask k && s.fwKey k = some (sm3 (hdrKey s.boot.header)))

/-- An owner's signature on a fuse request (R427). -/
def State.ownerSigned (s : State) (msg sig : Bytes) : Bool :=
  (Config.sm2Recover msg sig).any (fun k => (s.ownerKeyOf k).isSome && sm2Ok k msg sig)

/-- The table of R425 for word `w`. -/
def State.fusePermitted (s : State) (w : Nat) : Bool :=
  let lc := s.lifecycle
  if w = 4 then lc ≤ 2
  else if (8 ≤ w && w < 104) || w = 505 || w = 506 then lc = 0
  else if (104 ≤ w && w < 136) || w = 507 then lc = 1
  else if (144 ≤ w && w < 504) || w = 509 || w = 510 || w = 511 then lc ≤ 1
  else false

/-- CHECK of a bank as it would be computed now, over readings taken afresh (R417, R430). -/
def State.freshCheck (s : State) (k : Nat) : Nat := check28 ((s.lockWords k).map s.freshLoose)

/-- The bank is locked and valid (R431). -/
def State.bankGood (s : State) (k : Nat) : Bool := s.fuseLocked k && !s.fuseInvalid k

/-- A fuse request against the rules: the code of the first refusal (R425 to R428, R430, R431). -/
def State.fuseRefuses (s : State) (r : FuseReq) : Option Nat :=
  let lc := s.lifecycle
  if r.advance then
    let signed := s.ownerSigned (s.deviceId ++ natBE 1 r.word) r.sig
    let bad := match r.word with
      | 1 => if lc = 0 && s.bankGood 1 && s.bankGood 2 then none else some Code.fuseBankIncomplete
      | 2 => if lc = 1 && [1, 2, 3, 5].all s.bankGood && [0, 1, 2, 3].any (fun k => (s.ownerKey k).isSome) &&
            [0, 1, 2, 3].any (fun k => (s.fwKey k).isSome && !s.fwRevoked k) then none else some Code.fuseBankIncomplete
      | 3 => if lc = 2 && signed then none else some Code.fuseWordDenied
      | 4 => if lc ≠ 4 && ((lc ≠ 2 && lc ≠ 3) || signed) then none else some Code.fuseWordDenied
      | _ => some Code.fuseWordDenied
    match bad with
    | some c => some c
    | none => if s.fuseEnvOk then none else some Code.fuseProgramEnv
  else
    let isLock : Bool := 504 ≤ r.word
    if 511 < r.word || !s.fusePermitted r.word || isLock != r.lock then some Code.fuseWordDenied
    else if s.fuseLocked (if isLock then r.word - 504 else s.lockOf r.word) then some Code.fuseLocked
    else if r.word = 4 && (s.revokeBad r.mask ||
        (lc = 2 && !s.ownerSigned (s.deviceId ++ natBE 2 r.word ++ natBE 4 r.mask) r.sig)) then some Code.fuseWordDenied
    else if isLock && (s.lockWords (r.word - 504)).any (fun w => s.freshLoose w ≠ s.freshTight w) then some Code.fuseMarginal
    else if isLock && bitsOf (s.freshLoose r.word) 31 4 &&& s.freshCheck (r.word - 504) ≠ bitsOf (s.freshLoose r.word) 31 4 then
      some Code.fuseLockConflict
    else if !s.fuseEnvOk then some Code.fuseProgramEnv
    else none

/-- The bits it asks for: a whole word for an advance, CHECK and LOCK for a lock. -/
def State.fuseWanted (s : State) (r : FuseReq) : Nat :=
  if r.advance then 0xFFFFFFFF else if r.lock then 16 * s.freshCheck (r.word - 504) + 15 else r.mask

/-- A word that programming leaves marginal is reported (R413, R429). -/
def State.reportMarginal (s : State) (w : Nat) : State :=
  (s.modFuse (fun f => { f with reported := if f.reported.contains w then f.reported else f.reported ++ [w] })).event
    0x0C (.fuse w) Code.fuseMarginal (natBE 4 (s.freshTight w) ++ natBE 4 (s.freshLoose w))

/-- A word whose wanted bits all read blown at LOOSE and not all at TIGHT is reported (R413, R429). -/
def State.reportIf (s : State) (w want : Nat) : State :=
  if s.freshLoose w &&& want = want && s.freshTight w &&& want ≠ want then s.reportMarginal w else s

/-- The request a FUSE_GATE entry stands for: the one firmware keeps for a VAMP command, or the one its ARGS and core SRAM
spell (log entry 29). -/
def State.gateReq (s : State) (e : RingEntry) : FuseReq :=
  match e.origin with
  | some o => (s.fuse.asked.find? (fun r => r.origin = some o)).getD {}
  | none =>
    let w := fieldAt e.args 1 2
    let adv := fieldAt e.args 0 1 = 1
    { advance := adv, word := w, mask := fieldAt e.args 3 4, lock := !adv && 504 ≤ w && fieldAt e.args 3 4 = 0
      sig := s.bytes (fieldAt e.args 7 4) 64 }

/-- An adapter's fuse request has been admitted and is not yet with the heel: the next fuse command is its own (R18, R432). -/
def State.fuseReserved (s : State) : Bool :=
  decide (s.fuse.asked ≠ []) || s.vamp.jobs.any (fun j => match j.2.2 with | .fuse _ => true | _ => false)

/-- FUSE_GATE (R424, R480): the gate opened for one command; STATUS and STATE are written when it completes. A refusal is
answered with the fuse rule's own code. -/
def execFuseGate (s : State) : Host.Outcome State Fault Refusal :=
  .next (s.heelTakeWith 0x10 11 true
    (fun s e => firstRefusal [
      (e.origin.isNone && 1 < fieldAt e.args 0 1, Code.heelRequestBad),
      (s.fuse.job.isSome || (e.origin.isNone && s.fuseReserved), Code.busy),
      ((s.fuseRefuses (s.gateReq e)).isSome, (s.fuseRefuses (s.gateReq e)).getD 0)])
    (fun s e =>
      let r := s.gateReq e
      let i := (s.heel.head + 63) % 64
      let bits := s.fuseWanted r &&& (0xFFFFFFFF - s.freshTight r.target)
      let s := s.modRing i (fun x => { x with state := 1, status := 0, stitch := 0 })
      s.modFuse (fun f => { f with
        gate := true, asked := f.asked.filter (fun x => x.origin ≠ e.origin || e.origin.isNone)
        job := some { req := r, bits := bits, began := s.now, entry := i }, progWord := r.target }))
    (fun s e r => match r, e.origin with
      | some c, some o => (s.modFuse (fun f => { f with asked := f.asked.filter (fun x => x.origin ≠ some o) })).answer o c
      | _, _ => s))

/-- The end of a fuse command: the gate closes, the ring entry and the adapter are told, and a timer expiry that waited for it acts
(R424, R425, R429, R432, R494). -/
def State.fuseEnds (s : State) (j : FuseJob) (code : Nat) : State :=
  let w := j.req.target
  let s := s.modFuse (fun f => { f with gate := false, job := none, progCode := code })
  let told := match j.abort with | some none => none | some (some c) => some c | none => some code
  let ok : Bool := code = Code.ok || code = Code.fuseMarginal
  let s := s.ringWrite j.entry ok code (if ok then s.now else 0)
  let s := match s.heel.owed with
    | some a => (s.modHeel (fun h => { h with owed := none })).expiryActs a
    | none => s
  match j.req.origin, told with
  | some o, some c =>
    s.answer o c (if !j.req.advance && (c = Code.ok || c = Code.fuseMarginal) then
      natBE 4 (s.freshTight w) ++ natBE 4 (s.freshLoose w) else [])
  | _, _ => s

/-- What the pulses have left of the word: for a lock the LOCK bits count only with complete CHECK bits (R429, R430). -/
def State.fusePulsed (s : State) (j : FuseJob) (tight loose : Nat) : State :=
  let w := j.req.target
  let check := s.fuseWanted j.req &&& 0xFFFFFFF0
  let s := s.blowBits w (if j.req.lock then j.bits &&& 0xFFFFFFF0 else j.bits) tight loose
  if j.req.lock && s.freshLoose w &&& check = check then s.blowBits w (j.bits &&& 15) tight loose else s
/-- Lock word 0, which follows LC_SCUTTLED (R431). -/
def State.blowLock0 (s : State) (tight loose : Nat) : State :=
  ((s.blowBits 504 0xFFFFFFFF tight loose).modFuse (fun f => { f with progWord := 504 })).reportIf 504 0xFFFFFFFF

/-- FUSE_PROGRAM_DONE (R428 to R432): the pulses are done, or the pulse pair in progress when the command was aborted, and the word has
been read at both margins. LC_SCUTTLED is followed by lock word 0 unless the command was aborted. -/
def execFuseProgramDone (tight loose lockTight lockLoose : Nat) (s : State) : Host.Outcome State Fault Refusal :=
  match s.fuse.job with
  | none => .next s
  | some j =>
    if s.pwr.mainDown then .next s
    else
      let w := j.req.target
      let want := s.fuseWanted j.req
      let s := s.fusePulsed j tight loose
      let s := if w = 3 && s.freshLoose 3 ≠ 0 && j.abort.isNone then s.blowLock0 lockTight lockLoose else s
      let code := if j.abort = some (some Code.fuseProgramEnv) then Code.fuseProgramEnv
        else if (s.freshLoose w) &&& want ≠ want then Code.fuseProgramFailed
        else if (s.freshTight w) &&& want ≠ want then Code.fuseMarginal else Code.ok
      .next ((if code = Code.fuseProgramEnv then s else s.reportIf w want).fuseEnds j code)

/-- FUSE_PROGRAM_ENV (R428): VFPROG or the temperature has left its range; the command aborts at the end of the current pulse, also
where the range has come back since. -/
def execFuseProgramEnv (tight loose : Nat) (s : State) : Host.Outcome State Fault Refusal :=
  match s.fuse.job with
  | none => .next s
  | some j =>
    if s.pwr.mainDown || (s.fuseEnvOk && j.abort ≠ some (some Code.fuseProgramEnv)) then .next s
    else .next ((s.fusePulsed j tight loose).fuseEnds j Code.fuseProgramEnv)
/-- The samples of a stitch in which a fuse command programs: outside the ranges it is aborted (R428). -/
def State.fuseEnvStep (s : State) : State :=
  if s.fuse.job.isSome && !s.fuseEnvOk then
    s.modFuse (fun f => { f with job := f.job.map (fun j => { j with abort := some (j.abort.getD (some Code.fuseProgramEnv)) }) })
  else s

/-- A fuse command in progress is aborted without an answer: after the current pulse or pulse pair (R432). -/
def State.fuseAbort (s : State) : State :=
  s.modFuse (fun f => { f with asked := [], job := f.job.map (fun j => { j with abort := some none }) })

/-! ### The commands -/

/-- An admitted fuse request posted for its command. -/
def State.askFuse (s : State) (o : Origin) (r : FuseReq) : State :=
  let s := s.modFuse (fun f => { f with asked := f.asked ++ [{ r with origin := some o }] })
  s.post 0x10 0 (natBE 1 (b2n r.advance) ++ natBE 2 r.word ++ natBE 4 r.mask ++ natBE 4 0) (some o)

/-- The request must carry an owner's signature (R427, R431). -/
def State.fuseSigned (s : State) (r : FuseReq) : Bool :=
  let lc := s.lifecycle
  if r.advance then (r.word = 3 && lc = 2) || (r.word = 4 && (lc = 2 || lc = 3)) else r.word = 4 && lc = 2
/-- A fuse request of the adapter, refused at once with BUSY while another one is admitted or programs, or the ring has no room
(R18, R432, R703): one that must be signed is verified on a point engine first (R573). -/
def State.fuseCommand (s : State) (o : Origin) (r : FuseReq) : State :=
  if s.fuse.job.isSome || s.fuseReserved || !s.ringSpare then s.answer o Code.busy
  else if s.fuseSigned r then s.queueUpdate o (.fuse r)
  else s.askFuse o r

/-- FUSE_PROGRAM (R425, R574): word and mask. -/
def execFuseProgram (ch : Nat) (s : State) : Host.Outcome State Fault Refusal :=
  s.serve ch 0x0082 (fun b => !(504 ≤ fieldAt b 0 4 && fieldAt b 4 4 = 0)) (fun s o b =>
    s.fuseCommand o { word := fieldAt b 0 4, mask := fieldAt b 4 4, sig := bytesAt b 8 64 })

/-- FUSE_LOCK (R430, R574): a FUSE_PROGRAM that names a lock word with MASK 0. -/
def execFuseLock (ch : Nat) (s : State) : Host.Outcome State Fault Refusal :=
  s.serve ch 0x0082 (fun b => 504 ≤ fieldAt b 0 4 && fieldAt b 4 4 = 0) (fun s o b =>
    s.fuseCommand o { word := fieldAt b 0 4, lock := true, sig := bytesAt b 8 64 })

/-- LIFECYCLE_ADVANCE (R431). -/
def execLifecycleAdvance (ch : Nat) (s : State) : Host.Outcome State Fault Refusal :=
  s.serve ch 0x0083 (fun _ => true) (fun s o b =>
    s.fuseCommand o { advance := true, word := fieldAt b 0 4, sig := bytesAt b 4 64 })

/-- FUSE_READ (R432): both readings afresh and the value taken; zeros for the wrapped roots; BUSY while a word programs. -/
def execFuseRead (ch : Nat) (s : State) : Host.Outcome State Fault Refusal :=
  s.serve ch 0x0080 (fun _ => true) (fun s o b =>
    let w := fieldAt b 0 4
    if s.fuse.job.isSome then s.answer o Code.busy
    else if 14 ≤ w && w ≤ 37 then s.answer o Code.ok (fill 12 0)
    else s.answer o Code.ok
      (natBE 4 (tget {} s.fuse.otp w).tight ++ natBE 4 (tget {} s.fuse.otp w).loose ++ natBE 4 (s.freshTaken w)))

/-- FUSE_SHADOW_SET (R422): a feature word or a whole patch entry, in PROVISION; in force from the next boundary. -/
def execFuseShadowSet (ch : Nat) (s : State) : Host.Outcome State Fault Refusal :=
  s.serve ch 0x0081 (fun _ => true) (fun s o b =>
    let w := fieldAt b 2 2
    let n := fieldAt b 0 2
    let feature : Bool := 152 ≤ w && w < 152 + s.split && n = 1
    let patch : Bool := 152 + s.split ≤ w && w + 4 ≤ 504 && (w - 152) % 4 = 0 && n = 4
    if s.lifecycle ≠ 1 || s.splitBad || !(feature || patch) then s.answer o Code.fuseWordDenied
    else
      let new := (List.range n).foldl (fun t i => tput t (w + i) (fieldAt b (4 + 4 * i) 4)) s.fuse.overNext
      ((s.modFuse (fun f => { f with overNext := new })).later .fuseShadow).answer o Code.ok)

/-- FLOOR of the confirmed firmware (R459, R461): the running image's, or else that of the confirmed slot's, none while its image
is not good. -/
def State.confFloor (s : State) : Option Nat :=
  let k := confSlot s.bootState
  if s.boot.slot = k && (s.boot.stage = .running || s.boot.stage = .warm) then some (fwFloor s.boot.header)
  else if (s.imageFails (fwSlotBase k)).isNone then some (fwFloor (s.fwHeader (fwSlotBase k)))
  else none
/-- The ARB bits of word `i` from the current count up to bit `floor` − 1 (R414, R461). -/
def State.arbWanted (s : State) (floor i : Nat) : Nat :=
  maskOf ((List.range 32).filter (fun b => s.arbCount ≤ 32 * i + b && 32 * i + b < floor))

/-- FLOOR_RAISE (R461): the heel blows the ARB bits from the current count up to bit FLOOR − 1, reports a word that stays marginal
(R429) and, once all stand, clears FLOOR_PENDING. `words` are the final readings of the eight ARB words. -/
def execFloorRaise (words : List (Nat × Nat)) (s : State) : Host.Outcome State Fault Refusal :=
  let w := s.bootState
  if !s.live || s.boot.stage = .stopped || !w.testBit 7 || !s.fuseEnvOk || s.fuse.job.isSome || s.fuseLocked 4 then .next s
  else match s.confFloor with
    | none => .next s
    | some floor =>
      let want := s.arbWanted floor
      let s := (List.range 8).foldl (fun s i =>
        s.blowBits (136 + i) (want i) (words.getD i (0, 0)).1 (words.getD i (0, 0)).2) s
      let s := (List.range 8).foldl (fun s i =>
        if want i = 0 then s else (s.modFuse (fun f => { f with progWord := 136 + i })).reportIf (136 + i) (want i)) s
      if (List.range 8).all (fun i => s.freshLoose (136 + i) &&& want i = want i) then
        .next (s.setBootState (setBits w 7 7 0))
      else .next s

end Sys2Proof.Machine
end

