-- ==== Sys2Proof/Machine/HeelBoot.lean ====
section
/-!
DEFINITION. The heel requests about firmware, settings, the pattern, the copy journal, the shank and quiescence (R480 codes
0x0B to 0x0F and 0x11 to 0x13; R459, R463, R464, R490, R539).
-/
namespace Sys2Proof.Machine
open Sys2Proof

/-- TRIAL_CONFIRM (R459, R480): in the stitch taken; refused from the deadline stitch on (R494). -/
def execTrialConfirm (s : State) : Host.Outcome State Fault Refusal :=
  s.heelReq 0x0B 0 true
    (fun s _ => firstRefusal [
      (!s.trial || (match s.boot.deadline with | some d => decide (d ≤ s.now) | none => true), Code.heelEvidenceMissing)])
    (fun s _ =>
      let w := s.bootState
      let v := setBits (setBits (setBits w 0 0 (trialSlot w)) 1 1 1) 2 2 0
      let v := if setTrial w ≠ 0 then setBits (setBits v 9 8 (setTrial w)) 11 10 0 else v
      let v := if s.arbCount < fwFloor s.boot.header then setBits v 7 7 1 else v
      let s := s.setBootState v
      { s with boot := { s.boot with deadline := none } })

/-! ### Confirmation (R458) -/

/-- Firmware has parsed the committed settings generation, or SET_COMMITTED is 0 (R458; whether a generation parses is the
firmware's: log entry 86). -/
def State.settingsParsed (s : State) : Bool :=
  let k := setCommitted s.bootState
  k = 0 || Config.settingsParse (s.bytes (0x40081000 + (k - 1) * 0x28000) 163840)
/-- Firmware on trial posts TRIAL_CONFIRM, once everything R458 names is done and before the deadline stitch (R457). -/
def State.confirmStep (s : State) : State :=
  let before : Bool := match s.boot.deadline with | some d => decide (s.now < d) | none => false
  if s.fw && s.trial && before && s.settingsParsed && (s.pat.isSome || s.boot.noPattern) && s.selfTested &&
      !s.asked (fun e => e.req = 0x0B) then s.post 0x0B 0 []
  else s

/-! ### Settings (R462 to R464) -/

/-- Settings area `k`. -/
def settingsArea (k : Nat) : Nat := 0x40081000 + (k - 1) * 0x28000
/-- The area passes R464, given the area whose selection it replaces (log entry 30). -/
def State.settingsOk (s : State) (k : Nat) : Bool :=
  let h := s.bytes (settingsArea k) 64
  let n := fieldAt h 16 4
  let old := if s.trial then setTrial s.bootState else setCommitted s.bootState
  k = s.boot.writable && fieldAt h 0 4 = 0x53455447 && 1 ≤ n && n ≤ 163776 &&
    sm3 (s.bytes (settingsArea k + 64) n) = digestOfBytes (bytesAt h 24 32) &&
    (old = 0 || fieldAt h 8 8 = fieldAt (s.bytes (settingsArea old) 64) 8 8 + 1)

/-! ### Effects at the boundary -/

/-- A staged image is marked ready: the lease ends, STAGE_CLOSE is answered, and APPLY or RESCUE asks for a device reset
(R450, R454). -/
def State.stagedReadySet (s : State) : State :=
  let s := s.setBootState (setBits s.bootState 6 6 1)
  match s.boot.fw with
  | none => s
  | some l =>
    let s := { s with boot := { s.boot with fw := none } }
    match l.closing with
    | none => s
    | some (o, apply, _) =>
      if s.boot.stage = .rescue then (s.answer o Code.ok (natBE 4 0)).post 0x0A 0 []
      else if !apply then s.answer o Code.ok (natBE 4 0)
      else if s.mayDeviceReset then (s.answer o Code.ok (natBE 4 0)).post 0x0A 0 []
      else s.answer o Code.applyRefused

/-- STAGED_READY is cleared: a STAGE_OPEN that waited is answered (R454). -/
def State.stagedReadyClear (s : State) : State :=
  let s := if s.bootState.testBit 6 then s.setBootState (setBits s.bootState 6 6 0) else s
  match s.boot.fw with
  | some l => match l.opening with
    | some o => ({ s with boot := { s.boot with fw := some { l with opening := none, lastData := s.now } } } : State).answer o Code.ok
        (natBE 4 l.number ++ natBE 4 0)
    | none => s
  | none => s

/-- What such a request does at its boundary. -/
def State.heelWorkNow (s : State) (req : Nat) (a : Bytes) : State :=
  match req with
  | 0x0C =>
    let w := s.bootState
    let k := fieldAt a 0 1
    let s := s.setBootState (if s.trial then setBits w 11 10 k else setBits w 9 8 k)
    { s with boot := { s.boot with writable := s.writableArea } }
  | 0x0D => if fieldAt a 0 1 = 1 then s.stagedReadySet else s.stagedReadyClear
  | 0x0E => s.setWord patFlagAddr (fieldAt a 0 4)
  | 0x0F =>
    match fieldAt a 0 1 with
    | 0 => s.openCopy (fieldAt a 1 1) (fieldAt a 2 2) (fieldAt a 4 2) (fieldAt a 8 8)
    | 1 => s.advanceCopy (fieldAt a 4 2)
    | _ => s.closeCopy
  | _ => s

/-- The state as it will stand after the entries of this kind taken before (R479). -/
def State.aheadWork (s : State) : State :=
  s.deferred.foldl (fun t d => match d with | .heelWork r a => t.heelWorkNow r a | _ => t) s

/-- SETTINGS_COMMIT (R464, R480). -/
def execSettingsCommit (s : State) : Host.Outcome State Fault Refusal :=
  s.heelReq 0x0C 1 false
    (fun s a =>
      let k := fieldAt a 0 1
      firstRefusal [(k = 0 || 3 < k, Code.heelRequestBad), (!s.aheadWork.settingsOk k, Code.settingsRejected)])
    (fun s a => s.later (.heelWork 0x0C a))

/-- STAGED_READY (R454, R480): CLEAR always; SET for a FIRMWARE lease with every unit journalled, closed by STAGE_CLOSE. -/
def execStagedReady (s : State) : Host.Outcome State Fault Refusal :=
  s.heelReq 0x0D 1 false
    (fun s a =>
      let set := fieldAt a 0 1 = 1
      let whole := match s.aheadWork.boot.fw with | some l => l.closing.isSome && decide (l.length ≤ l.next) | none => false
      firstRefusal [(1 < fieldAt a 0 1, Code.heelRequestBad), (set && !whole, Code.heelEvidenceMissing)])
    (fun s a => s.later (.heelWork 0x0D a))

/-- PATTERN_FLAG (R465, R480). -/
def execPatternFlag (s : State) : Host.Outcome State Fault Refusal :=
  s.heelReq 0x0E 4 false
    (fun s a =>
      let w := fieldAt a 0 4
      let old := s.aheadWork.patFlag
      firstRefusal [
        (bitsOf w 15 3 ≠ 0, Code.heelRequestBad),
        (bitsOf w 31 16 ≠ (bitsOf old 31 16 + 1) % 65536 || (w.testBit 0 != old.testBit 0 && !w.testBit 1) ||
          (old.testBit 2 && !w.testBit 2), Code.heelEvidenceMissing)])
    (fun s a => s.later (.heelWork 0x0E a))

/-- Firmware posts the PATTERN_FLAG request for a flag word. -/
def State.askFlag (s : State) (w : Nat) : State := s.post 0x0E 0 (natBE 4 w)
/-- Firmware posts a COPY_JOURNAL request: action, TARGET, UNITS, NEXT, STAGED_SEQ. -/
def State.askCopy (s : State) (act target units next seq : Nat) : State :=
  s.post 0x0F 0 (natBE 1 act ++ natBE 1 target ++ natBE 2 units ++ natBE 2 next ++ natBE 2 0 ++ natBE 8 seq)
/-- A request about the pattern flag or the copy journal is with the heel, or takes effect at the next boundary. -/
def State.heelAsked (s : State) : Bool :=
  s.asked (fun e => e.req = 0x0E || e.req = 0x0F) ||
  s.deferred.any (fun d => match d with | .heelWork r _ => r = 0x0E || r = 0x0F | _ => false)

/-- COPY_JOURNAL (R456, R480). ARGS in the order of the table: action, TARGET, UNITS, NEXT, two zeros, STAGED_SEQ (log entry
31). -/
def execCopyJournal (s : State) : Host.Outcome State Fault Refusal :=
  s.heelReq 0x0F 16 false
    (fun s a =>
      let v := s.aheadWork
      let act := fieldAt a 0 1
      let t := fieldAt a 1 1
      firstRefusal [
        (2 < act || fieldAt a 6 2 ≠ 0 || (act = 0 && (t < 2 || 4 < t || fieldAt a 2 2 = 0 || 128 < fieldAt a 2 2)),
          Code.heelRequestBad),
        (act ≠ 0 && (!v.copyOpen || v.copyTarget < 2) || (act = 1 && fieldAt a 4 2 ≠ v.copyNext + 1),
          Code.heelEvidenceMissing),
        (act = 0 && v.copyOpen, Code.busy)])
    (fun s a => s.later (.heelWork 0x0F a))

/-- PATTERN_PARAMS (R480, R483): accepted when they are the accepted pattern's; in force at its table switch. -/
def execPatternParams (s : State) : Host.Outcome State Fault Refusal :=
  s.heelReq 0x11 14 false
    (fun s a =>
      let p := fieldAt a 0 4
      let lv := fieldAt a 4 1
      firstRefusal [
        (2 = lv || 3 < lv || 1 < fieldAt a 5 1, Code.heelRequestBad),
        ((match s.patNext with
          | none => true
          | some t => p ≠ t.device.heelPeriod || lv ≠ t.device.tamperLevel || decide (fieldAt a 5 1 = 1) != t.device.freezePermit ||
              fieldAt a 6 8 ≠ maskOf ((t.plats.filter (fun x => x.2.runBlind)).map Prod.fst)), Code.heelEvidenceMissing),
        (p < 1000 || s.periodMax < p || lv < s.minTamper.code, Code.phaseRefused)])
    (fun s a => s.modHeel (fun h => { h with params := some {
      entry := (h.head + 63) % 64
      period := fieldAt a 0 4, level := fieldAt a 4 1, freezePermit := decide (fieldAt a 5 1 = 1)
      runBlind := fieldAt a 6 8 } }))

/-! ### The shank (R539) and quiescence (R490) -/

/-- Some lease, activation, cobbler job, copy or fuse command is open (R490, R539). -/
def State.workOpen (s : State) (cob : Bool) : Bool :=
  s.plats.any (fun e => e.2.lease.isSome || e.2.act.isSome || (cob && e.2.cob.isSome)) ||
  s.boot.fw.isSome || s.boot.pat.isSome || s.boot.certs.isSome || s.copyOpen || s.fuse.job.isSome || s.fuseReserved

/-- The condition of SWAP (R539). -/
def State.swapReady (s : State) : Bool :=
  !s.pair.partnerLost && s.pair.partner.ever && s.pair.partner.flags.testBit 0 &&
  s.platNums.all (fun p => ((s.plat p).state ≠ .released && (s.plat p).state ≠ .running) || s.pair.partner.shadowOk.testBit p) &&
  !s.workOpen true

/-- The unit may claim the shank: STANDBY or STARTING, fit, and with the shank seen released (R511, R513). -/
def State.claimReady (s : State) : Bool :=
  s.live && (s.pair.role = .standby || s.pair.role = .starting) && s.fit && s.pair.released.isSome

/-- SHANK (R480, R539): a release for SWAP, with DRILL sent; a claim, where R513 lets the unit claim, stands planned in the stitch
R513 gives it (log entry 92). -/
def execShank (s : State) : Host.Outcome State Fault Refusal :=
  .next (s.heelTakeWith 0x12 1 false
    (fun s e => firstRefusal [
      (1 < fieldAt e.args 0 1, Code.heelRequestBad),
      (if fieldAt e.args 0 1 = 1 then !s.claimReady else s.pair.role ≠ .active || !s.swapReady, Code.phaseRefused)])
    (fun s e =>
      if fieldAt e.args 0 1 = 1 then s.claimStep
      else
      let s := s.modPair (fun q => { q with swap := q.swap.map (fun x => (x.1, s.now + 1)) })
      (s.toPartner 0x09 (natBE 8 s.now)).later (.shankRelease false))
    (fun s e r => match (if fieldAt e.args 0 1 = 0 then r else none), s.pair.swap with
      | some _, some (o, _) => (s.modPair (fun q => { q with swap := none })).answer o Code.pairNotReady
      | _, _ => s))

/-- R490: quiescent entry in `bare` or keep mode with a wake period is permitted. -/
def State.quiesceOk (s : State) (bare : Bool) (wake : Nat) : Option Nat :=
  let permit := match s.pat with | some t => t.device.quiescePermit.testBit (b2n bare) | none => false
  let busyPlat := s.plats.any (fun e => [Custody.released, .running, .filling, .recovering].contains (s.ahead e.1).1)
  let keyOp := s.keys.commit.isSome || s.vamp.jobs.any (fun j => match j.2.2 with | .key _ => true | _ => false)
  firstRefusal [
    (wake < 1000, Code.heelRequestBad),
    (!permit || busyPlat || (s.pair.role ≠ .unpaired && s.pair.role ≠ .standby), Code.phaseRefused),
    (s.aheadWork.workOpen false || keyOp || (match s.heel.mode with | .on => false | _ => true), Code.busy)]

/-- A quiescent entry has been accepted and waits for its boundary (R481). -/
def State.quiesceDue (s : State) : Bool := s.deferred.any (fun d => match d with | .quiesce _ _ => true | _ => false)

/-- QUIESCE (R480, R490, R491): entry at the boundary after acceptance. ARGS: mode, three zeros, wake period (log entry 31). -/
def execQuiesce (s : State) : Host.Outcome State Fault Refusal :=
  s.heelReq 0x13 8 false
    (fun s a => if 1 < fieldAt a 0 1 || fieldAt a 1 3 ≠ 0 then some Code.heelRequestBad
      else match s.quiesceOk (fieldAt a 0 1 = 1) (fieldAt a 4 4) with
        | some c => some c
        | none => if s.quiesceDue then some Code.busy else none)
    (fun s a => s.later (.quiesce (fieldAt a 0 1 = 0) (fieldAt a 4 4)))

end Sys2Proof.Machine
end

