-- ==== Sys2Proof/Machine/PatImage.lean ====
section
/-!
DEFINITION. Pattern images (chapter 16, R587 to R599): header, directory, records, and stages 1 to 7 of the judgement.
-/
namespace Sys2Proof.Machine
open Sys2Proof

/-- Why an image is refused: code, stage, section and record of PAT_LOAD (R607); the check and entry of CLICK_CHECK (R184)
and the check and row of STITCH_CHECK (R89), when one of those judged. -/
structure PatFail where
  code : Nat
  stage : Nat
  section_ : Nat := 0
  record : Nat := 0
  click : Option (Nat × Nat) := none
  stitch : Option (Nat × Nat) := none
  deriving DecidableEq, Repr

/-! ### Reading an image -/

/-- IMAGE_LEN (R587). -/
def imgLen (b : Bytes) : Nat := fieldAt b 8 4
/-- UPDATE_SEQUENCE. -/
def imgSequence (b : Bytes) : Nat := fieldAt b 16 8
/-- SIGNER_KEY. -/
def imgKey (b : Bytes) : Bytes := bytesAt b 56 64
/-- OFFSET of section `t` (R588). -/
def secOffset (b : Bytes) (t : Nat) : Nat := fieldAt b (128 + 16 * (t - 1) + 4) 4
/-- LENGTH of section `t`. -/
def secLength (b : Bytes) (t : Nat) : Nat := fieldAt b (128 + 16 * (t - 1) + 8) 4
/-- COUNT of section `t`. -/
def secCount (b : Bytes) (t : Nat) : Nat := fieldAt b (128 + 16 * (t - 1) + 12) 4
/-- The bytes of section `t`. -/
def secBytes (b : Bytes) (t : Nat) : Bytes := bytesAt b (secOffset b t) (secLength b t)
/-- The records of a section whose records have one size (R589). -/
def fixedRecs (b : Bytes) (t size : Nat) : List Bytes :=
  (List.range (secCount b t)).map (fun i => bytesAt (secBytes b t) (size * i) size)
/-- Length of a PLATFORM record (R596). -/
def platLen (r : Bytes) : Nat := 32 + 32 * (fieldAt r 1 1 + fieldAt r 2 1) + 8 * fieldAt r 3 1
/-- The PLATFORM records, which follow one another with no gaps (R588). -/
def platSplit : Nat → Bytes → List Bytes
  | 0, _ => []
  | n + 1, b => b.take (platLen b) :: platSplit n (b.drop (platLen b))
/-- The PLATFORM records of an image. -/
def platRecs (b : Bytes) : List Bytes := platSplit (secCount b 7) (secBytes b 7)
/-- The EYELET records of an image. -/
def eyeRecs (b : Bytes) : List Bytes := fixedRecs b 3 128
/-- The PRESENTED records of an image. -/
def pdRecs (b : Bytes) : List Bytes := fixedRecs b 4 160
/-- Word `o` of opcode map `m` (R147). -/
def imgMap (b : Bytes) (m o : Nat) : Word := BitVec.ofNat 32 (fieldAt (secBytes b 5) (1024 * m + 4 * o) 4)
/-- Window entry `i` of the loading bank: zero from COUNT upward (R601). -/
def imgWin (b : Bytes) (i : Nat) : WindowWord :=
  if i < secCount b 6 then BitVec.ofNat 128 (fieldAt (secBytes b 6) (16 * i) 16) else 0
/-- The windows a PRESENTED record lists, with their global indexes (R151). -/
def recWins (b r : Bytes) : List (Nat × WindowWord) :=
  (List.range (fieldAt r 20 2)).map (fun i => (fieldAt r 16 4 + i, imgWin b (fieldAt r 16 4 + i)))
/-- CYCLE_LEN of the schedule (R62). -/
def imgCycle (b : Bytes) : Nat := fieldAt (secBytes b 8) 0 2
/-- The schedule's rows (R63). -/
def imgRows (b : Bytes) : List Bytes := (List.range (imgCycle b)).map (fun i => bytesAt (secBytes b 8) (8 + 64 * i) 64)

/-- A value with a value that means none. -/
def noneAt (sentinel n : Nat) : Option Nat := if n = sentinel then none else some n

/-- An EYELET record read (R594). -/
def readEye (r : Bytes) : EyeletRec :=
  let bit := fun o => if 128 ≤ fieldAt r o 1 then none else some (fieldAt r o 1 % 8)
  { mode := fieldAt r 2 1, clock := fieldAt r 3 1, sizePages := fieldAt r 4 4,
    flashDummy := fieldAt r 8 1, idLen := fieldAt r 9 1, statusOp := BitVec.ofNat 8 (fieldAt r 10 1),
    busyBit := fieldAt r 11 1 % 8, pfailBit := bit 12, efailBit := bit 13,
    id := bytesAt r 16 (fieldAt r 9 1), resetRecovery := fieldAt r 24 4,
    tErase4K := fieldAt r 28 4, tErase32K := fieldAt r 32 4, tErase64K := fieldAt r 36 4, tProgram := fieldAt r 40 4,
    init := (List.range (min 8 (fieldAt r 14 1))).map (fun i => bytesAt r (65 + 8 * i) (min 7 (fieldAt r (64 + 8 * i) 1))) }

/-- A segment entry read (R111). -/
def readSeg (g : Bytes) : Segment :=
  { pdStart := fieldAt g 0 3, pageCount := fieldAt g 3 3, eyeletA := fieldAt g 6 1 % 8,
    eyeletB := if 128 ≤ fieldAt g 7 1 then none else some (fieldAt g 7 1 % 8),
    flashPageA := fieldAt g 8 2, flashPageB := fieldAt g 10 2, solePage := noneAt 0xFFFFFFFF (fieldAt g 12 4) }

/-- A PRESENTED record read (R595). -/
def readPd (r : Bytes) : PdRec :=
  { sizeLog2 := fieldAt r 1 1, modes := fieldAt r 2 1 % 16, powerupMode := fieldAt r 3 1 % 4,
    powerupAddr4 := (fieldAt r 3 1).testBit 2, clockMax := fieldAt r 4 1, dummy := fieldAt r 5 1,
    id := bytesAt r 8 (fieldAt r 6 1),
    segments := (List.range (min 8 (fieldAt r 7 1))).map (fun i => readSeg (bytesAt r (32 + 16 * i) 16)) }

/-- The directory words of a PRESENTED record (R186, R187). -/
def readDir (r : Bytes) : DirRec :=
  { list := BitVec.ofNat 32 (fieldAt r 16 4)
    cfg := BitVec.ofNat 32 (fieldAt r 20 2 + 65536 * (fieldAt r 22 1 % 8) + 2 ^ 19 * bitsOf (fieldAt r 23 1) 1 1 +
      2 ^ 20 * bitsOf (fieldAt r 23 1) 0 0 + 2 ^ 21 * fieldAt r 26 1)
    bare := BitVec.ofNat 32 (fieldAt r 24 2) }

/-- A last entry read (R597). -/
def readLast (x : Bytes) : LastEntry :=
  { entry := fieldAt x 0 1, pd := fieldAt x 1 1, segment := fieldAt x 2 1, boot := (fieldAt x 3 1).testBit 0,
    imageClass := fieldAt x 4 2, lastEyelet := fieldAt x 6 1 % 8, golden := noneAt 0xFF (fieldAt x 7 1),
    pageA := fieldAt x 8 4, pageB := noneAt 0xFFFFFFFF (fieldAt x 12 4), pageG := noneAt 0xFFFFFFFF (fieldAt x 16 4),
    areaPages := fieldAt x 20 2 }

/-- The last entries of a PLATFORM record, as bytes. -/
def recLasts (r : Bytes) : List Bytes := (List.range (fieldAt r 1 1)).map (fun i => bytesAt r (32 + 32 * i) 32)
/-- The staging entries of a PLATFORM record, as bytes. -/
def recStages (r : Bytes) : List Bytes :=
  (List.range (fieldAt r 3 1)).map (fun i => bytesAt r (32 + 32 * (fieldAt r 1 1 + fieldAt r 2 1) + 8 * i) 8)
/-- The welts a PLATFORM record binds. -/
def recWelts (r : Bytes) : List Nat := bitList 64 (fieldAt r 8 8)

/-- A PLATFORM record read (R596). -/
def readPlat (r : Bytes) : PlatRec :=
  let fl := fieldAt r 4 2
  { pwrgdUse := fl.testBit 0, doneUse := fl.testBit 1, cobblerEn := fl.testBit 2, runDegraded := fl.testBit 3,
    runtimeLossHold := fl.testBit 4, updateEn := fl.testBit 5, adapterHold := fl.testBit 6, runBlind := fl.testBit 7,
    welts := recWelts r, bootTimer := fieldAt r 16 4, recoveryWait := fieldAt r 20 4,
    lasts := (recLasts r).map readLast,
    anchors := (List.range (fieldAt r 2 1)).map (fun i =>
      digestOfBytes (bytesAt r (32 + 32 * fieldAt r 1 1 + 32 * i) 32)),
    staging := (recStages r).map (fun x => { welt := fieldAt x 0 1, first := fieldAt x 2 3, frames := fieldAt x 5 3 }) }

/-- The DEVICE record read (R592). -/
def readDevice (r : Bytes) : DeviceRec :=
  { heelPeriod := fieldAt r 0 4, tamperLevel := fieldAt r 4 1, freezePermit := fieldAt r 5 1 = 1,
    quiescePermit := fieldAt r 6 1, eraseMax := fieldAt r 8 4, programMax := fieldAt r 12 4,
    anchors := (List.range (fieldAt r 7 1)).map (fun i => digestOfBytes (bytesAt r (32 + 32 * i) 32)) }

/-- The policy digest of a PLATFORM record (R390). -/
def policyOf (b r : Bytes) : Digest :=
  sm3 ((pdRecs b).flatMap (fun d =>
    if (recWelts r).contains (fieldAt d 0 1 / 2) then
      let x := readDir d
      natBE 4 x.list.toNat ++ natBE 4 x.cfg.toNat ++ natBE 4 x.bare.toNat ++
        bytesAt d 32 (16 * min 8 (fieldAt d 7 1)) ++
        (recWins b d).flatMap (fun w => natBE 16 w.2.toNat) ++ bytesAt (secBytes b 5) (1024 * fieldAt d 22 1) 1024
    else []))

/-- The pattern of an accepted image. -/
def readPattern (b : Bytes) (signer slot : Nat) : Pattern :=
  { digest := sm3 b, signer := signer, sequence := imgSequence b, slot := slot,
    device := readDevice (secBytes b 1),
    thresholds := (List.range 4).map (fun i =>
      let r := bytesAt (secBytes b 2) (8 * i) 8
      { consecutive := fieldAt r 0 1, count := fieldAt r 1 1, window := fieldAt r 4 4 }),
    eyelets := (eyeRecs b).map (fun r => (fieldAt r 0 2, readEye r)),
    pds := (pdRecs b).map (fun r => (fieldAt r 0 1, readPd r)),
    plats := (platRecs b).map (fun r => (fieldAt r 0 1, readPlat r)),
    policy := (platRecs b).map (fun r => (fieldAt r 0 1, policyOf b r)) }

/-! ### Judging fields and records -/

/-- A field of range `lo` to `hi` that holds `v`: a forbidden 0 first (R599, R600). -/
def inRange (v lo hi : Nat) : List (Bool × Nat) :=
  [(decide (1 ≤ lo) && decide (v = 0), Code.patternZeroField), (decide (v < lo) || decide (hi < v), Code.patternRangeBad)]
/-- A reserved field. -/
def isZero (v : Nat) : List (Bool × Nat) := [(decide (v ≠ 0), Code.patternFormatBad)]
/-- A condition of range or variant that fails. -/
def badRange (b : Bool) : List (Bool × Nat) := [(b, Code.patternRangeBad)]

/-- The first record, by index, that a judgement refuses. -/
def firstBad {α : Type} (f : Nat → α → Option Nat) : Nat → List α → Option (Nat × Nat)
  | _, [] => none
  | i, x :: xs => match f i x with | some c => some (i, c) | none => firstBad f (i + 1) xs

/-- A refusal of a record of a section. -/
def failAt (stage sec : Nat) (r : Option (Nat × Nat)) : Option PatFail :=
  r.map (fun x => { code := x.2, stage := stage, section_ := sec, record := x.1 })

/-- The first refusal of a list of checks, each made only when those before it pass. -/
def firstFail : List (Option PatFail) → Option PatFail
  | [] => none
  | some f :: _ => some f
  | none :: t => firstFail t

/-! ### Stages 1 to 4 -/

/-- Stages 1 to 4 of R599; `fits` says that IMAGE_LEN agrees with the lease or lies within the slot. -/
def State.judgeHeader (s : State) (b : Bytes) (fits : Nat → Bool) : Option PatFail :=
  let n := imgLen b
  let fail := fun c st => some { code := c, stage := st : PatFail }
  if fieldAt b 0 4 ≠ 0x54504154 || fieldAt b 4 2 ≠ 1 || fieldAt b 6 2 ≠ 0x80 then fail Code.patternFormatBad 1
  else if n = 0 then fail Code.patternZeroField 1
  else if n < 4096 || 8388608 < n || n % 16 ≠ 0 || !fits n || b.length ≠ n || fieldAt b 12 2 ≠ 8 || fieldAt b 14 2 ≠ 0 ||
      !allZero (bytesAt b 24 32) || !allZero (bytesAt b 120 8) then fail Code.patternFormatBad 1
  else if imgSequence b = 0 then fail Code.patternZeroField 2
  else if (s.ownerKeyUsable (imgKey b)).isNone then fail Code.patternOwnerUnknown 3
  else if !sm2Ok (imgKey b) (b.take (n - 64)) (b.drop (n - 64)) then fail Code.patternSignatureBad 4
  else none

/-! ### Stage 5: directory and record order -/

/-- Rising order, without repeats. -/
def rising : List Nat → Bool
  | a :: b :: t => decide (a < b) && rising (b :: t)
  | _ => true

/-- COUNT of a section is in the range of R589. -/
def countOk (t n : Nat) : Bool :=
  match t with
  | 3 => 1 ≤ n && n ≤ 512
  | 4 => 1 ≤ n && n ≤ 128
  | 5 => 1 ≤ n && n ≤ 8
  | 6 => n ≤ 262144
  | 7 => 1 ≤ n && n ≤ 64
  | _ => n = 1

/-- LENGTH of a section that R589 requires; a CYCLE_LEN of 0 is left to stage 6, its zero test coming before every other
(R71, R600). -/
def lengthWanted (b : Bytes) (t : Nat) : Nat :=
  match t with
  | 1 => 160
  | 2 => 32
  | 3 => 128 * secCount b 3
  | 4 => 160 * secCount b 4
  | 5 => 1024 * secCount b 5
  | 6 => 16 * secCount b 6
  | 7 => ((platRecs b).map platLen).foldl (· + ·) 0
  | _ => if imgCycle b = 0 then secLength b 8 else 8 + 64 * imgCycle b

/-- Stage 5 (R588, R589, R600): one directory entry after another, overlaps, then the order of records. A COUNT whose range
excludes 0 and which is 0 is refused first. -/
def judgeDirectory (b : Bytes) : Option PatFail :=
  let fail := fun c sec => some { code := c, stage := 5, section_ := sec : PatFail }
  let entry := fun t : Nat =>
    let e := bytesAt b (128 + 16 * (t - 1)) 16
    if fieldAt e 0 2 ≠ t || fieldAt e 2 2 ≠ 0 then fail Code.patternFormatBad t
    else if secCount b t = 0 && ([1, 2, 3, 4, 5, 7].contains t) then fail Code.patternZeroField t
    else if !countOk t (secCount b t) || secOffset b t % 16 ≠ 0 || secOffset b t < 256 ||
        imgLen b - 64 < secOffset b t + secLength b t || secLength b t ≠ lengthWanted b t then fail Code.patternFormatBad t
    else none
  let disjoint := fun t u : Nat =>
    secOffset b t + secLength b t ≤ secOffset b u || secOffset b u + secLength b u ≤ secOffset b t
  let types := [1, 2, 3, 4, 5, 6, 7, 8]
  let order := fun sec (keys : List Nat) => failAt 5 sec (firstBad (fun i _ =>
    if rising (keys.take (i + 1)) then none else some Code.patternFormatBad) 0 keys)
  firstFail (types.map entry ++
    types.map (fun t => if types.all (fun u => u ≤ t || disjoint t u) then none else fail Code.patternFormatBad t) ++
    [order 3 ((eyeRecs b).map (fun r => fieldAt r 0 2)), order 4 ((pdRecs b).map (fun r => fieldAt r 0 1)),
     order 7 ((platRecs b).map (fun r => fieldAt r 0 1)),
     failAt 5 7 (firstBad (fun _ r =>
       if rising ((recLasts r).map (fun x => fieldAt x 0 1)) && rising ((recStages r).map (fun x => fieldAt x 0 1)) then none
       else some Code.patternFormatBad) 0 (platRecs b))])

/-! ### Stage 6: every field -/

/-- The DEVICE record (R483, R592). -/
def State.judgeDevice (s : State) (r : Bytes) : Option Nat :=
  let f := fieldAt r
  firstRefusal (inRange (f 0 4) 1000 s.periodMax ++
    badRange (f 4 1 = 2 || 3 < f 4 1 || f 4 1 < s.minTamper.code) ++ badRange (1 < f 5 1) ++ isZero (f 6 1 / 4) ++
    badRange (4 < f 7 1) ++ inRange (f 8 4) 1 400000 ++ inRange (f 12 4) 1 3000 ++ isZero (f 16 16) ++
    isZero (beNat (bytesAt r (32 + 32 * f 7 1) (128 - 32 * f 7 1))))

/-- The THRESHOLD record (R593). -/
def judgeThresholds (r : Bytes) : Option Nat :=
  firstRefusal ((List.range 4).flatMap (fun i =>
    let f := fieldAt (bytesAt r (8 * i) 8)
    inRange (f 0 1) 1 3 ++ inRange (f 1 1) 1 16 ++ isZero (f 2 2) ++ inRange (f 4 4) 1000000 60000000))

/-- An EYELET record (R594, R670: an STR mode runs at 133 MHz at most). -/
def State.judgeEye (s : State) (r : Bytes) : Option Nat :=
  let f := fieldAt r
  let n := f 14 1
  firstRefusal (inRange (f 0 2) 0 511 ++ badRange (8 * s.weltCount ≤ f 0 2) ++ inRange (f 2 1) 0 3 ++
    inRange (f 3 1) 1 (if f 2 1 = 3 then 200 else 133) ++ inRange (f 4 4) 16 65536 ++ badRange (f 4 4 % 16 ≠ 0) ++ inRange (f 8 1) 0 31 ++
    inRange (f 9 1) 1 8 ++ isZero (f 11 1 / 8) ++ isZero (bitsOf (f 12 1) 6 3) ++ isZero (bitsOf (f 13 1) 6 3) ++
    inRange n 0 8 ++ isZero (f 15 1) ++ isZero (beNat (bytesAt r (16 + f 9 1) (8 - f 9 1))) ++
    inRange (f 24 4) 1 100000 ++ inRange (f 28 4) 1 4000000 ++ inRange (f 32 4) 1 4000000 ++
    inRange (f 36 4) 1 4000000 ++ inRange (f 40 4) 1 100000 ++ isZero (f 44 20) ++
    (List.range 8).flatMap (fun i => if i < n then inRange (f (64 + 8 * i) 1) 1 7 else isZero (f (64 + 8 * i) 8)))

/-- A segment entry (R111, R112's side of the variant in R8). -/
def State.judgeSeg (s : State) (g : Bytes) : List (Bool × Nat) :=
  let f := fieldAt g
  inRange (f 3 3) 1 65536 ++ isZero (f 6 1 / 8) ++ isZero (bitsOf (f 7 1) 6 3) ++
    badRange (128 ≤ f 7 1 && f 10 2 ≠ 0) ++ badRange (f 12 4 ≠ 0xFFFFFFFF && s.chanCount * chanPages ≤ f 12 4)

/-- The presented device has a SOLE or SLOTMAP window (R143, R160). -/
def soleServed (b r : Bytes) : Bool :=
  (recWins b r).any (fun w => winAction w.2 = .sole || winAction w.2 = .slotmap)

/-- A PRESENTED record (R110, R151, R595). -/
def State.judgePd (s : State) (b r : Bytes) : Option Nat :=
  let f := fieldAt r
  let modes := f 2 1 % 16
  let up := f 3 1 % 4
  let n := f 7 1
  firstRefusal (inRange (f 0 1) 0 127 ++ badRange (2 * s.weltCount ≤ f 0 1) ++ inRange (f 1 1) 24 31 ++
    inRange modes 1 15 ++ badRange (!modes.testBit 0) ++ isZero (f 2 1 / 16) ++
    badRange (!modes.testBit up || (2 ≤ up && !(f 3 1).testBit 2)) ++ isZero (f 3 1 / 8) ++
    inRange (f 4 1) 1 (min (if soleServed b r then 166 else 200) (if modes.testBit 3 then 200 else 133)) ++
    inRange (f 5 1) 1 31 ++ inRange (f 6 1) 1 8 ++ inRange n 1 8 ++
    isZero (beNat (bytesAt r (8 + f 6 1) (8 - f 6 1))) ++ inRange (f 16 4) 0 262143 ++ inRange (f 20 2) 0 32768 ++
    inRange (f 22 1) 0 7 ++ isZero (f 23 1 / 4) ++ badRange (7 < f 26 1 && f 26 1 ≠ 0xFF) ++ isZero (f 27 5) ++
    (List.range 8).flatMap (fun i =>
      let g := bytesAt r (32 + 16 * i) 16
      if i < n then s.judgeSeg g else isZero (beNat g)))

/-- A PLATFORM record (R240, R273, R596, R597). -/
def State.judgePlat (s : State) (r : Bytes) : Option Nat :=
  let f := fieldAt r
  let l := f 1 1
  firstRefusal (inRange (f 0 1) 0 63 ++ badRange (s.weltCount ≤ f 0 1) ++ inRange l 0 16 ++
    (if l = 0 then badRange (f 2 1 ≠ 0) else inRange (f 2 1) 1 8) ++ badRange ((recWelts r).length < f 3 1) ++
    isZero (f 4 2 / 256) ++ isZero (f 6 2) ++
    [(decide (f 8 8 = 0), Code.patternZeroField)] ++ badRange ((recWelts r).any (fun n => s.weltCount ≤ n)) ++
    [(decide (f 16 4 = 0), Code.patternZeroField)] ++ badRange (600000000 < f 16 4 && f 16 4 ≠ 0xFFFFFFFF) ++
    inRange (f 20 4) 0 600000000 ++ isZero (f 24 8) ++
    (recLasts r).flatMap (fun x =>
      let g := fieldAt x
      inRange (g 0 1) 0 15 ++ inRange (g 1 1) 0 127 ++ badRange (2 * s.weltCount ≤ g 1 1) ++ inRange (g 2 1) 0 7 ++
        isZero (g 3 1 / 2) ++ inRange (g 4 2) 0 1023 ++ inRange (g 6 1) 0 7 ++ badRange (7 < g 7 1 && g 7 1 ≠ 0xFF) ++
        inRange (g 20 2) 2 513 ++ isZero (g 22 10)) ++
    (recStages r).flatMap (fun x =>
      let g := fieldAt x
      badRange (!(recWelts r).contains (g 0 1)) ++ isZero (g 1 1) ++ inRange (g 2 3) 540672 704511 ++
        [(decide (g 5 3 = 0), Code.patternZeroField)]))

/-- Stage 6: section by section. Of a window entry it judges only that LENGTH is not 0, check 1 of R162, in table order, and
only inside a directory list (R162, R600); of the schedule only that CYCLE_LEN is not 0. -/
def State.judgeFields (s : State) (b : Bytes) : Option PatFail :=
  let listed := (List.range 262144).filter (fun i =>
    (pdRecs b).any (fun r => fieldAt r 16 4 ≤ i && i < fieldAt r 16 4 + fieldAt r 20 2))
  let zero := listed.find? (fun i => winLength (imgWin b i) = 0)
  firstFail [
    failAt 6 1 (firstBad (fun _ r => s.judgeDevice r) 0 [secBytes b 1]),
    failAt 6 2 (firstBad (fun _ r => judgeThresholds r) 0 [secBytes b 2]),
    failAt 6 3 (firstBad (fun _ r => s.judgeEye r) 0 (eyeRecs b)),
    failAt 6 4 (firstBad (fun _ r => s.judgePd b r) 0 (pdRecs b)),
    zero.map (fun i => { code := Code.patternZeroField, stage := 6, section_ := 6, record := i, click := some (1, i) }),
    failAt 6 7 (firstBad (fun _ r => s.judgePlat r) 0 (platRecs b)),
    if imgCycle b = 0 then
      some { code := Code.patternZeroField, stage := 6, section_ := 8, stitch := some (1, 0) }
    else none]

/-! ### Stage 7: cross-references -/

/-- Two runs, each a start and a length, share a place. -/
def runsMeet (a b : Nat × Nat) : Bool := a.1 < b.1 + b.2 && b.1 < a.1 + a.2
/-- A window covers some page of a segment. -/
def winMeets (w : WindowWord) (g : Segment) : Bool := runsMeet (winStart w, winLength w) (g.pdStart, g.pageCount)
/-- Pages of a window that a segment maps. -/
def winOverlap (w : WindowWord) (g : Segment) : Nat :=
  min (winStart w + winLength w) (g.pdStart + g.pageCount) - max (winStart w) g.pdStart
/-- The flash runs a window maps within a segment: local eyelet, first page, pages, on eyelet A and on eyelet B. -/
def winFlash (w : WindowWord) (g : Segment) : List (Nat × Nat × Nat) :=
  let o := max (winStart w) g.pdStart - g.pdStart
  let n := winOverlap w g
  if winMeets w g then
    (g.eyeletA, g.flashPageA + o, n) :: (match g.eyeletB with | some e => [(e, g.flashPageB + o, n)] | none => [])
  else []
/-- The window is a SOLE window in the sense of R160. -/
def isSole (w : WindowWord) : Bool := winAction w = .sole || winAction w = .slotmap
/-- The window is a pass-through window. -/
def isPass (w : WindowWord) : Bool := winAction w = .passR || winAction w = .passRW
/-- The windows of a welt's presented devices, each with its segments. -/
def weltWins (b : Bytes) (n : Nat) : List (WindowWord × List Segment) :=
  (pdRecs b).flatMap (fun r => if fieldAt r 0 1 / 2 = n then (recWins b r).map (fun w => (w.2, (readPd r).segments)) else [])
/-- The flash runs that windows of a kind map on a welt. -/
def mappedRuns (b : Bytes) (n : Nat) (kind : WindowWord → Bool) : List (Nat × Nat × Nat) :=
  (weltWins b n).flatMap (fun w => if kind w.1 then w.2.flatMap (winFlash w.1) else [])
/-- A run of flash pages meets one of the runs on the same local eyelet. -/
def meetsRun (l : List (Nat × Nat × Nat)) (e first n : Nat) : Bool :=
  l.any (fun x => x.1 = e && runsMeet (x.2.1, x.2.2) (first, n))
/-- The pages of a global eyelet, if the image defines it. -/
def eyeSize (b : Bytes) (e : Nat) : Option Nat := ((eyeRecs b).find? (fun r => fieldAt r 0 2 = e)).map (fun r => fieldAt r 4 4)
/-- The image defines the eyelet. -/
def eyeDefined (b : Bytes) (e : Nat) : Bool := (eyeSize b e).isSome
/-- The run lies within its eyelet; an undefined eyelet is judged later. -/
def eyeFits (b : Bytes) (e first n : Nat) : Bool := match eyeSize b e with | some z => first + n ≤ z | none => true
/-- The segment a last entry names, if there is one. -/
def lastSeg? (b : Bytes) (x : LastEntry) : Option Segment :=
  ((pdRecs b).find? (fun r => fieldAt r 0 1 = x.pd)).bind (fun r => (readPd r).segments[x.segment]?)
/-- The areas of a last entry: first page and pages (R240). -/
def lastAreas (x : LastEntry) : List (Nat × Nat) :=
  ([some x.pageA, x.pageB, x.pageG].filterMap id).map (fun p => (p, x.areaPages))

/-- R112, first three rules, for a presented device. -/
def judgeSegments (b : Bytes) (k : Nat) (r : PdRec) : Bool :=
  let gs := r.segments
  rising (gs.map (·.pdStart)) &&
  (gs.zip (gs.drop 1)).all (fun x => x.1.pdStart + x.1.pageCount ≤ x.2.pdStart) &&
  gs.all (fun g => g.pdStart + g.pageCount ≤ 2 ^ (r.sizeLog2 - 12)) &&
  gs.all (fun g => eyeFits b (8 * (k / 2) + g.eyeletA) g.flashPageA g.pageCount &&
    (match g.eyeletB with | some e => eyeFits b (8 * (k / 2) + e) g.flashPageB g.pageCount | none => true)) &&
  gs.all (fun g => g.pdStart % 16 = g.flashPageA % 16 && (g.eyeletB.isNone || g.pdStart % 16 = g.flashPageB % 16))

/-- R112, the rules about windows, for one window of a presented device with these segments. -/
def judgeWinSegs (w : WindowWord) (gs : List Segment) : Bool :=
  (gs.map (winOverlap w)).foldl (· + ·) 0 = winLength w &&
  (!isSole w || gs.all (fun g => !winMeets w g || g.solePage.isSome)) &&
  (winAction w ≠ .slotmap || gs.all (fun g => !winMeets w g || g.eyeletB.isSome))

/-- R192 for the segments of one record against those of the records before it. -/
def State.judgeSole (s : State) (before : List Segment) (gs : List Segment) : Bool :=
  let run := fun g : Segment => g.solePage.map (fun m => (m, g.pageCount))
  gs.all (fun g => match g.solePage with
    | some m => m % 16 = 0 && m / chanPages = (m + g.pageCount - 1) / chanPages && m + g.pageCount ≤ s.chanCount * chanPages
    | none => true) &&
  (List.range gs.length).all (fun i => match (gs[i]?).bind run with
    | some a => (before ++ gs.take i).all (fun h => match run h with | some c => !runsMeet a c | none => true)
    | none => true)

/-- R241 for a platform record. -/
def judgeLasts (b : Bytes) (xs : List LastEntry) : Bool :=
  let wins := fun x : LastEntry => match lastSeg? b x with
    | some g => ((pdRecs b).filter (fun r => fieldAt r 0 1 = x.pd)).flatMap (fun r =>
        ((recWins b r).map Prod.snd).filter (fun w => winMeets w g))
    | none => []
  xs.all (fun x =>
    let n := x.pd / 2
    x.pageA ≠ 0xFFFFFFFF &&
    (match lastSeg? b x with
      | some g => x.pageB.isSome == g.eyeletB.isSome && g.solePage.isSome &&
          (wins x).any isSole && !((wins x).any (fun w => winAction w = .sole) && (wins x).any (fun w => winAction w = .slotmap))
      | none => true) &&
    x.pageG.isSome == x.golden.isSome &&
    (lastAreas x).all (fun a => eyeFits b (8 * n + x.lastEyelet) a.1 a.2 &&
      !meetsRun (mappedRuns b n (fun w => isSole w || winAction w = .passRW)) x.lastEyelet a.1 a.2)) &&
  (List.range xs.length).all (fun i => match xs[i]? with
    | none => true
    | some x => (xs.take i).all (fun y => (y.pd, y.segment) ≠ (x.pd, x.segment)) &&
        (let mine := (lastAreas x).map (fun a => (8 * (x.pd / 2) + x.lastEyelet, a.1, a.2))
         let others := (xs.take i).flatMap (fun y => (lastAreas y).map (fun a => (8 * (y.pd / 2) + y.lastEyelet, a.1, a.2)))
         (List.range mine.length).all (fun j => match mine[j]? with
           | some a => !meetsRun (others ++ mine.take j) a.1 a.2.1 a.2.2
           | none => true)))

/-- R153 for a PRESENTED record. -/
def judgeBare (b r : Bytes) : Bool :=
  let e := fieldAt r 26 1
  let n := fieldAt r 0 1 / 2
  let lasts := (platRecs b).flatMap (fun p => (readPlat p).lasts)
  !((fieldAt r 24 2).testBit 15 && e = 0xFF) &&
  (e = 0xFF || (eyeDefined b (8 * n + e) && !(mappedRuns b n isSole).any (fun x => x.1 = e) &&
    !lasts.any (fun x => x.pd / 2 = n && (x.lastEyelet = e || x.golden = some e))))

/-- Stage 7: the cross-references in their order (R599). A record is judged against those before it. -/
def State.judgeLayout (s : State) (b : Bytes) : Option PatFail :=
  let pds := pdRecs b
  let plats := platRecs b
  let stages := fun r : Bytes => (readPlat r).staging
  let check := fun sec (l : List Bytes) (ok : Nat → Bytes → Bool) =>
    failAt 7 sec (firstBad (fun i r => if ok i r then none else some Code.patternLayoutBad) 0 l)
  let winBad := ((pds.flatMap (fun r => (recWins b r).filterMap (fun w =>
    if judgeWinSegs w.2 (readPd r).segments then none else some w.1))).mergeSort).head?
  firstFail [
    check 7 plats (fun i r => (recWelts r).all (fun n => !(plats.take i).any (fun q => (recWelts q).contains n))),
    check 4 pds (fun _ r => (readPd r).segments.all (fun g => match g.solePage with
      | some m => m / chanPages = weltChannel (fieldAt r 0 1 / 2) &&
          (m + g.pageCount - 1) / chanPages = weltChannel (fieldAt r 0 1 / 2)
      | none => true)),
    check 4 pds (fun _ r => judgeSegments b (fieldAt r 0 1) (readPd r)),
    winBad.map (fun i => { code := Code.patternLayoutBad, stage := 7, section_ := 6, record := i }),
    check 4 pds (fun i r => s.judgeSole ((pds.take i).flatMap (fun q => (readPd q).segments)) (readPd r).segments),
    check 7 plats (fun _ r => judgeLasts b (readPlat r).lasts),
    check 7 plats (fun i r =>
      let before := (plats.take i).flatMap stages
      let mine := stages r
      mine.all (fun a => a.first + a.frames ≤ 704512) &&
      (List.range mine.length).all (fun j => match mine[j]? with
        | some a => (before ++ mine.take j).all (fun c =>
            weltChannel c.welt ≠ weltChannel a.welt || !runsMeet (a.first, a.frames) (c.first, c.frames))
        | none => true)),
    check 4 pds (fun _ r => plats.any (fun p => (recWelts p).contains (fieldAt r 0 1 / 2))),
    check 4 pds (fun _ r => judgeBare b r),
    check 4 pds (fun _ r => (readPd r).segments.all (fun g =>
      ([some g.eyeletA, g.eyeletB].filterMap id).all (fun e => eyeDefined b (8 * (fieldAt r 0 1 / 2) + e)))),
    check 7 plats (fun _ r => (readPlat r).lasts.all (fun x =>
      ([some x.lastEyelet, x.golden].filterMap id).all (fun e => eyeDefined b (8 * (x.pd / 2) + e)))),
    check 4 pds (fun _ r => fieldAt r 22 1 < secCount b 5),
    check 7 plats (fun _ r => (readPlat r).lasts.all (fun x =>
      (recWelts r).contains (x.pd / 2) && (lastSeg? b x).isSome))]

end Sys2Proof.Machine
end

