-- ==== Sys2Proof/Machine/Pattern.lean ====
section
/-!
DEFINITION. Pattern images: stages 8 to 10 of the judgement (R71, R119, R120, R162, R599), loading and acceptance, the choice
of a slot (R466), and the table switch (R78, R179, R480).
-/
namespace Sys2Proof.Machine
open Sys2Proof

/-! ### Stage 8: the clicker's checks -/

/-- A word of an opcode map keeps to R148, and alone to R149 (check 12). -/
def judgeMapWord (w : Word) (o : Nat) : Bool :=
  let rsv := !w.getLsbD 7 && bitsOf w.toNat 31 30 = 0
  if !omEn w then rsv
  else match opRow o with
    | some row => rsv && omCls w = row.cls && (!omOctal w || row.octal) && bitsOf w.toNat 29 8 = 0
    | none =>
      rsv && omCls w = .vendor && [0, 3, 4, 7].contains (omAddr w) && omDir w ≠ 3 && omWidth w ≠ 3 && omMaxLen w ≤ 256 &&
      !(omAddr w = 0 && omDir w = 1)
/-- The DUMMY bound of R149 for the presented devices that use map `m`. -/
def judgeMapDummy (b : Bytes) (m : Nat) (w : Word) (o : Nat) : Bool :=
  !(omEn w && (opRow o).isNone && omDir w = 2) ||
    ((pdRecs b).filter (fun r => fieldAt r 22 1 = m)).all (fun r => fieldAt r 5 1 ≤ omDummy w)

/-- Checks 7 and 13 for a directory entry, against those before it. -/
def judgeDir (b : Bytes) (before : List Bytes) (r : Bytes) : Option Nat :=
  let first := fieldAt r 16 4
  let n := fieldAt r 20 2
  if 262144 < first + n || 32768 < n || (n = 0 && first ≠ 0) ||
      before.any (fun q => n ≠ 0 && fieldAt q 20 2 ≠ 0 && runsMeet (first, n) (fieldAt q 16 4, fieldAt q 20 2)) then some 7
  else if fieldAt r 24 2 &&& 0x237F ≠ 0 || secCount b 5 ≤ fieldAt r 22 1 then some 13
  else none

/-- The classes R157 lets an action allow, as a mask. -/
def actionClasses : Action → Nat
  | .deny => 0
  | .passR => 0x8003
  | .passRW => 0x803F
  | .sole => 3
  | .slotmap => 3
  | .mailbox => 0xF
  | .update => 0x3C

/-- The eyelets a window counts against (R163): global numbers. -/
def winCounts (k : Nat) (w : WindowWord) (gs : List Segment) : List Nat :=
  (gs.filter (winMeets w)).flatMap (fun g => (8 * (k / 2) + g.eyeletA) ::
    (match g.eyeletB with | some e => if winAction w = .mailbox then [] else [8 * (k / 2) + e] | none => []))

/-- A listed window: its index, its presented device's record, its place in the list. -/
structure Listed where
  index : Nat
  win : WindowWord
  rec_ : Bytes
  place : Nat

/-- The listed windows in table order. -/
def listedWins (b : Bytes) : List Listed :=
  ((pdRecs b).flatMap (fun r => ((recWins b r).zip (List.range (fieldAt r 20 2))).map (fun x =>
    { index := x.1.1, win := x.1.2, rec_ := r, place := x.2 : Listed }))).mergeSort (fun a c => a.index ≤ c.index)

/-- Checks 2 to 6 and 8 to 11 of R162 for one listed window; `before` are those earlier in table order. -/
def judgeWindow (b : Bytes) (before : List Listed) (x : Listed) : Option Nat :=
  let w := x.win
  let k := fieldAt x.rec_ 0 1
  let r := readPd x.rec_
  let same := before.filter (fun y => fieldAt y.rec_ 0 1 = k)
  let counts := fun e : Nat => ((before ++ [x]).filter (fun y =>
    (winCounts (fieldAt y.rec_ 0 1) y.win (readPd y.rec_).segments).contains e)).length
  if winActionCode w ≠ 0 && (winClasses w = 0 || winPhases w = 0) then some 2
  else if 6 < winActionCode w || winStartRsv w ≠ 0 || winSpanRsv w ≠ 0 || (4095 < winCounter w && winCounter w ≠ 0xFFFF) ||
      2 ^ (r.sizeLog2 - 12) < winStart w + winLength w then some 3
  else if winActionCode w = 0 && (winClasses w ≠ 0 || winPhases w ≠ 0) then some 4
  else if winClasses w &&& (0xFFFF - actionClasses (winAction w)) ≠ 0 then some 5
  else if same.any (fun y => winStart w < winStart y.win + winLength y.win) then some 6
  else if (winCounts k w r.segments).any (fun e => 4096 < counts e) then some 8
  else if winAction w = .mailbox && (winLength w ≠ 1 || same.any (fun y => winAction y.win = .mailbox)) then some 9
  else if isPass w && (r.segments.flatMap (winFlash w)).any (fun a =>
      meetsRun (mappedRuns b (k / 2) isSole) a.1 a.2.1 a.2.2) then some 10
  else if winAction w = .update && r.segments.any (fun g => winMeets w g && g.eyeletB.isNone) then some 11
  else none

/-- The first failing window in table order. -/
def firstWindow (b : Bytes) : List Listed → List Listed → Option (Nat × Nat)
  | _, [] => none
  | before, x :: xs => match judgeWindow b before x with
    | some c => some (c, x.index)
    | none => firstWindow b (before ++ [x]) xs

/-- Stage 8 (R162): opcode maps, then directories, then windows in table order. -/
def judgeClick (b : Bytes) : Option PatFail :=
  let fail := fun (sec idx chk entry : Nat) =>
    ({ code := if chk = 2 then Code.patternZeroField else Code.patternWindowBad, stage := 8, section_ := sec, record := idx,
       click := some (chk, entry) } : PatFail)
  let maps := (List.range (secCount b 5)).flatMap (fun m => (List.range 256).map (fun o => (m, o)))
  let badMap := maps.find? (fun x =>
    !judgeMapWord (imgMap b x.1 x.2) x.2 || !judgeMapDummy b x.1 (imgMap b x.1 x.2) x.2)
  let pds := pdRecs b
  firstFail [
    badMap.map (fun x => fail 5 x.1 12 (256 * x.1 + x.2)),
    (firstBad (fun i r => judgeDir b (pds.take i) r) 0 pds).map (fun x =>
      fail 4 x.1 x.2 (fieldAt (pds.getD x.1 []) 0 1)),
    (firstWindow b [] (listedWins b)).map (fun x => fail 6 x.2 x.1 x.2)]

/-! ### Stage 9: timing -/

/-- The eyelets behind a presented device's pass-through windows, BARE_EYELET counted under R153 (R119, R120). -/
def passEyelets (b r : Bytes) : List Nat :=
  let n := 8 * (fieldAt r 0 1 / 2)
  (((recWins b r).filter (fun w => isPass w.2)).flatMap (fun w =>
    ((readPd r).segments.filter (winMeets w.2)).map (fun g => n + g.eyeletA)) ++
    (if (fieldAt r 24 2).testBit 15 && fieldAt r 26 1 ≠ 0xFF then [n + fieldAt r 26 1] else [])).eraseDups
/-- The EYELET record of a global eyelet. -/
def eyeOf (b : Bytes) (e : Nat) : EyeletRec := readEye (((eyeRecs b).find? (fun r => fieldAt r 0 2 = e)).getD [])
/-- An opcode is enabled in a mode (R147). -/
def enabledIn (w : Word) (mode : Nat) : Bool :=
  omEn w && (if 2 ≤ mode then omOctal w else if mode = 1 then omQuad w else true)
/-- The largest host byte rate of R119, in eighths of a byte per microsecond. -/
def hostRate (b r : Bytes) : Nat :=
  let m := fieldAt r 22 1
  let clk := fieldAt r 4 1
  let rates := (List.range 4).flatMap (fun mode =>
    if !(fieldAt r 2 1).testBit mode then [] else (List.range 256).map (fun o =>
      let w := imgMap b m o
      let row := opRow o
      let reads := match row with
        | some x => x.cls = .read || x.cls = .fastRead
        | none => omDir w = 2
      let base := match row with | some x => x.lines | none => match omWidth w with | 0 => 1 | 1 => 4 | _ => 8
      let lines := if mode = 0 then base else if mode = 1 then 4 else 8
      if enabledIn w mode && reads then lines * clk * (if mode = 3 then 2 else 1) else 0))
  rates.foldl max 0
/-- D of R120: the largest of its terms times HOST_CLOCK_MAX, each exact and rounded up. -/
def dummyOf (b r : Bytes) : Nat :=
  let h := fieldAt r 4 1
  let terms := [ceilDiv (40 * h) 1000] ++ (if soleServed b r then [ceilDiv (180 * h) 1000] else []) ++
    (passEyelets b r).map (fun e =>
      let y := eyeOf b e
      ceilDiv ((45 * y.clock + 1000 * y.flashDummy) * h) (1000 * y.clock))
  terms.foldl max 0

/-- Stage 9 (R119, R120, R484, R577). -/
def State.judgeTiming (s : State) (b : Bytes) : Option PatFail :=
  let check := fun sec (l : List Bytes) (ok : Bytes → Bool) =>
    failAt 9 sec (firstBad (fun _ r => if ok r then none else some Code.patternTimingBad) 0 l)
  let dev := secBytes b 1
  let p := fieldAt dev 0 4
  let er := fieldAt dev 8 4
  firstFail [
    check 4 (pdRecs b) (fun r => (passEyelets b r).all (fun e =>
      let y := eyeOf b e
      y.mode = 3 && 150 ≤ y.clock && hostRate b r ≤ 16 * y.clock)),
    check 4 (pdRecs b) (fun r => fieldAt r 5 1 = dummyOf b r),
    check 1 [dev] (fun _ => 4 * er ≤ p && 2 * er ≤ p - ceilDiv (s.fuseK * p) 16)]

/-! ### Stage 10: the schedule -/

/-- A row holds no illegal code and no reserved bit (R63, check 3). -/
def rowLegal (r : Bytes) : Bool :=
  (List.range 8).all (fun c => fieldAt r (3 * c) 3 < 2 ^ 20 && (List.range 10).all (fun k => rowS8 r c k ≠ 2)) &&
  (List.range 64).all (fun n => rowAwl r n ≤ 10) && [0, 1, 2, 3].all (fun e => rowPe r e ≤ 4) &&
  rowDg r 0 ≤ 6 && rowDg r 1 ≤ 6 && fieldAt r 59 1 < 16 && fieldAt r 60 1 < 2 && fieldAt r 61 3 = 0
/-- A row names nothing beyond the variant (check 4). -/
def State.rowVariant (s : State) (r : Bytes) : Bool :=
  (List.range 8).all (fun c => c < s.chanCount || fieldAt r (3 * c) 3 = 0x0FFFFF) &&
  (List.range 64).all (fun n => n < s.weltCount || rowAwl r n = 0) &&
  [0, 1, 2, 3].all (fun q => q < s.quarterCount || !rowCob r q)
/-- Steps a row grants to attestation. -/
def rowAtt (r : Bytes) : Nat := ([0, 1, 2, 3].filter (fun e => rowPe r e = 3)).length
/-- The sum of a count over `n` consecutive rows of a cycle from row `i`. -/
def cyclicSum (f : Bytes → Nat) (rows : List Bytes) (i n : Nat) : Nat :=
  ((List.range n).map (fun j => f (rows.getD ((i + j) % rows.length) []))).foldl (· + ·) 0

/-- Half clocks of the flash side per byte in a mode (R594). -/
def halfClocks : Nat → Nat
  | 0 => 16
  | 1 => 4
  | 2 => 2
  | _ => 1
/-- A transaction of `bytes` bytes beside an opcode, with `dummy` clocks, fits in 900 ns (check 10). -/
def fits900 (y : EyeletRec) (bytes dummy : Nat) : Bool :=
  10 * ((bytes + if 2 ≤ y.mode then 2 else 1) * halfClocks y.mode + 2 * dummy) ≤ 18 * y.clock
/-- Some opcode of a class is enabled for a presented device. -/
def enablesCls (b r : Bytes) (c : Cls) : Bool :=
  (List.range 256).any (fun o => let w := imgMap b (fieldAt r 22 1) o; omEn w && omCls w = c)
/-- The VENDOR words with DIR 0 or 1 that a presented device enables, addressed or not. -/
def vendorWords (b r : Bytes) (addressed : Bool) : List Word :=
  ((List.range 256).filter (fun o => (opRow o).isNone)).map (imgMap b (fieldAt r 22 1)) |>.filter (fun w =>
    omEn w && omDir w ≤ 1 && (decide (omAddr w ≠ 0) == addressed))
/-- A VENDOR transaction fits (check 10). -/
def vendorFits (y : EyeletRec) (w : Word) : Bool :=
  fits900 y ((if omAddr w = 0 then 0 else if omAddr w = 3 && y.mode < 2 then 3 else 4) + omMaxLen w) (omDummy w)

/-- Check 10 for one presented device: every transaction other than a read that it can forward. -/
def judgeForward (b r : Bytes) : Bool :=
  let n := 8 * (fieldAt r 0 1 / 2)
  let gs := (readPd r).segments
  let writes : List (Nat × Cls) := (recWins b r).flatMap (fun w =>
    (gs.filter (winMeets w.2)).flatMap (fun g =>
      let eyes := if winAction w.2 = .passRW then [n + g.eyeletA]
        else if winAction w.2 = .update then (n + g.eyeletA) :: (g.eyeletB.map (n + ·)).toList else []
      eyes.flatMap (fun e => ([Cls.program, .erase4K, .erase32K, .erase64K].filter (fun c =>
        (winClasses w.2).testBit c.code && enablesCls b r c)).map (fun c => (e, c)))))
  let vendors : List (Nat × Word) :=
    (recWins b r).flatMap (fun w => if isPass w.2 && (winClasses w.2).testBit 15 then
      (gs.filter (winMeets w.2)).flatMap (fun g => ((vendorWords b r true).filter (fun v =>
        omDir v ≠ 1 || winAction w.2 = .passRW)).map (fun v => (n + g.eyeletA, v))) else []) ++
    (if (fieldAt r 24 2).testBit 15 && fieldAt r 26 1 ≠ 0xFF then
      (vendorWords b r false).map (fun v => (n + fieldAt r 26 1, v)) else [])
  let suspends := (fieldAt r 24 2).testBit 12 && enablesCls b r .suspendResume
  writes.all (fun x => fits900 (eyeOf b x.1) (if x.2 = .program then 260 else 4) 0) &&
  vendors.all (fun x => vendorFits (eyeOf b x.1) x.2) &&
  (!suspends || ((writes.map Prod.fst) ++ (vendors.map Prod.fst)).all (fun e => fits900 (eyeOf b e) 0 0))

/-- Stage 10: checks 2 to 10 of R71, in order; the row is the first at which a check fails. -/
def State.judgeSchedule (s : State) (b : Bytes) : Option PatFail :=
  let rows := imgRows b
  let n := rows.length
  let fail := fun chk row =>
    ({ code := Code.patternScheduleOverflow, stage := 10, section_ := 8, stitch := some (chk, row) } : PatFail)
  let byRow := fun chk (ok : Nat → Bytes → Bool) =>
    (firstBad (fun i r => if ok i r then none else some chk) 0 rows).map (fun x => fail chk x.1)
  let once := fun chk (ok : Bool) => if ok then none else some (fail chk 0)
  let plats := (platRecs b).map readPlat
  let boots := plats.filter (fun p => p.lasts.any (·.boot))
  let cobs := (plats.filter (·.cobblerEn)).flatMap (·.lasts)
  let slot := fun w code => rows.any (fun r => (List.range 10).any (fun k => rowS8 r (weltChannel w) k = code))
  let pe := fun owner => rows.any (fun r => [0, 1, 2, 3].any (fun e => rowPe r e = owner))
  firstFail [
    once 2 (n ≤ 1024 && fieldAt (secBytes b 8) 4 4 = 64 * n),
    if fieldAt (secBytes b 8) 2 2 ≠ 0 then some (fail 3 0) else byRow 3 (fun _ r => rowLegal r),
    byRow 4 (fun _ r => s.rowVariant r),
    byRow 5 (fun _ r => rowDg r 0 = 0),
    byRow 6 (fun i _ => 1 ≤ cyclicSum (fun r => b2n (rowLog r)) rows i 16),
    byRow 7 (fun i _ => 84 ≤ cyclicSum rowAtt rows i 1968),
    once 8 (boots.all (fun p => p.welts.all (fun w => rows.any (fun r => rowAwl r w ≠ 0) && slot w 0)) &&
      (boots = [] || pe 1)),
    once 9 (cobs.all (fun x => rows.any (fun r => rowCob r (weltQuarter (x.pd / 2))) && slot (x.pd / 2) 1) &&
      (!plats.any (·.cobblerEn) || pe 2)),
    once 10 ((pdRecs b).all (judgeForward b))]

/-! ### Loading and acceptance (R184, R601, R607) -/

/-- The section contents loaded into the loading banks (R601). The directory words of a presented device that the pattern does not
define are 0, BARE_EYELET among them, which R601 does not say (DESIGN CHOICE, log entry 94). -/
def State.loadBanks (s : State) (b : Bytes) : State :=
  { s with
    click := { s.click with
      dirL := (pdRecs b).foldl (fun t r => tset {} t (fieldAt r 0 1) (readDir r)) []
      mapL := (List.range (256 * secCount b 5)).foldl (fun t i => tset 0 t i (imgMap b (i / 256) (i % 256))) []
      winL := (List.range (secCount b 6)).foldl (fun t i => tset 0 t i (imgWin b i)) [] }
    stitch := { s.stitch with loading := { rows := imgRows b } } }

/-- The ten stages of R599. -/
def State.judgePattern (s : State) (b : Bytes) (fits : Nat → Bool) : Option PatFail :=
  s.judgeHeader b fits <|> judgeDirectory b <|> s.judgeFields b <|> s.judgeLayout b <|> judgeClick b <|> s.judgeTiming b <|>
    s.judgeSchedule b

/-- PAT_LOAD, CLICK_CHECK and STITCH_CHECK after a judgement; an image refused before stage 10
for another reason than check 1 of R71 has offered no schedule (R71, R89). -/
def State.noteJudged (s : State) (f : Option PatFail) : State :=
  let ck := f.bind (·.click)
  let sk := f.bind (·.stitch)
  { s with
    patLoad := match f with
      | some x => { code := x.code, stage := x.stage, section_ := x.section_, record := x.record, failed := true }
      | none => {}
    click := { s.click with
      checkNo := match ck with | some x => x.1 | none => 0
      checkEntry := match ck with | some x => x.2 | none => 0
      checkFailed := ck.isSome }
    stitch := match f with
      | some x => if x.stage < 10 && sk.isNone then s.stitch else { s.stitch with
          checkNo := match sk with | some x => x.1 | none => 0
          checkRow := match sk with | some x => x.2 | none => 0
          checkFailed := sk.isSome }
      | none => { s.stitch with checkNo := 0, checkRow := 0, checkFailed := false } }

/-- An image judged: the code it is refused with, or the pattern (R599, R604); the loading banks take it from stage 5 on. -/
def State.judgeImage (s : State) (b : Bytes) (slot : Nat) (fits : Nat → Bool) : (Nat ⊕ Pattern) × State :=
  let early := s.judgeHeader b fits <|> judgeDirectory b
  let s := if early.isNone then s.loadBanks b else s
  let f := s.judgePattern b fits
  let s := s.noteJudged f
  match f with
  | some x => (.inl x.code, s)
  | none => (.inr (readPattern b ((s.ownerKeyUsable (imgKey b)).getD 0) slot), s)

/-- The image at a place of pattern memory: IMAGE_LEN bytes, or its header alone where that is out of range. -/
def State.imageAt (s : State) (base : Nat) : Bytes :=
  let n := imgLen (s.pmBytes base 128)
  s.pmBytes base (if 4096 ≤ n && n ≤ 8388608 then n else 128)

/-- Acceptance (R601, R699): firmware asks for the holds of the platforms that the pattern changes, then PATTERN_PARAMS, then
TABLE_SWITCH. -/
def State.acceptPattern (s : State) (t : Pattern) : State :=
  let s : State := { s with patNext := some t }
  let held := s.changedPlats.filter (fun p => (s.platRec? p).isSome && !(s.plat p).hold)
  let s := held.foldl (fun s p => s.post 0x01 0 (natBE 1 p ++ natBE 1 3)) s
  let blind := maskOf ((t.plats.filter (fun x => x.2.runBlind)).map Prod.fst)
  let s := s.post 0x11 0 (natBE 4 t.device.heelPeriod ++ natBE 1 t.device.tamperLevel ++ natBE 1 (b2n t.device.freezePermit) ++
    natBE 8 blind)
  s.post 0x07 0 []

/-! ### The choice of a slot (R465, R466) -/

/-- The slot's image as R599 judges it. -/
def State.judgeSlot (s : State) (k : Nat) : Option PatFail := s.judgePattern (s.imageAt (patSlotBase k)) (fun n => n ≤ 8388608)
/-- The slot's image verifies: signature, format and load checks pass (R465). -/
def State.slotVerifies (s : State) (k : Nat) : Bool := (s.judgeSlot k).isNone
/-- UPDATE_SEQUENCE of a pattern slot. -/
def State.slotSequence (s : State) (k : Nat) : Nat := imgSequence (s.pmBytes (patSlotBase k) 128)
/-- A pattern flag word: ACTIVE, FLOOR_PENDING, SET and GEN (R465). -/
def mkPatFlag (active : Nat) (pending set : Bool) (gen : Nat) : Nat :=
  active % 2 + 2 * b2n pending + 4 * b2n set + 65536 * (gen % 65536)
/-- The slot that R466 chooses. -/
def State.patternSlot (s : State) : Option Nat :=
  let w := s.patFlag
  if w.testBit 2 then
    let k := w % 2
    let floor := if w.testBit 1 then 0 else s.patFloor
    if s.slotVerifies k && floor ≤ s.slotSequence k then some k else none
  else match s.slotVerifies 0, s.slotVerifies 1 with
    | true, true => if s.slotSequence 0 < s.slotSequence 1 then some 1 else some 0
    | true, false => some 0
    | false, true => some 1
    | false, false => none

/-- A pending floor is completed: PATTERN_FLOOR is written with the active slot's sequence, then FLOOR_PENDING 0 is asked for
(R466, R467 step 5). -/
def State.settleFloor (s : State) : State :=
  let w := s.patFlag
  (s.setBytes patFloorAddr (natBE 8 (s.slotSequence (w % 2)))).askFlag
    (mkPatFlag (w % 2) false (w.testBit 2) (bitsOf w 31 16 + 1))
/-- The flag's writes of R466, each through the heel (R474): a first choice sets SET and ACTIVE, a pending floor is completed. -/
def State.settlePatFlag (s : State) : State :=
  let w := s.patFlag
  if !s.fw || !s.boot.patChosen || s.heelAsked then s
  else if !w.testBit 2 then s.askFlag (mkPatFlag s.boot.patSlot true true (bitsOf w 31 16 + 1))
  else if w.testBit 1 then s.settleFloor
  else s
/-- The flag stands as R466 leaves it for the slot chosen. -/
def State.patFlagSettled (s : State) : Bool :=
  !s.heelAsked && s.patFlag.testBit 2 && !s.patFlag.testBit 1 && decide (s.patFlag % 2 = s.boot.patSlot)

/-- The slot holds no image: its header is erased. -/
def State.slotErased (s : State) (k : Nat) : Bool := (s.pmBytes (patSlotBase k) 128).all (fun x => x = 0xFF)
/-- The slots that the choice judges, in order: the ACTIVE one once SET is 1, else both (R466). An erased slot holds no image
to judge. -/
def State.slotsJudged (s : State) : List Nat :=
  (if s.patFlag.testBit 2 then [s.patFlag % 2] else [0, 1]).filter (fun k => !s.slotErased k)
/-- PAT_LOAD reports the latest image judged (R607). -/
def State.noteChoice (s : State) : State :=
  match s.slotsJudged.getLast? with
  | some k => s.noteJudged (s.judgeSlot k)
  | none => s

/-- PATTERN_CHOICE (R466): firmware chooses the slot after hand-over and asks for the flag's writes, or reports NO_PATTERN. -/
def execPatternChoice (s : State) : Host.Outcome State Fault Refusal :=
  if !s.live || !s.sys.mgmtUp || s.patNext.isSome || s.boot.patChosen || s.boot.noPattern then .next s
  else match s.patternSlot with
    | some k => .next ({ s with boot := { s.boot with patChosen := true, patSlot := k } } : State).settlePatFlag
    | none =>
      .next (({ s.noteChoice with boot := { s.boot with noPattern := true } } : State).bootRecord Code.noPattern)

/-- PATTERN_LOAD (R599, R601): once the flag is settled, the chosen slot's image is judged, and accepted or refused. -/
def execPatternLoad (s : State) : Host.Outcome State Fault Refusal :=
  let inForce : Bool := match s.pat with | some t => decide (t.slot = s.boot.patSlot) | none => false
  if !s.live || !s.sys.mgmtUp || !s.boot.patChosen || inForce || s.patNext.isSome || !s.patFlagSettled then .next s
  else
    let k := s.boot.patSlot
    match s.judgeImage (s.imageAt (patSlotBase k)) k (fun n => n ≤ 8388608) with
    | (.inl _, s) => .next s
    | (.inr t, s) => .next (s.acceptPattern t)

/-! ### The table switch (R78, R175, R179, R226, R258, R480, R699, R705) -/

/-- A platform that the pattern changes goes to HELD through the gated hold; one that is HELD already ends its job and its
lease (R275, R699). -/
def State.changeHold (s : State) (p : Nat) : State :=
  let t := s.plat p
  if t.state = .retired then s
  else if t.state ≠ .held || !t.hold then s.holdNow p .held 13
  else if s.pat.isSome then
    let s := if (s.plat p).act.any (fun a => !a.committed) then s.dropFlag p else s
    let s := (s.platRec p).welts.foldl (fun s w => s.modWelt w (fun x => { x with buf := [], dsec := none })) s
    (s.closeJournal p).modPlat p (fun t => { t with
      cob := none, cobQueue := [], cobDone := [], cobWhole := false, waitingLost := [], fillOwed := false
      fill := none, act := none, lease := none, writeback := none, recovery := none })
  else s

/-- An eyelet of the new pattern: released from reset, or pulsed when its record changed (R135, R137, R138). -/
def State.eyeletSwitch (s : State) (old : Option Pattern) (e : Nat) (r : EyeletRec) : State :=
  let s := s.modEye e (fun y => { y with resetWhenIdle := false })
  if !s.drives then s
  else if (s.eye e).phase = .inReset then
    (s.modEye e (fun y => { y with phase := .recovery (s.now + r.resetRecovery), idRead := false, idBad := false })).emit
      (.flashReset e false)
  else if old.bind (fun t => tfind t.eyelets e) ≠ some r && !s.weltReleased (e / 8) then s.pulse e
  else s

/-- An operation of the point engines whose engine the new schedule grants to its owner in no row: aborted and queued again
(R705). -/
def State.requeueOps (s : State) : State :=
  let rows := s.stitch.active.rows
  let lost := s.point.ops.filter (fun o => match o.engine with
    | some e => !rows.any (fun r => rowPe r e = o.owner)
    | none => false)
  lost.foldl (fun s o => (s.abortOp o.owner o.ident).startOp o.owner o.ident o.op o.total) s

/-- The boundary of a table switch: the active banks take the loading ones, which keep their content (log entry 82). A latch
record stays where entry, segment and anchors stay the same (R240, R258). A buffered page whose mirror page moves goes with it
(R226). -/
def State.tableSwitchNow (s : State) : State :=
  match s.patNext with
  | none => s
  | some t =>
    let before := s
    let s := s.treadClear
    let changed := s.changedPlats
    let s := changed.foldl (fun s p => s.changeHold p) s
    let gone := (List.range s.weltCount).filter (fun n => (s.weltPlat n).isSome && (patWeltPlat t n).isNone)
    let s : State := { s with
      pat := some t, patNext := none
      click := { s.click with
        loaded := true, switchPending := false, switches := satInc 0xFFFF s.click.switches, suppressed := 0
        dirA := s.click.dirL, mapA := s.click.mapL, winA := s.click.winL, allow := [], deny := [] }
      stitch := { s.stitch with active := s.stitch.loading, switchPending := false }
      pds := tmapAll {} s.pds (fun _ d => { d with defaultDeny := 0, suppressed := 0 })
      att := { s.att with policy := t.policy }
      boot := { s.boot with patChosen := true, patSlot := t.slot, noPattern := false }
      pair := { s.pair with differsTold := false } }
    let s := gone.foldl (fun s n => s.weltUnboundNow n) s
    let s := (changed.flatMap (fun p => weltPds (s.platRec p).welts)).foldl (fun s k => s.resetPd k) s
    let fields := fun (s : State) l => (s.lastEntry? l).map (fun x => (x, s.lastSegment x, (s.platRec (l / 16)).anchors))
    let same := fun l => fields before l = fields s l
    let s : State := { s with latches := s.latches.filter (fun e => same e.1) }
    let moved := (s.sole.pages.map Prod.fst).filter (fun m =>
      before.pagePlat m ≠ s.pagePlat m || before.refillSource m ≠ s.refillSource m)
    let runs := moved.map (fun m => (m, 1))
    let s := (s.emptyRuns runs).dropRefills runs
    let s : State := { s with welts := tmapAll {} s.welts (fun _ w => { w with
      buf := w.buf.filter (fun b => !moved.contains b.mirror), dsec := none }) }
    let s := t.eyelets.foldl (fun s e => if (s.weltPlat (e.1 / 8)).isSome then s.eyeletSwitch before.pat e.1 e.2 else s) s
    let s := match s.heel.params with
      | some q => s.modHeel (fun h => { h with
          ring := tmod {} h.ring q.entry (fun e => { e with stitch := s.now }), startup := false
          nextPeriod := some q.period, patLevel := some (Level.ofCode q.level), freezePermit := q.freezePermit
          runBlind := q.runBlind, params := none })
      | none => s
    let s := match s.heel.switchAsked with
      | some i => (s.modRing i (fun e => { e with stitch := s.now })).modHeel (fun h => { h with switchAsked := none })
      | none => s
    let s := s.requeueOps
    match s.boot.pat with
    | some l => match l.closing with
      | some (o, _, _) => ({ s with boot := { s.boot with pat := none } } : State).answer o Code.ok (natBE 4 0)
      | none => s
    | none => s

end Sys2Proof.Machine
end

