-- ==== Sys2Proof/Machine/Stage.lean ====
section
/-!
DEFINITION. Staging over VAMP (R288 to R300, R450 to R454, R467, R468, R572 to R577): leases, data, and what STAGE_CLOSE does
for a platform, a firmware, a pattern and a certificate lease.
-/
namespace Sys2Proof.Machine
open Sys2Proof

/-- SM3 of the ADAPTER_KEY of a channel's session. -/
def State.chanKey (s : State) (ch : Nat) : Digest := match s.session? ch with | some x => x.key | none => 0

/-- An UPDATE record with lease and holder (R288, R627). -/
def State.leaseRecord (s : State) (subj : Subject) (code number holder : Nat) : State :=
  s.event 0x08 subj code (natBE 4 number ++ natBE 1 holder)
/-- The code of a holder. -/
def Holder.code : Holder → Nat
  | .host => 1
  | .session _ => 2
/-- A request meets a held lease: BUSY, with a record that names the holder (R288, R452). -/
def State.leaseBusy (s : State) (o : Origin) (subj : Subject) (number holder : Nat) : State :=
  (s.leaseRecord subj Code.stagingLeaseHeld number holder).answer o Code.busy

/-- A fresh lease number. -/
def State.nextLease (s : State) : Nat × State :=
  let n := (s.boot.leaseSeq + 1) % 2 ^ 32
  (n, { s with boot := { s.boot with leaseSeq := n } })

/-- The base of a target's staging region. -/
def stageBase (target : Nat) : Nat := if target = 1 then fwStaging else patStaging
/-- The lease of a target: 1 firmware, 2 pattern, 3 certificates. -/
def State.target (s : State) : Nat → Option TargetLease
  | 1 => s.boot.fw
  | 2 => s.boot.pat
  | 3 => s.boot.certs
  | _ => none
/-- The lease of a target set. -/
def State.setTarget (s : State) (t : Nat) (l : Option TargetLease) : State :=
  match t with
  | 1 => { s with boot := { s.boot with fw := l } }
  | 2 => { s with boot := { s.boot with pat := l } }
  | 3 => { s with boot := { s.boot with certs := l } }
  | _ => s
/-- The target a lease number belongs to. -/
def State.targetOf (s : State) (n : Nat) : Option (Nat × TargetLease) :=
  ([1, 2, 3].filterMap (fun t => (s.target t).map (fun l => (t, l)))).find? (fun x => x.2.number = n)
/-- The platform a lease number belongs to. -/
def State.platLease (s : State) (n : Nat) : Option (Nat × Lease) :=
  ((List.range 64).filterMap (fun p => (s.plat p).lease.map (fun l => (p, l)))).find? (fun x =>
    x.2.number = n && x.2.holder ≠ .host)
/-- The lease keeps to the session of the adapter that opened it. -/
def State.ownsLease (s : State) (ch : Nat) (l : Lease) : Bool := l.holder = .session (s.chanKey ch)

/-! ### STAGE_OPEN -/

/-- The declared length fits the target (R453, R587). -/
def targetLength (t n : Nat) : Bool :=
  match t with
  | 1 => 69632 ≤ n && n ≤ 3211264 && n % 4096 = 0
  | 2 => 4096 ≤ n && n ≤ 8388608 && n % 16 = 0
  | _ => n = 1048576

/-- STAGE_OPEN for a platform (R288, R289, R297, R298). A frame that the self-test retired holds no page (log entry 75). -/
def State.openPlatform (s : State) (o : Origin) (p purpose mask len : Nat) : State :=
  let r := s.platRec p
  let t := s.plat p
  let slotMask := maskOf ((s.slottedLasts p).map (·.entry))
  let all := maskOf (r.lasts.map (·.entry))
  let maskBad := if purpose = 0 then mask ≠ slotMask else mask = 0 || (mask ||| all) ≠ all
  let welts := ((s.maskEntries p mask).map (fun x => x.pd / 2)).eraseDups
  let ovr := welts.any (fun w => decide ((s.stagingFrames p w).length < s.bundleOn p mask w))
  if s.weltCount ≤ p then s.answer o Code.vampBodyBad
  else if !r.updateEn || t.state = .retired then s.answer o Code.phaseRefused
  else match t.lease with
    | some l => s.leaseBusy o (.platform p) l.number l.holder.code
    | none =>
      if maskBad then s.answer o Code.vampBodyBad
      else if len = 0 || len ≠ 4096 * s.bundlePages p mask then s.answer o Code.stageLengthBad
      else if ovr then s.answer o Code.stageCapacity
      else
        let (n, s) := s.nextLease
        let (v, s) := s.draw
        let l : Lease := { holder := .session (s.chanKey o.ch), purpose := if purpose = 0 then .slot else .recovery,
                           mask := mask, length := len, number := n, key := v.setWidth 128, lastData := s.now }
        (s.modPlat p (fun t => { t with lease := some l })).answer o Code.ok (natBE 4 n ++ natBE 4 0)

/-- STAGE_OPEN for FIRMWARE, PATTERN or CERTS (R452 to R454); FIRMWARE is answered once STAGED_READY is 0. -/
def State.openTarget (s : State) (o : Origin) (t len : Nat) : State :=
  let held := match t with
    | 1 => s.boot.fw
    | _ => match s.boot.pat with | some l => some l | none => s.boot.certs
  match held with
  | some l => s.leaseBusy o .device l.number 2
  | none =>
    if !targetLength t len then s.answer o Code.stageLengthBad
    else if t = 1 && !s.ringSpare then s.answer o Code.busy
    else
      let (n, s) := s.nextLease
      let l : TargetLease := { number := n, key := s.chanKey o.ch, length := len, lastData := s.now
                               opening := if t = 1 then some o else none }
      let s := s.setTarget t (some l)
      if t = 1 then s.post 0x0D 0 [0] else s.answer o Code.ok (natBE 4 n ++ natBE 4 0)

/-- STAGE_OPEN (R288, R289, R297, R298, R452 to R454). -/
def execStageOpen (ch : Nat) (s : State) : Host.Outcome State Fault Refusal :=
  s.serve ch 0x0040 (fun _ => true) (fun s o b =>
    let t := fieldAt b 3 1
    if t = 0 then s.openPlatform o (fieldAt b 2 1) (fieldAt b 1 1) (fieldAt b 6 2) (fieldAt b 8 4)
    else s.openTarget o t (fieldAt b 8 4))

/-! ### STAGE_DATA -/

/-- The offset the platform lease expects next: the first page not yet received. -/
def Lease.nextOffset (l : Lease) : Nat :=
  4096 * (((List.range (l.length / 4096)).find? (fun i => !tget false l.received i)).getD (l.length / 4096))

/-- Pages accepted into the staging store (R195, R298). -/
def State.stagePages (s : State) (p : Nat) (l : Lease) (first : Nat) (data : Bytes) : State :=
  (List.range (data.length / 4096)).foldl (fun s i => s.stagePage p l (first + i) (bytesAt data (4096 * i) 4096)) s

/-- Whole 64 KiB units written to the staging region, and at the close the last part of one (R453). -/
def State.writeUnits (s : State) (t : Nat) (l : TargetLease) (data : Bytes) (close : Bool) : State :=
  let all := l.buf ++ data
  let start := l.next - l.buf.length
  let n := if close then all.length else all.length / 65536 * 65536
  let s := (List.range (ceilDiv n 65536)).foldl (fun s i =>
    s.writeUnit (stageBase t + start + 65536 * i) (bytesAt all (65536 * i) (min 65536 (n - 65536 * i)))) s
  s.setTarget t (some { l with next := l.next + data.length, buf := all.drop n, lastData := s.now })

/-- STAGE_DATA (R290, R298, R453, R576). -/
def execStageData (ch : Nat) (s : State) : Host.Outcome State Fault Refusal :=
  s.serve ch 0x0041 (fun _ => true) (fun s o b =>
    let n := fieldAt b 0 4
    let off := fieldAt b 4 4
    let data := b.drop 8
    match s.platLease n, s.targetOf n with
    | some (p, l), _ =>
      let first := off / 4096
      let k := data.length / 4096
      if !s.ownsLease ch l || l.verifying then s.answer o Code.phaseRefused
      else if off % 4096 ≠ 0 || data.length % 4096 ≠ 0 || l.length < off + data.length ||
          (List.range k).any (fun i => tget false l.received (first + i)) then s.answer o Code.stageLengthBad
      else
        let s := (s.stagePages p l first data).modPlat p (fun t => { t with
          lease := t.lease.map (fun l => { l with lastData := s.now }) })
        let next := match (s.plat p).lease with | some l => l.nextOffset | none => 0
        s.answer o Code.ok (natBE 4 next)
    | none, some (t, l) =>
      if l.key ≠ s.chanKey ch || l.closing.isSome || l.opening.isSome then s.answer o Code.phaseRefused
      else if off ≠ l.next || l.length < off + data.length then s.answer o Code.stageLengthBad
      else if 131072 < l.buf.length + data.length then s.answer o Code.busy
      else (s.writeUnits t l data false).answer o Code.ok (natBE 4 (off + data.length))
    | none, none => s.answer o Code.phaseRefused)

/-! ### STAGE_CLOSE (R299, R454, R467, R468, R577) -/

/-- DEADLINE (R577). -/
def State.closeDeadline (s : State) (len units : Nat) : Nat :=
  let (e, g) := match s.pat with
    | some t => (t.device.eraseMax, t.device.programMax)
    | none => (400000, 3000)
  2000 + 4 * ceilDiv len 3200 + units * (16 * e + 256 * g)

/-- A platform's lease ends, and what it staged is discarded (R291): a write-back of it stops, a repair from it loses its
source. -/
def State.dropLease (s : State) (p : Nat) : State :=
  let s := s.modPlat p (fun t => { t with lease := none, writeback := none, recovery := none })
  let s := match (s.plat p).act with
    | some a => if a.writeback && !a.committed then
        (s.modPlat p (fun t => { t with act := none })).abortOp 4 (actIdent (16 * p + a.headers.headD 0)) else s
    | none => s
  match (s.plat p).cob with
  | some j =>
    if j.writeback then (s.closeJournal p).modPlat p (fun t => { t with cob := none })
    else if j.source = 2 && j.waiting.isNone then s.cobSourceFails p
    else s
  | none => s

/-- The slot a bundle is for: the inactive one, or A for recovery. -/
def State.bundleSource (s : State) (p : Nat) (l : Lease) : Source := if l.purpose = .slot then s.inactive p else .a
/-- Checks 1 to 7 of a staged last's header (R243, R299). -/
def State.stagedHeader (s : State) (p : Nat) (l : Lease) (x : LastEntry) : Option Nat :=
  s.headerChecks x (sourceEyelet x (s.lastSegment x) (s.bundleSource p l)) (s.bundleHeader p l.mask x)
/-- Checks 8 and 9 of a staged last, then its table and its pages (R243, R245, R299): the code of the first that fails, and the
page. -/
def State.stagedFails (s : State) (p : Nat) (l : Lease) (x : LastEntry) : Option (Nat × Option Nat) :=
  let h := s.bundleHeader p l.mask x
  let tb := s.bundleTable p l.mask x
  let base := s.bundleBase p l.mask x.entry + x.areaPages
  match s.signerChecks p h with
  | some c => some (c, none)
  | none =>
    if sm3 tb ≠ hdrTable h then some (Code.tableDigestMismatch, none)
    else ((List.range (hdrPages h)).find? (fun j => sm3 (s.bundlePage p l.mask (base + j)) ≠ tableEntry tb j)).map
      (fun j => (Code.pageDigestMismatch, some j))

/-- A recovery bundle has verified for a QUARANTINED platform: source selection starts again (R275). -/
def State.startRecovery (s : State) (p cause : Nat) : State :=
  let bad := s.failedEntries p
  let s := if (s.platRec p).cobblerEn then
      s.modPlat p (fun t => { t with noSource := 0, excludeAsked := false, cobQueue := bad, cobSame := true, cobDone := [], cobWhole := false })
    else s.modPlat p (fun t => { t with noSource := maskOf bad, excludeAsked := false, cobQueue := [] })
  s.later (.custody p .recovering cause)

/-- STAGE_CLOSE is refused: the lease ends (R291, R299). -/
def State.closeRefused (s : State) (o : Origin) (p code : Nat) : State := (s.dropLease p).answer o code

/-- Every last of the bundle has verified: it waits for its use (R299 to R301). -/
def State.bundleVerified (s : State) (o : Origin) (p : Nat) (l : Lease) : State :=
  let b : Bundle := { mask := l.mask, number := l.number }
  let s := s.modPlat p (fun t => { t with
    lease := t.lease.map (fun l => { l with verifying := false })
    writeback := if l.purpose = .slot then some b else t.writeback
    recovery := if l.purpose = .recovery then some b else t.recovery })
  let s := if l.purpose = StagePurpose.recovery && (s.plat p).state = Custody.quarantined then s.startRecovery p 12 else s
  let s := match (s.plat p).cob with
    | some j => if j.waiting.isSome && l.purpose = StagePurpose.recovery && l.mask.testBit j.entry then
        (s.modCob p (fun j => { j with waiting := none })).cobTry p 4 else s
    | none => s
  s.answer o Code.ok (natBE 4 0)

/-- A staged last fails: its VERIFY record, and the refusal (R263, R299). -/
def State.stagedRefused (s : State) (o : Origin) (p e : Nat) (f : Nat × Option Nat) : State :=
  (s.sourceRecord (16 * p + e) f.1 f.2 .staged).closeRefused o p Code.slotVerifyFailed

/-- The next staged last: its checks 1 to 7, then its signature on a point engine. -/
def State.stagedNext (s : State) (o : Origin) (p : Nat) (l : Lease) (todo : List Nat) : State :=
  match todo with
  | [] => s.bundleVerified o p l
  | e :: _ =>
    match s.lastEntry? (16 * p + e) with
    | none => s.closeRefused o p Code.slotVerifyFailed
    | some x =>
      match s.stagedHeader p l x with
      | none => s.queueUpdate o (.staged p todo)
      | some c => s.stagedRefused o p e (c, none)

/-- The point engine has run for a staged last: checks 8 and 9, then its table and pages (R245, R299). -/
def State.stagedVerified (s : State) (o : Origin) (p : Nat) (todo : List Nat) : State :=
  match (s.plat p).lease, todo with
  | some l, e :: rest =>
    match s.lastEntry? (16 * p + e) with
    | some x =>
      if !l.verifying then s.closeRefused o p Code.slotVerifyFailed
      else match s.stagedFails p l x with
        | some f => s.stagedRefused o p e f
        | none => s.stagedNext o p l rest
    | none => s.closeRefused o p Code.slotVerifyFailed
  | _, _ => s.answer o Code.slotVerifyFailed

/-- STAGE_CLOSE of a platform lease (R291, R299, R566). A LEASE that names none of the adapter's leases is refused here. -/
def execStageClose (ch : Nat) (s : State) : Host.Outcome State Fault Refusal :=
  s.serve ch 0x0042 (fun b => (s.targetOf (fieldAt b 0 4)).isNone) (fun s o b =>
    match s.platLease (fieldAt b 0 4) with
    | none => s.answer o Code.phaseRefused
    | some (p, l) =>
      if !s.ownsLease ch l || l.verifying then s.answer o Code.phaseRefused
      else if l.nextOffset < l.length then s.closeRefused o p Code.stageLengthBad
      else
        let l := { l with verifying := true }
        let s := s.modPlat p (fun t => { t with lease := some l })
        let d := s.closeDeadline l.length 0
        let s := (s.setDue o (s.now + d)).interim o Code.ok (natBE 4 d)
        s.stagedNext o p l ((s.maskEntries p l.mask).map (·.entry)))

/-- STAGE_CLOSE of a target: `act` on a complete lease, after the interim answer; a refused one ends the lease (R291, R467). -/
def State.closeTarget (s : State) (ch target : Nat) (units : TargetLease → Nat)
    (act : State → Origin → Bytes → TargetLease → State) : Host.Outcome State Fault Refusal :=
  s.serve ch 0x0042 (fun b => match s.targetOf (fieldAt b 0 4) with | some (t, _) => t = target | none => false)
    (fun s o b => match s.target target with
      | none => s.answer o Code.phaseRefused
      | some l =>
        if l.key ≠ s.chanKey ch || l.closing.isSome || l.opening.isSome then s.answer o Code.phaseRefused
        else if l.next < l.length then (s.setTarget target none).answer o Code.stageLengthBad
        else
          let s := s.writeUnits target l [] true
          let d := s.closeDeadline l.length (units l)
          act ((s.setDue o (s.now + d)).interim o Code.ok (natBE 4 d)) o b { l with buf := [], closing := some (o, decide (fieldAt b 4 4 = 1), s.now + d) })

/-- STAGE_CLOSE of a FIRMWARE lease (R442, R450, R454): the staged image is checked, and STAGED_READY is asked for. -/
def execStageCloseFirmware (ch : Nat) (s : State) : Host.Outcome State Fault Refusal :=
  s.closeTarget ch 1 (fun _ => 0) (fun s o _ l =>
    let h := s.fwHeader fwStaging
    let bad : Option Nat := match s.imageFails fwStaging with
      | some c => some c
      | none => if 65536 + fwBodyLen h ≠ l.length then some Code.stageLengthBad
        else if fwSequence h ≤ fwSequence s.boot.header then some Code.sequenceStale else none
    match bad with
    | some c => (s.setTarget 1 none).answer o c
    | none => (s.setTarget 1 (some l)).post 0x0D 0 [1])

/-- STAGE_CLOSE of a PATTERN lease, step 1 of R467 (R465, R601): judged and loaded into the loading banks. The copy, the flag's
flip and the acceptance follow as firmware's work (`State.patternCopy`), and OK is answered at the switch. -/
def execStageClosePattern (ch : Nat) (s : State) : Host.Outcome State Fault Refusal :=
  s.closeTarget ch 2 (fun l => ceilDiv l.length 65536) (fun s o _ l =>
    match s.judgeImage (s.pmBytes patStaging l.length) (1 - s.patFlag % 2) (fun n => n = l.length) with
    | (.inl c, s) => (s.setTarget 2 none).answer o c
    | (.inr t, s) =>
      if t.sequence ≤ s.patFloor then (s.setTarget 2 none).answer o Code.sequenceStale
      else s.setTarget 2 (some { l with step := .staging }))

/-! ### The certificate store (R397 to R399, R468) -/

/-- Index entry `i` of a store. -/
def certEntry (b : Bytes) (i : Nat) : Bytes := bytesAt b (64 + 40 * i) 40
/-- COUNT of a store. -/
def certCount (b : Bytes) : Nat := fieldAt b 6 2
/-- The chain of an index entry. -/
def certChain (b e : Bytes) : Bytes := bytesAt b (fieldAt e 36 4) (fieldAt e 34 2)
/-- The header fields and DIGEST of a store hold (R397, R399). -/
def certHeaderOk (b : Bytes) : Bool :=
  let es := (List.range (certCount b)).map (certEntry b)
  let last := es.foldl (fun m e => max m (fieldAt e 36 4 + fieldAt e 34 2)) (64 + 40 * certCount b)
  fieldAt b 0 4 = 0x43455254 && fieldAt b 4 2 = 1 && certCount b ≤ 64 && fieldAt b 8 8 ≠ 0 && allZero (bytesAt b 48 16) &&
  es.all (fun e => 1 ≤ fieldAt e 32 1 && fieldAt e 32 1 ≤ 4 && fieldAt e 33 1 = 0 && 1 ≤ fieldAt e 34 2 &&
    fieldAt e 34 2 ≤ 4096 && 64 + 40 * certCount b ≤ fieldAt e 36 4 && fieldAt e 36 4 + fieldAt e 34 2 ≤ 1048576) &&
  sm3 (bytesAt b 64 (last - 64)) = digestOfBytes (bytesAt b 16 32)
/-- A staged store passes R398. -/
def certStoreOk (b : Bytes) : Bool :=
  let es := (List.range (certCount b)).map (certEntry b)
  certHeaderOk b &&
  (List.range es.length).all (fun i => match es[i]? with
    | none => true
    | some e => (es.take i).all (fun f => bytesAt f 0 32 ≠ bytesAt e 0 32 &&
        !runsMeet (fieldAt e 36 4, fieldAt e 34 2) (fieldAt f 36 4, fieldAt f 34 2)) &&
      (match Config.leafKey (certChain b e) with
        | some k => digestBytes (sm3 k) = bytesAt e 0 32
        | none => false))
/-- The store as the Larir takes it: empty while a store write is incomplete, and while its header or DIGEST fails (R399). -/
def State.certs (s : State) : List Bytes :=
  let b := s.pmBytes certStore 1048576
  if !(s.copyOpen && s.copyTarget = 4) && certHeaderOk b then (List.range (certCount b)).map (certEntry b) else []

/-- STAGE_CLOSE of a CERTS lease (R398, R468): checked; the copy follows as firmware's work (`State.certsCopy`). -/
def execStageCloseCerts (ch : Nat) (s : State) : Host.Outcome State Fault Refusal :=
  s.closeTarget ch 3 (fun _ => 16) (fun s o _ l =>
    if !certStoreOk (s.pmBytes patStaging 1048576) then (s.setTarget 3 none).answer o Code.slotVerifyFailed
    else s.setTarget 3 (some { l with step := .staging }))

/-! ### The copies out of staging (R38, R456, R467 to R469, R474; one unit between two journal requests: log entry 86) -/

/-- A pattern lease one step further; every journal and flag write goes through the heel, and a request that was refused is
posted again (R467 steps 2 to 6). -/
def State.patternCopy (s : State) (l : TargetLease) : State :=
  let k := 1 - s.patFlag % 2
  let w := s.patFlag
  let goto := fun (s : State) c => s.setTarget 2 (some { l with step := c })
  let fails := fun (s : State) code => match l.closing with
    | some (o, _, _) => (s.setTarget 2 none).answer o code
    | none => s
  match l.step with
  | .staging =>
    if s.copyOpen then s.askCopy 2 0 0 0 0
    else (goto s .copying).askCopy 0 (2 + k) (ceilDiv l.length 65536) 0 (imgSequence (s.pmBytes patStaging 128))
  | .copying =>
    if !s.copyOpen then goto s .staging
    else if s.copyNext < s.copyUnits then
      (s.copyUnit patStaging (patSlotBase k) s.copyNext).askCopy 1 0 0 (s.copyNext + 1) 0
    else (goto s .copied).askCopy 2 0 0 0 0
  | .copied =>
    if s.copyOpen then s.askCopy 2 0 0 0 0
    else if sm3 (s.pmBytes (patSlotBase k) l.length) ≠ sm3 (s.pmBytes patStaging l.length) then fails s Code.slotVerifyFailed
    else (goto s .flagged).askFlag (mkPatFlag k true (w.testBit 2) (bitsOf w 31 16 + 1))
  | .flagged => if w.testBit 1 then (goto s .floored).settleFloor else goto s .copied
  | .floored =>
    if w.testBit 1 then s.settleFloor
    else match s.judgeImage (s.pmBytes patStaging l.length) (w % 2) (fun n => n = l.length) with
      | (.inl c, s) => fails s c
      | (.inr t, s) => (goto s .accepted).acceptPattern t
  | .accepted => s

/-- The certificate store's unit NEXT of an open journal, or its close: 0 erases unit 0, 1 to 15 write those units, 16 writes
unit 0 and closes (R468). -/
def State.certsUnit (s : State) : State :=
  let n := s.copyNext
  if n = 0 then (s.eraseUnit certStore).askCopy 1 0 0 1 0
  else if n < 16 then (s.copyUnit patStaging certStore n).askCopy 1 0 0 (n + 1) 0
  else (s.copyUnit patStaging certStore 0).askCopy 2 0 0 0 0
/-- A certificate lease one step further (R468); OK once the journal is closed. -/
def State.certsCopy (s : State) (l : TargetLease) : State :=
  let goto := fun (s : State) c => s.setTarget 3 (some { l with step := c })
  match l.step with
  | .staging => if s.copyOpen then s.askCopy 2 0 0 0 0 else (goto s .copying).askCopy 0 4 16 0 0
  | .copying => if !s.copyOpen then goto s .staging else if s.copyNext < 16 then s.certsUnit else (goto s .copied).certsUnit
  | _ =>
    if s.copyOpen then s.askCopy 2 0 0 0 0
    else match l.closing with
      | some (o, _, _) => (s.setTarget 3 none).answer o Code.ok (natBE 4 0)
      | none => s
/-- A journal that an interruption left open (R469): a pattern copy is closed, a certificate copy resumes while the staging
passes R398. Those of the firmware slots are the ROM's. -/
def State.staleCopy (s : State) : State :=
  if !s.copyOpen || s.copyTarget < 2 then s
  else if s.copyTarget = 4 && certStoreOk (s.pmBytes patStaging 1048576) then s.certsUnit
  else s.askCopy 2 0 0 0 0
/-- What firmware does about copies in a stitch: nothing while a request of it is with the heel (R474, R479). -/
def State.copyStep (s : State) : State :=
  if !s.fw || s.heelAsked then s
  else match s.boot.pat, s.boot.certs with
    | some l, c => if l.closing.isSome then s.patternCopy l else
      (match c with | some m => if m.closing.isSome then s.certsCopy m else s.staleCopy | none => s.staleCopy)
    | none, some m => if m.closing.isSome then s.certsCopy m else s.staleCopy
    | none, none => s.staleCopy
/-- The flag's own writes after a choice of a slot, where no STAGE_CLOSE is writing it (R466). -/
def State.flagStep (s : State) : State :=
  match s.boot.pat with
  | some l => if l.closing.isSome then s else s.settlePatFlag
  | none => s.settlePatFlag

/-! ### STAGE_ABORT and expiry -/

/-- STAGE_ABORT (R291, R572). -/
def execStageAbort (ch : Nat) (s : State) : Host.Outcome State Fault Refusal :=
  s.serve ch 0x0043 (fun _ => true) (fun s o b =>
    match s.platLease (fieldAt b 0 4), s.targetOf (fieldAt b 0 4) with
    | some (p, l), _ => if s.ownsLease ch l then (s.dropLease p).answer o Code.ok else s.answer o Code.phaseRefused
    | none, some (t, l) =>
      if l.key = s.chanKey ch && l.closing.isNone then (s.setTarget t none).answer o Code.ok else s.answer o Code.phaseRefused
    | none, none => s.answer o Code.phaseRefused)

/-- LEASE_EXPIRY (R290, R291, R452): 60,000,000 stitches with no data; during a verification it waits. A host lease takes phase
UPDATE with it. -/
def execLeaseExpiry (which : LeaseId) (s : State) : Host.Outcome State Fault Refusal :=
  let due := fun last => s.live && decide (last + 60000000 ≤ s.now)
  let target := fun t => match s.target t with
    | some l => if due l.lastData && l.closing.isNone then
        (s.setTarget t none).leaseRecord .device Code.leaseExpired l.number 2 else s
    | none => s
  match which with
  | .firmware => .next (target 1)
  | .pattern => .next (target 2)
  | .certs => .next (target 3)
  | .platform p =>
    match (s.plat p).lease with
    | none => .next s
    | some l =>
      if !due l.lastData || l.verifying || (s.plat p).act.isSome then .next s
      else
        let s := (s.dropLease p).leaseRecord (.platform p) Code.leaseExpired l.number l.holder.code
        .next (if (s.plat p).phase = .update && l.holder = .host then s.post 0x03 0 (natBE 1 p ++ natBE 1 2) else s)

end Sys2Proof.Machine
end

