-- ==== Sys2Proof/Machine/PlatformCtl.lean ====
section
/-!
DEFINITION. PLATFORM_CTL (R288, R289, R309, R703).
-/
namespace Sys2Proof.Machine
open Sys2Proof

/-- PLATFORM_CTL with one action on one platform (R309): the platform must be named and enabled; `act` carries it out. -/
def State.platformCtl (s : State) (ch action : Nat) (act : State → Origin → Nat → State) : Host.Outcome State Fault Refusal :=
  s.serve ch 0x0050 (fun b => fieldAt b 2 1 = action) (fun s o b =>
    let p := fieldAt b 3 1
    if s.weltCount ≤ p then s.answer o Code.vampBodyBad else act s o p)

/-- A gated action: refused when the heel's ring has no room (R703), else posted with the command to answer (R309). -/
def State.gated (s : State) (o : Origin) (req p arg : Nat) : State :=
  if s.ringSpare then s.post req 0 (natBE 1 p ++ natBE 1 arg) (some o) else s.answer o Code.busy

/-- PLATFORM_CTL HOLD (R309): every state but RETIRED, with ADAPTER_HOLD = 1. -/
def execPlatformCtlHold (ch : Nat) (s : State) : Host.Outcome State Fault Refusal :=
  s.platformCtl ch 0 (fun s o p =>
    if (s.plat p).state = .retired || !(s.platRec p).adapterHold then s.answer o Code.phaseRefused else s.gated o 0x01 p 1)

/-- Something comes before the platform's fill: a write-back, the re-pointing of its map, raises still to be read (R170, R296,
R300). -/
def State.fillWaits (s : State) (p : Nat) : Bool :=
  let t := s.plat p
  t.cob.isSome || t.act.isSome || t.writeback.isSome || (t.map != flagActive (s.flag p)) || !s.allRaisesRead

/-- PLATFORM_CTL REFILL (R193, R275, R309): HELD and QUARANTINED; the fill job starts at the next boundary, or is owed while
something comes before it, and the command waits with it (log entry 84). -/
def execPlatformCtlRefill (ch : Nat) (s : State) : Host.Outcome State Fault Refusal :=
  s.platformCtl ch 1 (fun s o p =>
    let st := (s.plat p).state
    if (st ≠ .held && st ≠ .quarantined) || s.env.cleared || (s.platRec? p).isNone then s.answer o Code.phaseRefused
    else if s.deferred.any (fun d => match d with | .epoch q _ _ _ => q = p | _ => false) then s.later (.respond o Code.ok p)
    else if epochMax ≤ s.epochCounter then (s.tellExhausted p).answer o Code.epochExhausted
    else if s.fillWaits p then s.modPlat p (fun t => { t with fillOwed := true, refills := t.refills ++ [o] })
    else
      let s := ((List.range 64).foldl State.endRaises s).raiseEpoch
      let n := s.epochCounter
      let (v, s) := s.draw
      (s.later (.epoch p n (v.setWidth 128) 12)).later (.respond o Code.ok p))

/-- PLATFORM_CTL RECOVER (R275, R309): QUARANTINED; source selection starts again. -/
def execPlatformCtlRecover (ch : Nat) (s : State) : Host.Outcome State Fault Refusal :=
  s.platformCtl ch 2 (fun s o p =>
    if (s.plat p).state ≠ .quarantined || s.env.cleared then s.answer o Code.phaseRefused
    else (s.startRecovery p 12).later (.respond o Code.ok p))

/-- UPDATE_OPEN (R288, R289, R480): the host takes the lease, and the PHASE request carries the change out. -/
def execUpdateOpen (ch : Nat) (s : State) : Host.Outcome State Fault Refusal :=
  s.platformCtl ch 3 (fun s o p =>
    let t := s.plat p
    if !(s.platRec p).updateEn || t.state ≠ .running || t.phase ≠ .runtime then s.answer o Code.phaseRefused
    else match t.lease with
      | some l => s.leaseBusy o (.platform p) l.number l.holder.code
      | none =>
        if !s.ringSpare then s.answer o Code.busy
        else
          let (n, s) := s.nextLease
          let s := s.modPlat p (fun t => { t with lease := some { holder := .host, number := n, lastData := s.now } })
          s.post 0x03 0 (natBE 1 p ++ natBE 1 3) (some o) n)

/-- UPDATE_CLOSE (R275, R291, R309): RUNNING in phase UPDATE; the lease ends and the phase returns to RUNTIME. -/
def execUpdateClose (ch : Nat) (s : State) : Host.Outcome State Fault Refusal :=
  s.platformCtl ch 4 (fun s o p =>
    let t := s.plat p
    if t.state ≠ .running || t.phase ≠ .update then s.answer o Code.phaseRefused
    else match t.lease with
      | some l =>
        if l.holder ≠ .host then s.leaseBusy o (.platform p) l.number l.holder.code
        else if !s.ringSpare then s.answer o Code.busy
        else (s.modPlat p (fun t => { t with lease := none })).gated o 0x03 p 2
      | none => s.gated o 0x03 p 2)

/-- PLATFORM_CTL RETIRE (R309): every state, with ADAPTER_HOLD = 1. -/
def execPlatformCtlRetire (ch : Nat) (s : State) : Host.Outcome State Fault Refusal :=
  s.platformCtl ch 5 (fun s o p =>
    if !(s.platRec p).adapterHold then s.answer o Code.phaseRefused else s.gated o 0x02 p 1)

/-- PLATFORM_CTL QUIESCE (R309, R490, R579): platform field 0xFF; answered with STATE 0, and the heel's request posted once the
response is acknowledged or 44 stitches later. A wake period below 1,000 is VAMP_BODY_BAD, where R309 and R490 could also mean
PHASE_REFUSED (DESIGN CHOICE, log entry 96). -/
def execPlatformCtlQuiesce (ch : Nat) (s : State) : Host.Outcome State Fault Refusal :=
  s.serve ch 0x0050 (fun b => fieldAt b 2 1 = 6) (fun s o b =>
    let mode := fieldAt b 1 1
    let wake := fieldAt b 4 4
    if fieldAt b 3 1 ≠ 0xFF || wake < 1000 then s.answer o Code.vampBodyBad
    else if (s.quiesceOk (mode = 1) wake).isSome then s.answer o Code.phaseRefused
    else if !s.ringSpare then s.answer o Code.busy
    else (s.modVamp (fun v => { v with quiesce := v.quiesce ++ [(o, mode, wake, s.now)] })).answer o Code.ok (natBE 4 0))

end Sys2Proof.Machine
end

