-- ==== Sys2Proof/Machine/KeyCmd.lean ====
section
/-!
DEFINITION. KEY_IMPORT, KEY_REPLACE, KEY_DESTROY and KEY_INFO (R349 to R368, R573).
-/
namespace Sys2Proof.Machine
open Sys2Proof

/-- Length and fields of a key blob (R351, R364). -/
def blobFormOk (b : Bytes) (slot : Nat) : Bool :=
  let f := fieldAt b
  b.length = 268 && f 0 1 ≤ 2 && keyPairs (f 2 1) (f 1 1) && f 3 1 ≤ 1 &&
  (if f 0 1 = 1 then decide (f 4 2 < 1280) else decide (f 4 2 = 0xFFFF)) && f 6 2 = slot &&
  (f 0 1 ≠ 0 || (allZero (bytesAt b 16 12) && allZero (bytesAt b 60 16) &&
    allZero (bytesAt b (28 + keyLen (f 1 1)) (32 - keyLen (f 1 1))))) &&
  (f 0 1 = 2 || allZero (bytesAt b 76 192))
/-- The form is permitted in the life-cycle state (R365). -/
def State.formAllowed (s : State) (form : Nat) : Bool :=
  match s.lifecycle with
  | 1 => true
  | 2 | 3 => form ≠ 0
  | _ => false

/-- A key of this type is a valid scalar where it is an SM2 key (R351). -/
def materialOk (type : Nat) (m : Bytes) : Bool :=
  allZero (m.drop (keyLen type)) && (type ≠ 4 || (1 ≤ beNat m && beNat m + 2 ≤ Config.sm2Order))

/-- The target slot does not take the operation (R362): closed, no owner slot, occupied for an import, empty for a replacement. -/
def State.targetRefuses (s : State) (replace : Bool) (slot : Nat) : Option Nat :=
  match s.keysClosed with
  | some c => some c
  | none =>
    if slot < 16 || 1279 < slot then some Code.keySlotReserved
    else match s.keyRec slot with
      | .empty _ => if replace then some Code.keySlotEmpty else if s.keyPending slot then some Code.keySlotOccupied else none
      | _ => if replace then none else some Code.keySlotOccupied
/-- Preconditions of an import or a replacement, in the order of R362. -/
def State.keyRefuses (s : State) (replace : Bool) (slot : Nat) (b : Bytes) : Option Nat :=
  match s.targetRefuses replace slot with
  | some c => some c
  | none =>
    let same := match s.keyRec slot with
      | .key r => r.type = fieldAt b 1 1 && r.usage = fieldAt b 2 1
      | _ => true
    if !blobFormOk b slot || (replace && !same) then some Code.keyFormBad
    else
      let parent : Option Nat := if fieldAt b 0 1 = 1 then
          match s.useKey (fieldAt b 4 2) 3 Code.keySlotReserved with
          | .error c => some c
          | .ok r => if 7 < s.keyDepth r walkFuel || (slot < 1024 && 1024 ≤ fieldAt b 4 2) then some Code.keyFormBad else none
        else none
      match parent with
      | some c => some c
      | none =>
        if !s.formAllowed (fieldAt b 0 1) then some Code.keyLifecycleDenied
        else if s.genExhausted slot then some Code.keyGenExhausted else none

/-- Step 1 of R367: the material of a blob, opened with the copy of its WRAP parent where it has one, or the code it is refused
with (R361, R364). -/
def State.unwrapBlob (s : State) (parent : Option KeyRec) (b : Bytes) : Except Nat Bytes :=
  let ct := bytesAt b 28 48
  let nonce := fieldAt b 16 12
  let open_ := fun k : BitVec 128 => match sm4Open k nonce (b.take 16) ct with
    | some m => if materialOk (fieldAt b 1 1) m then .ok m else .error Code.keyFormBad
    | none => .error Code.keyUnwrapFailed
  match fieldAt b 0 1 with
  | 0 => let m := bytesAt b 28 32; if materialOk (fieldAt b 1 1) m then .ok m else .error Code.keyFormBad
  | 1 => match parent with
    | some r => open_ (BitVec.ofNat 128 (beNat (r.bytes.take 16)))
    | none => .error Code.keyUnwrapFailed
  | _ =>
    let signer := bytesAt b 140 64
    if !Config.sm2OnCurve (bytesAt b 76 64) || (s.ownerKeyUsable signer).isNone || !sm2Ok signer (b.take 204) (b.drop 204) then
      .error Code.keyUnwrapFailed
    else open_ (Config.sm2Kdf (scalarOf (s.keys.slot1.getD 0)) (bytesAt b 76 64))

/-- The check value of a slot as KEY_INFO reports it (R362, R366); zero where a slot holds no key. -/
def State.slotCheck (s : State) (slot : Nat) : Bytes :=
  let root := fun (d : Option Digest) => match d with
    | some x => (digestBytes (sm3 (Config.sm2Public (scalarOf x)))).take 8
    | none => fill 8 0
  match slot with
  | 0 => root s.keys.slot0
  | 1 => root s.keys.slot1
  | 2 => fill 8 0
  | 3 => if s.keys.slot3.isSome then (natBE 16 (Config.sm4Block s.soleKey 0).toNat).take 8 else fill 8 0
  | 4 => root s.keys.slot4
  | n => if n < 16 || 1279 < n || s.scuttled then fill 8 0 else match s.keyRec n with
      | .key r => checkValue r.type r.material
      | _ => fill 8 0
/-- The body of KEY_INFO (R362, R574): a CORRUPT or HIDDEN slot shows its state alone. -/
def State.keyInfoBody (s : State) (slot : Nat) : Bytes :=
  let st := s.slotState slot
  if st = 2 || st = 5 then natBE 1 st ++ fill 23 0
  else
    let r := s.slotInfo slot
    natBE 1 st ++ natBE 1 r.type ++ natBE 1 r.usage ++ natBE 1 (b2n r.exp) ++ natBE 4 r.parent ++ natBE 4 r.parentGen ++
      natBE 4 r.ownGen ++ s.slotCheck slot

/-- KEY_XFER (R531): the active unit sends a key with EXPORT 1 to its partner, wrapped under the L0 port key (log entry 35). -/
def State.keyXfer (s : State) (slot : Nat) (r : KeyRec) : State :=
  let q := s.port 0
  if s.pair.role = .active && r.exp && q.trained && q.keyed && !q.lost then
    let (v, s) := s.draw
    let n := v.toNat % 2 ^ 96
    let aad := natBE 2 slot ++ natBE 1 r.type ++ natBE 1 r.usage
    s.emit (.lace 0 0x0A (aad ++ natBE 12 n ++ sm4Seal q.key n aad (natBE 32 r.material.toNat)))
  else s

/-- The record is written: KEY_IMPORT and KEY_REPLACE answer with what KEY_INFO shows of it, and a key with EXPORT 1 goes to the
partner; KEY_DESTROY answers alone (R362, R531, R574). -/
def State.keyDone (s : State) (slot : Nat) (r : KeyRec) (o : Option Origin) : State :=
  match o with
  | none => s
  | some o => if r.usage = 0 then s.answer o Code.ok else (s.keyXfer slot r).answer o Code.ok (s.keyInfoBody slot)
/-- A record is made: a volatile one is written and answered at once, a persistent one over the stitches that follow. -/
def State.keyMade (s : State) (o : Origin) (slot : Nat) (r : KeyRec) : State :=
  let s := s.commitKey slot r (some o)
  if slot < 1024 then s else s.keyDone slot r (some o)
/-- The stitch's step of a persistent record being written (R367): 3; 4 and 5; 6 with the answer. -/
def State.keyStep (s : State) : State :=
  match s.keys.commit with
  | none => s
  | some c =>
    if c.selected then (s.keyStep6 c).keyDone c.slot c.record c.origin
    else if c.written then
      if s.halfGood c then s.keyStep5 c
      else
        let s := s.commitNext
        match c.origin with | some o => s.answer o Code.keyCheckFailed | none => s
    else if c.began < s.now then s.keyStep3 c
    else s

/-- Steps 1 and 2 of R367 for an import or a replacement; the generations may have run out since it was admitted (R356, R357). -/
def State.keyFinish (s : State) (o : Origin) (op : KeyOp) : State :=
  let b := op.blob
  match s.targetRefuses op.replace op.slot with
  | some c => s.answer o c
  | none => if s.genExhausted op.slot then s.answer o Code.keyGenExhausted else match s.unwrapBlob op.parent b with
    | .error c => s.answer o c
    | .ok m =>
      let type := fieldAt b 1 1
      let mat := beNat m
      if checkValue type (BitVec.ofNat 256 mat) ≠ bytesAt b 8 8 then s.answer o Code.keyCheckFailed
      else
        let pgen := match op.parent with | some q => q.ownGen | none => s.keys.code
        let r : KeyRec := { material := BitVec.ofNat 256 mat, type := type, usage := fieldAt b 2 1,
                            exp := (fieldAt b 3 1).testBit 0, parent := fieldAt b 4 2, parentGen := pgen }
        s.keyMade o op.slot r

/-- A key operation runs (R362), or quiescent entry is being made (R373). -/
def State.keyOpRuns (s : State) : Bool :=
  s.keys.commit.isSome || s.vamp.jobs.any (fun j => match j.2.2 with | .key _ => true | _ => false) ||
  s.deferred.any (fun d => match d with | .quiesce _ _ => true | _ => false)

/-- KEY_IMPORT and KEY_REPLACE (R362 to R367, R573): with a SEALED blob or an SM2 key, 418 steps of a point engine come
first. -/
def State.keyWrite (s : State) (ch opc : Nat) (replace : Bool) : Host.Outcome State Fault Refusal :=
  s.serve ch opc (fun _ => true) (fun s o b =>
    let blob := b.drop 4
    let op : KeyOp := { replace := replace, slot := fieldAt b 2 2, blob := blob, parent := if fieldAt blob 0 1 ≠ 1 then none
      else match s.keyRec (fieldAt blob 4 2) with | .key r => some r | _ => none }
    if s.keyOpRuns then s.answer o Code.busy
    else match s.keyRefuses replace op.slot op.blob with
      | some c => s.answer o c
      | none =>
        if fieldAt op.blob 0 1 = 2 || fieldAt op.blob 1 1 = 4 then
          match s.placeUpdate 418 10000 1 (some o) (.key op) with
          | some s => s
          | none => s.answer o Code.busy
        else s.keyFinish o op)

/-- KEY_IMPORT. -/
def execKeyImport (ch : Nat) (s : State) : Host.Outcome State Fault Refusal := s.keyWrite ch 0x0060 false
/-- KEY_REPLACE. -/
def execKeyReplace (ch : Nat) (s : State) : Host.Outcome State Fault Refusal := s.keyWrite ch 0x0061 true

/-- KEY_DESTROY (R362, R367): an empty record with a new OWN_GEN. -/
def execKeyDestroy (ch : Nat) (s : State) : Host.Outcome State Fault Refusal :=
  s.serve ch 0x0062 (fun _ => true) (fun s o b =>
    let slot := fieldAt b 2 2
    if s.keyOpRuns then s.answer o Code.busy
    else match s.keysClosed with
      | some c => s.answer o c
      | none =>
        if slot < 16 || 1279 < slot then s.answer o Code.keySlotReserved
        else match s.keyRec slot with
          | .empty _ => s.answer o Code.keySlotEmpty
          | _ => if s.genExhausted slot then s.answer o Code.keyGenExhausted
            else s.keyMade o slot {})

/-- KEY_INFO (R362, R366, R573): the check value of an SM2 key takes 84 steps of a point engine. -/
def execKeyInfo (ch : Nat) (s : State) : Host.Outcome State Fault Refusal :=
  s.serve ch 0x0063 (fun _ => true) (fun s o b =>
    let slot := fieldAt b 2 2
    let st := s.slotState slot
    if 1279 < slot then s.answer o Code.keySlotReserved
    else if (s.slotInfo slot).type = 4 && st ≠ 2 then
      match s.placeUpdate 84 2000 3 (some o) (.keyInfo slot (s.keyInfoBody slot)) with
      | some s => s
      | none => s.answer o Code.busy
    else s.answer o Code.ok (s.keyInfoBody slot))

end Sys2Proof.Machine
end

