-- ==== Sys2Proof/Machine/Digest.lean ====
section
/-!
DEFINITION. The digest engine (R316 to R346, R578, R602): contexts, FEEDs, the service of a stitch, results, keys derived into
the key store, DGST_CMD and DIGEST_RUN.
-/
namespace Sys2Proof.Machine
open Sys2Proof

/-- Context `c`. -/
def State.ctx (s : State) (c : Nat) : Ctx := tget {} s.dgst.ctxs c
/-- The DGST block changed. -/
def State.modDgst (s : State) (f : DigestSt → DigestSt) : State := { s with dgst := f s.dgst }
/-- Context `c` changed. -/
def State.modCtx (s : State) (c : Nat) (f : Ctx → Ctx) : State := s.modDgst (fun d => { d with ctxs := tmod {} d.ctxs c f })

/-! ### What a FEED reads (R326) -/

/-- The end of the running firmware's code in core SRAM, where its data region begins (R40, R441). -/
def State.dataBase (s : State) : Nat := 0x10000000 + fieldAt s.boot.header 28 4
/-- The range lies within one region of R326. -/
def State.feedRange (s : State) (a n : Nat) : Bool :=
  let within := fun lo hi => decide (lo ≤ a) && decide (a + n ≤ hi)
  1 ≤ n && n ≤ 16777216 && (within s.dataBase 0x10400000 || within 0x30000000 0x40000000 || within 0x40040000 0x40400000 ||
    within 0x50000000 0x50400000 || within 0x50400000 0x50800000)
/-- The byte the engine reads at an address other than the sole aperture's. -/
def State.fetchByte (s : State) (a : Nat) : Byte :=
  if 0x50400000 ≤ a then (natBE 16 (tget 0 s.click.winA ((a - 0x50400000) / 16)).toNat).getD (a % 16) 0
  else if 0x50000000 ≤ a then (natBE 16 (tget 0 s.click.winL ((a - 0x50000000) / 16)).toNat).getD (a % 16) 0
  else Memory.read 0 s.mem a
/-- The address `a` lies in the sole aperture. -/
def inAperture (a : Nat) : Bool := decide (0x30000000 ≤ a) && decide (a < 0x40000000)
/-- The bytes from `off` on of a FEED that a core can read now, at most `n`: of the sole aperture one sector, and none while the
channel's aperture slot of the stitch is taken (R44, R224; log entry 75). -/
def State.fetch (s : State) (f : FeedSrc) (off n : Nat) : Option (Bytes × State) :=
  match f with
  | .range a _ =>
    if inAperture (a + off) then
      let o := (tget 0 s.sel 0 % 64) * 2 ^ 28 + (a + off - 0x30000000)
      (s.aperRead (o / 4096) (o / 256 % 16) false).map (fun (d, t) => (bytesAt d (o % 256) (min n (256 - o % 256)), t))
    else some ((List.range n).map (fun i => s.fetchByte (a + off + i)), s)
  | .message d => some (bytesAt d off n, s)
/-- The byte count of a FEED. -/
def FeedSrc.size : FeedSrc → Nat
  | .range _ n => n
  | .message d => d.length

/-! ### OPEN (R320 to R325, R336) -/

/-- What an OPEN names. -/
structure OpenArgs where
  hmac : Bool
  dest : Nat
  queue : Nat
  declared : Nat
  keySlot : Nat
  expected : Digest
  childSlot : Nat
  childUsage : Nat
  childLen : Bool
  owner : Nat
  session : Nat

/-- The TYPE of a derived key: what its usage and length pair with (R336, R351). -/
def childType (usage : Nat) (long : Bool) : Option Nat :=
  match usage, long with
  | 1, false | 2, false | 3, false => some 1
  | 4, false | 6, false => some 2
  | 4, true | 6, true => some 3
  | 5, true => some 4
  | _, _ => none
/-- CHILD_SLOT may take a derived key (R336, R357, R360). -/
def State.childOk (s : State) (a : OpenArgs) (parent : KeyRec) : Bool :=
  16 ≤ a.childSlot && a.childSlot ≤ 1279 && (childType a.childUsage a.childLen).isSome &&
  !(a.childSlot < 1024 && 1024 ≤ a.keySlot) && s.keyDepth parent walkFuel ≤ 7 &&
  (match s.keyRec a.childSlot with | .empty _ => !s.keyPending a.childSlot | _ => false)

/-- The outcome of a comparison (R334): the pair, as read when the comparators disagree. -/
def pairOf (equal : Bool) (fault : Option Bool) : Bool × Bool :=
  match fault with
  | some b => (b, b)
  | none => (equal, !equal)

/-- A result is delivered (R333 to R338). -/
def State.deliver (s : State) (c : Nat) (fault : Option Bool) : State :=
  let x := s.ctx c
  let msg := x.hashed.take x.declared
  let r := if x.hmac then hmacSm3 x.key msg else sm3 msg
  let ends := fun (s : State) (st code : Nat) (res : Digest) (p : Bool × Bool) =>
    s.modCtx c (fun x => { x with state := st, code := code, result := res, matchP := p.1, matchN := p.2 })
  match x.dest with
  | 0 => ends s 2 0 r (false, false)
  | 1 =>
    let p := pairOf (r = x.expected) fault
    if p.1 == p.2 then
      (ends s 4 Code.digestCompareFault 0 p).modDgst (fun d => { d with compareFaults := satInc 0xFFFF d.compareFaults })
    else ends s 2 (if p.1 then 0 else Code.digestMismatch) (if x.hmac then 0 else r) p
  | _ =>
    let fails := fun code => ends s 4 code 0 (false, false)
    match s.keyRec x.keySlot with
    | .key k =>
      if k.ownGen ≠ x.keyGen || s.orphaned k walkFuel then fails Code.keyOrphaned
      else match s.keyRec x.childSlot with
        | .empty _ =>
          if s.keyPending x.childSlot then fails Code.digestDestBad
          else if s.genExhausted x.childSlot then fails Code.keyGenExhausted
          else
            let mat := if x.childLen then r.toNat else beNat ((digestBytes r).take 16 ++ fill 16 0)
            let k' : KeyRec := { material := BitVec.ofNat 256 mat, type := (childType x.childUsage x.childLen).getD 0,
                                 usage := x.childUsage, parent := x.keySlot, parentGen := x.keyGen }
            ends (s.commitKey x.childSlot k') 2 0 0 (false, false)
        | _ => fails Code.digestDestBad
    | .corrupt => fails Code.keyCorrupt
    | .empty _ => fails Code.keyOrphaned

/-- An OPEN: the context taken, or the code it is refused with (R320, R322, R324); `fault` is what the comparators of an empty
message read when they disagree. An OPEN that breaks R321 while no context is FREE answers the code of R322, not DIGEST_BUSY (DESIGN
CHOICE, log entry 98). -/
def State.openCtx (s : State) (a : OpenArgs) (fault : Option Bool) : Except Nat (Nat × State) :=
  if 2 ^ 40 < a.declared then .error Code.digestLengthBad
  else if 2 < a.dest || (a.dest = 0 && a.hmac) || (a.dest = 2 && !a.hmac) || a.queue = 0 || 6 < a.queue ||
      (decide (a.queue = 6) != decide (a.owner = 7)) then .error Code.digestDestBad
  else
    let key : Except Nat (Option KeyRec) := if a.hmac then
        (match s.useKey a.keySlot (if a.dest = 1 then 6 else 4) Code.keyUsageDenied with
          | .ok r => .ok (some r)
          | .error c => .error c)
      else .ok none
    match key with
    | .error c => .error c
    | .ok k =>
      let childBad := a.dest = 2 && (match k with | some r => !s.childOk a r | none => true)
      if childBad then .error Code.digestDestBad
      else match (List.range 64).find? (fun c => (s.ctx c).state = 0) with
        | none => .error Code.digestBusy
        | some c =>
          let x : Ctx := {
            state := 1, hmac := a.hmac, dest := a.dest, queue := a.queue, declared := a.declared, keySlot := a.keySlot
            keyGen := match k with | some r => r.ownGen | none => 0
            key := match k with | some r => r.bytes | none => []
            expected := a.expected, childSlot := a.childSlot, childUsage := a.childUsage, childLen := a.childLen
            owner := a.owner, session := a.session, fresh := 1 }
          let s := s.modCtx c (fun _ => x)
          if a.declared = 0 && !a.hmac then
            .ok (c, (s.modCtx c (fun x => { x with finished := true, padded := true })).deliver c fault)
          else .ok (c, s)

/-! ### FEED, FINISH, CLOSE (R319, R326 to R332) -/

/-- The requester owns the context. -/
def Ctx.ownedBy (x : Ctx) (owner session : Nat) : Bool := x.owner = owner && (owner ≠ 7 || x.session = session)

/-- A FEED: the state that has queued it, or the code it is refused with. One to an HMAC context with DECLARED 0, which takes none
(R325), is DIGEST_STATE_BAD (DESIGN CHOICE, log entry 98). -/
def State.feedCtx (s : State) (c owner session : Nat) (f : FeedSrc) (sourceOk : Bool) : Except Nat State :=
  let x := s.ctx c
  if x.state = 0 then .error Code.digestStateBad
  else if !x.ownedBy owner session then .error Code.digestNotOwner
  else if f.size = 0 then .error Code.digestLengthBad
  else if !sourceOk then .error Code.digestSourceBad
  else if x.state = 4 || (x.hmac && x.declared = 0) then .error Code.digestStateBad
  else if 8 ≤ x.feeds.length then .error Code.digestBusy
  else
    let s := if x.finished && (x.state = 2 || x.state = 3) then
        s.modCtx c (fun x => { x with
          state := 1, finished := false, result := 0, matchP := false, matchN := false, ovr := false, fed := 0, offered := 0
          hashed := [], padded := false, feeds := [], taken := 0, blocks := 0, code := 0, restarts := satInc 0xFFFF x.restarts })
      else s
    .ok (s.modCtx c (fun x => { x with feeds := x.feeds ++ [f], offered := x.offered + f.size, fresh := x.fresh + 1 }))

/-- FINISH. -/
def State.finishCtx (s : State) (c owner session : Nat) : Except Nat State :=
  let x := s.ctx c
  if x.state = 0 then .error Code.digestStateBad
  else if !x.ownedBy owner session then .error Code.digestNotOwner
  else if x.state = 4 then .error Code.digestStateBad
  else if x.finished then .ok s
  else .ok (s.modCtx c (fun x => { x with
    finished := true, shortDue := decide (x.state = 1) && decide (x.offered < x.declared) }))

/-- CLOSE. -/
def State.closeCtx (s : State) (c owner session : Nat) : Except Nat State :=
  let x := s.ctx c
  if x.state ≠ 0 && !x.ownedBy owner session then .error Code.digestNotOwner else .ok (s.modCtx c (fun _ => {}))

/-! ### The answers of DIGEST_RUN (R333, R574, R578) -/

/-- The body of a DIGEST_RUN response. -/
def digestBody (c : Nat) (x : Ctx) : Bytes :=
  natBE 1 c ++ natBE 1 x.state ++ natBE 1 (b2n x.matchP) ++ natBE 1 (b2n x.matchN) ++ natBE 4 (b2n x.ovr) ++ natBE 8 x.fed ++
    digestBytes x.result
/-- A DIGEST_RUN message is answered once its data is consumed, or, with FINAL, once the message has ended. -/
def State.digestAnswer (s : State) (c : Nat) : State :=
  let x := s.ctx c
  match x.asked with
  | none => s
  | some o =>
    let ready := if x.finished then x.state ≠ 1 && x.feeds = [] else x.feeds = []
    if !ready then s
    else (s.modCtx c (fun x => { x with asked := none })).answer o x.code (if x.code = 0 then digestBody c x else [])

/-! ### A stitch of the cores (R68, R316, R317, R328, R329) -/

/-- The blocks of a whole message: the HMAC's key block and the two of its outer hash, the data, and the padding (R316, R323). -/
def Ctx.total (x : Ctx) : Nat := ceilDiv (x.declared + 9) 64 + (if x.hmac then 3 else 0)
/-- The next FEED was accepted before the stitch now running (R317). -/
def Ctx.feedReady (x : Ctx) : Bool := decide (x.fresh < x.feeds.length)
/-- The declared bytes are hashed and the final blocks are still to run. -/
def Ctx.padReady (x : Ctx) : Bool :=
  decide (x.declared ≤ x.hashed.length) && !x.padded && (x.declared ≠ 0 || x.fresh = 0)
/-- The context has work for a core; one found short has none (R329). -/
def Ctx.waits (x : Ctx) : Bool :=
  !x.shortDue && ((x.state = 1 && (x.feedReady || x.padReady)) || (x.state = 2 && x.feedReady))

/-- The context a core serves next: owner order for an open core, round-robin within an owner. The message of a statement stands
beside the contexts of QUEUE 2, numbered from 64 up (R393; log entry 53). -/
def State.nextCtx (s : State) (dg : Nat) (skip : List Nat) : Option Nat :=
  let owners := if dg = 0 then [1, 2, 3, 4, 5, 6] else [dg]
  (owners.filterMap (fun q =>
    let cs := (List.range 64).filter (fun c => (s.ctx c).queue = q && (s.ctx c).waits && !skip.contains c) ++
      (if q = 2 then (s.att.hashes.map (fun e => 64 + e.1)).filter (fun c => !skip.contains c) else [])
    let last := tget 0 s.dgst.rr q
    match cs.find? (fun c => last ≤ c) with
    | some c => some c
    | none => cs.head?)).head?

/-- The queued FEEDs consumed, up to `blocks` blocks: whole 64-byte blocks of the message are hashed up to DECLARED, then the
final blocks are run, and what is fed beyond DECLARED is discarded at the same pace (R316, R328; log entry 85). Answers the
blocks left. -/
def State.consume (s : State) (c blocks : Nat) : Nat → Nat × State
  | 0 => (blocks, s)
  | fuel + 1 =>
    let x := s.ctx c
    if blocks = 0 then (0, s)
    else if x.state = 1 && x.padReady then
      let k := min blocks (x.total - x.blocks)
      (s.modCtx c (fun y => { y with blocks := y.blocks + k, padded := decide (y.blocks + k = y.total) })).consume c (blocks - k) fuel
    else match x.feeds with
    | [] => (blocks, s)
    | f :: rest =>
      let pre := if x.hmac && x.state = 1 && x.blocks = 0 then 1 else 0
      let keep := if x.state = 1 then x.declared - x.hashed.length else 0
      let room := 64 * (blocks - pre) - x.fed % 64
      let n := min (min room (f.size - x.taken)) (if keep = 0 then room else keep)
      if !x.feedReady then (blocks, s)
      else if pre = 1 && blocks = 1 then (0, s.modCtx c (fun y => { y with blocks := 1 }))
      else if n = 0 then (blocks, s)
      else match s.fetch f x.taken n with
      | none => (blocks, s)
      | some (data, s) =>
        let n := data.length
        let cost := pre + (x.fed % 64 + n) / 64
        let done := x.taken + n = f.size
        let s := s.modCtx c (fun y => { y with
          hashed := y.hashed ++ data.take keep, fed := y.fed + n, ovr := y.ovr || decide (keep = 0)
          blocks := if keep = 0 then y.blocks else y.blocks + cost
          feeds := if done then rest else y.feeds, taken := if done then 0 else y.taken + n })
        let s := match f with
          | .range _ _ => s.modDgst (fun d => { d with fetched := d.fetched + n })
          | .message _ => s
        s.consume c (blocks - cost) fuel

/-- The message of a statement hashed, up to `blocks` blocks (R316, R393). -/
def State.hashMessage (s : State) (id blocks : Nat) : Nat × State :=
  let n := tget 0 s.att.hashes id
  (blocks - n, { s with att := { s.att with hashes := tset 0 s.att.hashes id (n - blocks) } })

/-- One core's stitch: the contexts it served. -/
def State.coreStitch (s : State) (dg : Nat) (skip : List Nat) : Nat → Nat → List Nat → List Nat × State
  | 0, _, served => (served, s)
  | fuel + 1, blocks, served =>
    if blocks = 0 then (served, s)
    else match s.nextCtx dg (skip ++ served) with
      | none => (served, s)
      | some c =>
        let q := if c < 64 then (s.ctx c).queue else 2
        let (left, s) := if c < 64 then s.consume c blocks 64 else s.hashMessage (c - 64) blocks
        let s := s.modDgst (fun d => { d with rr := tset 0 d.rr q (c + 1) })
        s.coreStitch dg skip fuel left (served ++ [c])

/-- A context fails: what it held is discarded, and the DIGEST_RUN that waits for it is answered (R82, R339). -/
def State.ctxFails (s : State) (c code : Nat) : State :=
  (s.modCtx c (fun x => { x with
    state := 4, code := code, feeds := [], taken := 0, hashed := [], result := 0, shortDue := false })).digestAnswer c
/-- Contexts found short end at the boundary (R329). -/
def State.digestShorts (s : State) : State :=
  ((List.range 64).filter (fun c => (s.ctx c).shortDue)).foldl (fun s c =>
    (((s.modCtx c (fun x => { x with
      state := 3, shortDue := false, feeds := [], taken := 0, hashed := [], result := 0, code := Code.digestShort })).modDgst
        (fun d => { d with shorts := satInc 0xFFFF d.shorts })).digestAnswer c)) s

/-- DIGEST_DONE (R328, R333 to R338): the final block of a context has been run; a compare fault gives the pair the
comparators read. -/
def execDigestDone (c : Fin 64) (fault : Option Bool) (s : State) : Host.Outcome State Fault Refusal :=
  let x := s.ctx c.val
  if !s.live || x.state ≠ 1 || !x.padded || x.shortDue then .next s
  else .next ((s.deliver c.val fault).digestAnswer c.val)

/-! ### DGST_CMD (R342, R343) -/

/-- DGST_RESP of a core, and BUSY_REFUSALS (R344). -/
def State.dgstResp (s : State) (core code : Nat) (taken : Option Nat) : State :=
  s.modDgst (fun d => { d with
    busyRefusals := if code = Code.digestBusy then satInc 0xFFFF d.busyRefusals else d.busyRefusals
    resp := tmod 0 d.resp core (fun w =>
      BitVec.ofNat 32 (code + 65536 * (match taken with | some c => c | none => bitsOf w.toNat 21 16))) })
/-- An argument register of a core. -/
def State.dgstArg (s : State) (core i : Nat) : Nat := (tget 0 s.dgst.args (4 * core + i)).toNat

/-- OPEN with a core's arguments, whose reserved bits are ignored (R13, R343). An EXPECTED address whose 32 bytes do not all lie in
the data region of core SRAM is DIGEST_DEST_BAD, before every check of R322 (DESIGN CHOICE, log entry 98). -/
def State.dgstOpen (s : State) (core : Nat) (fault : Option Bool) : State :=
  let a0 := s.dgstArg core 0
  let a2 := s.dgstArg core 2
  let a3 := s.dgstArg core 3
  let dest := bitsOf a0 2 1
  let expBad := dest = 1 && (a3 < s.dataBase || 0x10400000 < a3 + 32)
  let a : OpenArgs := {
    hmac := a0.testBit 0, dest := dest, queue := bitsOf a0 5 3, declared := s.dgstArg core 1 + 2 ^ 32 * bitsOf a2 8 0
    keySlot := bitsOf a0 26 16, expected := if dest = 1 then digestOfBytes (s.bytes a3 32) else 0
    childSlot := bitsOf a2 26 16, childUsage := bitsOf a2 29 27, childLen := a2.testBit 30, owner := core, session := 0 }
  if expBad then s.dgstResp core Code.digestDestBad none
  else match s.openCtx a fault with
    | .ok (c, s) => s.dgstResp core 0 (some c)
    | .error e => s.dgstResp core e none
/-- A command on a context, answered in DGST_RESP. -/
def State.dgstOn (s : State) (core : Nat) (r : Except Nat State) : State :=
  match r with
  | .ok s => s.dgstResp core 0 none
  | .error e => s.dgstResp core e none
/-- FEED with a core's arguments. -/
def State.dgstFeed (s : State) (core c : Nat) : State :=
  let a := s.dgstArg core 0
  let n := s.dgstArg core 1
  s.dgstOn core (s.feedCtx c core 0 (.range a n) (s.feedRange a n))
/-- A management core may issue DGST_CMD: MC0 to MC3 while the management domain runs and no freeze is being entered (R339,
R638). -/
def State.dgstMay (s : State) (core : Nat) : Bool := s.fw && s.frz.entering.isNone && core < 4

/-- DGST_OPEN. -/
def execDgstOpen (o : Opener) (s : State) : Host.Outcome State Fault Refusal :=
  if s.dgstMay o.who then .next (s.dgstOpen o.who o.cmpFault) else .next s
/-- DGST_FEED. -/
def execDgstFeed (core : Nat) (c : Fin 64) (s : State) : Host.Outcome State Fault Refusal :=
  if s.dgstMay core then .next (s.dgstFeed core c.val) else .next s
/-- DGST_FINISH. -/
def execDgstFinish (core : Nat) (c : Fin 64) (s : State) : Host.Outcome State Fault Refusal :=
  if s.dgstMay core then .next (s.dgstOn core (s.finishCtx c.val core 0)) else .next s
/-- DGST_CLOSE. -/
def execDgstClose (core : Nat) (c : Fin 64) (s : State) : Host.Outcome State Fault Refusal :=
  if s.dgstMay core then .next (s.dgstOn core (s.closeCtx c.val core 0)) else .next s
/-- A write of DGST_CMD (R342). -/
def State.dgstCmd (s : State) (core v : Nat) : State :=
  let c := v % 64
  match bitsOf v 10 8 with
  | 1 => s.dgstOpen core none
  | 2 => s.dgstFeed core c
  | 3 => s.dgstOn core (s.finishCtx c core 0)
  | 4 => s.dgstOn core (s.closeCtx c core 0)
  | _ => s

/-! ### DIGEST_RUN (R578) -/

/-- Digest cores coded for VAMP over one schedule cycle. -/
def State.vampCores (s : State) : Nat :=
  (s.stitch.active.rows.map (fun r => b2n (rowDg r 0 = 6) + b2n (rowDg r 1 = 6))).foldl (· + ·) 0

/-- The blocks that a message of `n` bytes adds to its context, padding included (R578). -/
def Ctx.adds (x : Ctx) (n : Nat) (final : Bool) : Nat :=
  let key := if x.hmac then 1 else 0
  let off := if x.finished then 0 else x.offered
  let before := if off = 0 then 0 else off / 64 + key
  let after := (off + n) / 64 + key
  (if final then max after x.total else after) - before
/-- The bound of such a message: 64 + CYCLE_LEN × ceil(B / (50 × V)) stitches (R578). -/
def State.runBound (s : State) (c n : Nat) (final : Bool) : Nat :=
  64 + s.stitch.active.rows.length * ceilDiv ((s.ctx c).adds n final) (50 * s.vampCores)
/-- The data and the end of a DIGEST_RUN message on its context. -/
def State.runMessage (s : State) (o : Origin) (c : Nat) (data : Bytes) (final : Bool) : State :=
  let s := s.setDue o (s.now + s.runBound c data.length final)
  let fed := if data = [] then .ok s else s.feedCtx c 7 o.ch (.message data) true
  let ended := match fed with
    | .ok s => if final then s.finishCtx c 7 o.ch else .ok s
    | .error e => .error e
  match ended with
  | .ok s => (s.modCtx c (fun x => { x with asked := some o })).digestAnswer c
  | .error e =>
    let s := if e = Code.digestBusy then s.modDgst (fun d => { d with busyRefusals := satInc 0xFFFF d.busyRefusals }) else s
    s.answer o e

/-- DIGEST_RUN (R319, R321, R329, R578). -/
def execDigestRun (who : Opener) (s : State) : Host.Outcome State Fault Refusal :=
  let ch := who.who
  s.serve ch 0x0070 (fun _ => true) (fun s o b =>
    let w := fieldAt b 0 4
    let data := b.drop 64
    let final := w.testBit 1
    if w.testBit 0 then
      if s.vampCores = 0 then s.answer o Code.busy
      else
        let child := fieldAt b 16 4
        let a : OpenArgs := {
          hmac := w.testBit 16, dest := bitsOf w 18 17, queue := 6, declared := fieldAt b 8 8, keySlot := fieldAt b 6 2
          expected := digestOfBytes (bytesAt b 32 32), childSlot := fieldAt b 4 2, childUsage := child % 8
          childLen := child.testBit 8, owner := 7, session := ch }
        match s.openCtx a who.cmpFault with
        | .error e =>
          let s := if e = Code.digestBusy then s.modDgst (fun d => { d with busyRefusals := satInc 0xFFFF d.busyRefusals }) else s
          s.answer o e
        | .ok (c, s) => s.runMessage o c data final
    else
      let c := bitsOf w 13 8
      let x := s.ctx c
      if x.state = 0 then s.answer o Code.digestStateBad
      else if !x.ownedBy 7 ch then s.answer o Code.digestNotOwner
      else s.runMessage o c data final)

end Sys2Proof.Machine
end

