-- ==== Sys2Proof/Machine/Attest.lean ====
section
/-!
DEFINITION. Attestation (chapter 10; R77, R574): unit statements, domain statements, and the ring frames that carry member
requests and answers.
-/
namespace Sys2Proof.Machine
open Sys2Proof

/-! ### What a statement says (R379 to R390) -/

/-- One element (R379): tag, length, value. -/
def element (tag : Nat) (v : Bytes) : Bytes := natBE 2 tag ++ natBE 2 v.length ++ v

/-- SYS_ID (R47). -/
def sysId : Nat := 0x7C510001 + 256 * Config.dieStep.toNat
/-- VARIANT (R9). -/
def Variant.code : Variant → Nat
  | .tkl5120 => 0 | .tkl2560 => 1 | .tkl1280 => 3
/-- The flags of DEVICE (R384): [1] is the active unit, or an unpaired one. -/
def State.deviceFlags (s : State) : Nat :=
  b2n s.paired + 2 * b2n (!s.paired || decide (s.pair.role = .active)) + 4 * b2n s.sys.variantMarginal +
    8 * b2n (decide (s.marginalWords ≠ []))
/-- DEVICE (R384). -/
def State.attDevice (s : State) : Bytes :=
  natBE 4 sysId ++ natBE 1 s.sys.variant.code ++ natBE 1 s.lifecycle ++ natBE 1 s.pair.unitId ++ natBE 1 s.deviceFlags
/-- ROOT (R385). -/
def State.attRoot (s : State) : Bytes :=
  natBE 1 s.keys.code ++ natBE 1 (b2n s.debugOn) ++ natBE 1 s.keys.domainCode ++
    natBE 1 (b2n s.keys.domainTest + 2 * b2n s.env.cleared)
/-- FIRMWARE (R386, R443). -/
def State.attFirmware (s : State) : Bytes :=
  let h := s.boot.header
  digestBytes (sm3 h) ++ natBE 4 (fwVersion h) ++ natBE 8 (fwSequence h) ++ natBE 1 s.boot.slot ++
    natBE 1 (b2n s.trial) ++ fill 2 0
/-- PATTERN (R386): all zero with no pattern in force. -/
def State.attPattern (s : State) : Bytes :=
  match s.pat with
  | some t => digestBytes t.digest ++ natBE 8 t.sequence ++ natBE 1 t.slot ++ natBE 1 t.signer ++ fill 2 0
  | none => fill 44 0
/-- TIME (R387). -/
def State.attTime (s : State) : Bytes :=
  natBE 8 s.now ++ natBE 4 (s.word bootCountAddr) ++ natBE 1 s.sys.mgmtResets ++ fill 3 0
/-- Bit k at bit 7 − (k mod 8) of byte k div 8 (R383). -/
def bitmap (n : Nat) (p : Nat → Bool) : Bytes :=
  (List.range n).map (fun i => BitVec.ofNat 8 ((List.range 8).foldl (fun a b => 2 * a + b2n (p (8 * i + b))) 0))
/-- RETIRED (R383). -/
def State.attRetired (s : State) : Bytes :=
  bitmap 64 (fun e => (s.eye e).retired) ++ bitmap 8 (fun n => (s.welt n).retired)
/-- PLAT_STATE (R388). -/
def State.attPlat (s : State) (p : Nat) : Bytes :=
  let t := s.plat p
  let f := s.flag p
  let mask := fun g : LastEntry → Bool => maskOf (((s.platRec p).lasts.filter g).map (·.entry))
  natBE 1 p ++ natBE 1 t.state.code ++ natBE 1 t.phase.code ++
    natBE 1 (b2n (flagActive f) + 2 * b2n t.map + 4 * b2n (flagRaise f) + 8 * b2n (!t.hold && decide (t.excluded ≠ 0)) +
      16 * b2n (s.holdDriven p)) ++
    natBE 2 (flagGen f) ++ natBE 2 t.excluded ++ natBE 2 (mask (fun x => (s.latch (16 * p + x.entry)).latched)) ++
    natBE 2 (mask (·.boot)) ++ natBE 4 t.releases ++ natBE 6 (tget 0 s.sole.epoch p) ++ fill 2 0
/-- SOURCE of R266. -/
def Source.code : Source → Nat
  | .a => 0 | .b => 1 | .golden => 2 | .staged => 3
/-- LAST of an entry (R389). -/
def State.attLast (s : State) (p : Nat) (x : LastEntry) : Bytes :=
  let l := s.latch (16 * p + x.entry)
  let head := if l.formatOk then natBE 4 (hdrVersion l.header) ++ natBE 8 (hdrSequence l.header) ++ digestBytes (sm3 l.header)
    else fill 44 0
  natBE 1 x.entry ++
    natBE 1 (b2n l.latched + 2 * b2n x.boot + 4 * b2n ((s.plat p).excluded.testBit x.entry) + 8 * l.source.code) ++
    natBE 2 x.imageClass ++ head
/-- The PLATFORM element of a platform (R383). -/
def State.attPlatform (s : State) (p : Nat) : Bytes :=
  let lasts := (s.platRec p).lasts.mergeSort (fun a b => a.entry ≤ b.entry)
  element 0x0010 (element 0x0011 (s.attPlat p) ++ element 0x0012 (digestBytes (s.plat p).measure) ++
    element 0x0013 (digestBytes (tget 0 s.att.policy p)) ++ lasts.flatMap (fun x => element 0x0014 (s.attLast p x)))
/-- KEY_ID (R383). -/
def State.keyId : State → Bytes := fun s => digestBytes (sm3 s.idKey)
/-- The CERTS element when asked for and held (R400). -/
def State.attCerts (s : State) (asked : Bool) : Bytes :=
  if !asked then []
  else match s.certs.find? (fun e => bytesAt e 0 32 = s.keyId) with
    | some e => element 0x00E1 (certChain (s.pmBytes certStore 1048576) e)
    | none => []

/-- Every byte of a unit statement before SIGNATURE, from the state in force (R380, R383, R391, R392). -/
def State.unitBody (s : State) (nonce : Bytes) (mask : Nat) (certs : Bool) : Bytes :=
  let (n, h) := s.logHead
  element 0x0001 (natBE 2 1 ++ [0, 0]) ++ element 0x0002 s.deviceId ++ element 0x0003 s.attDevice ++
    element 0x0004 s.attRoot ++ element 0x0005 s.attFirmware ++ element 0x0006 s.attPattern ++ element 0x0007 s.attTime ++
    element 0x0008 nonce ++ element 0x0009 (digestBytes h ++ natBE 8 n) ++ element 0x000A s.attRetired ++
    (bitList s.weltCount mask).flatMap s.attPlatform ++ element 0x00E0 s.keyId ++ s.attCerts certs

/-- The signature of slot 0 over every byte before it (R393), as the SIGNATURE element. -/
def State.signed (s : State) (body : Bytes) : Bytes × State :=
  let (v, t) := s.draw
  (body ++ element 0x00F0 (Machine.fit 64 0 (Config.sm2Sign (scalarOf (s.keys.slot0.getD 0)) body v.toNat)), t)

/-! ### Admission (R77, R394, R395) -/

/-- The attestation block changed. -/
def State.modAtt (s : State) (f : AttestSt → AttestSt) : State := { s with att := f s.att }
/-- Statements outstanding: unit statements and domain signatures (R80, R402). -/
def AttestSt.outstanding (a : AttestSt) : Nat := a.sts.length + a.domains.length

/-- The refusal of R395 that does not depend on the ledger. -/
def State.attRefuses (s : State) : Option Nat :=
  if s.lifecycle = 4 then some Code.keyStoreScuttled
  else if s.env.cleared then some Code.tamperClear
  else if s.patNext.isSome then some Code.busy
  else if 256 ≤ s.att.outstanding then some Code.busy
  else none

/-- 84 attestation steps placed by the ledger from `start` to `bound` (R77): the operation's number and the state. -/
def State.placeSign (s : State) (start bound : Nat) : Option (Nat × State) :=
  match s.ledgerPlace s.stitch.ledgerEnd 3 start bound signSteps with
  | none => none
  | some (e, st, d) =>
    let id := s.att.nextId
    let s := { s with stitch := { s.stitch with ledgerEnd := s.stitch.ledgerEnd.set e d } }
    let s := s.modAtt (fun a => { a with nextId := id + 1 })
    some (id, s.startOp 3 id 2 signSteps (some e) st)

/-- A unit statement admitted, or the code it is refused with. -/
def State.admitUnit (s : State) (who : Asker) (nonce : Bytes) (mask : Nat) (certs : Bool) : Except Nat State :=
  match s.attRefuses with
  | some c => .error c
  | none => match s.placeSign (s.now + 32) (s.now + 2000) with
    | none => .error Code.busy
    | some (id, s) =>
      let st : Statement := { id := id, asker := who, nonce := nonce, mask := mask, certs := certs, accepted := s.now }
      .ok (s.modAtt (fun a => { a with sts := a.sts ++ [st] }))

/-- ATTEST (R77, R394, R395). -/
def execAttest (ch : Nat) (s : State) : Host.Outcome State Fault Refusal :=
  s.serve ch 0x0030 (fun _ => true) (fun s o b =>
    match s.admitUnit (.adapter o) (b.take 32) (fieldAt b 32 8) ((fieldAt b 40 1).testBit 0) with
    | .ok t => t
    | .error c => s.answer o c)

/-- The 64-byte blocks of the message digest of R393 over `body`: Z, the bytes and the padding. -/
def messageBlocks (body : Bytes) : Nat := ceilDiv (32 + body.length + 9) 64
/-- What the snapshot gives a domain statement: the bytes before its MEMBER element and those after it (R383, R391). -/
def State.domainShot (s : State) (d : DomainJob) : Bytes × Bytes :=
  (element 0x0001 (natBE 2 1 ++ [1, 0]) ++ element 0x0002 s.deviceId ++ element 0x0003 s.attDevice ++
    element 0x0004 s.attRoot ++ element 0x0007 s.attTime ++ element 0x0008 d.nonce,
   element 0x00E0 s.keyId ++ s.attCerts d.certs)
/-- A statement's snapshot. -/
def Statement.snap (s : State) (x : Statement) : Statement :=
  if x.body.isNone then { x with body := some (s.unitBody x.nonce x.mask x.certs) } else x
/-- A domain statement's snapshot. -/
def DomainJob.snap (s : State) (d : DomainJob) : DomainJob :=
  if d.shot.isNone then { d with shot := some (s.domainShot d) } else d
/-- The snapshot of R391: every admitted statement without one takes it at this boundary, and the digest engine has a unit
statement's message to hash from there on (R393). -/
def State.snapshots (s : State) : State :=
  s.modAtt (fun a => { a with
    sts := a.sts.map (Statement.snap s)
    domains := a.domains.map (DomainJob.snap s)
    hashes := (a.sts.filter (fun x => x.body.isNone)).foldl (fun h x =>
      tset 0 h x.id (messageBlocks (s.unitBody x.nonce x.mask x.certs))) a.hashes })

/-! ### The ring (R532, R540) -/

/-- Ring ports: L1 up and L2 down. -/
def otherRing (k : Nat) : Nat := if k = 1 then 2 else 1
/-- A ring frame of this unit's leaves both ways round: SRC, DST, HOPS 7, SEQ, content (R532, R540). -/
def State.toRing (s : State) (type dst : Nat) (payload : Bytes) : State :=
  let q := (s.pair.frameSeq + 1) % 2 ^ 32
  let s := s.modPair (fun p => { p with frameSeq := q })
  let head := natBE 1 7 ++ natBE 1 s.pair.unitId ++ natBE 1 dst ++ natBE 4 q
  [1, 2].foldl (fun s k => if (s.port k).trained && !(s.port k).retired then s.emit (.lace k type (head ++ payload)) else s) s
/-- A ring frame seen for the first time, on a trained and keyed ring port, is forwarded on the other ring port while HOPS is
above 0; none when it has been seen or comes from this unit (R540). -/
def State.ringIn (s : State) (r : RingHdr) (type : Nat) (payload : Bytes) : Option State :=
  let k := r.port.val
  if !s.live || !s.paired || (k ≠ 1 && k ≠ 2) || !(s.port k).trained || !(s.port k).keyed ||
      r.src.val = s.pair.unitId || s.pair.seen.contains (r.src.val, r.seq) then none
  else
    let s := s.modPair (fun q => { q with seen := (q.seen ++ [(r.src.val, r.seq)]).drop (q.seen.length + 1 - 1024) })
    let head := natBE 1 (r.hops - 1) ++ natBE 1 r.src.val ++ natBE 1 r.dst ++ natBE 4 r.seq
    let o := otherRing k
    some (if 0 < r.hops && (s.port o).trained && !(s.port o).retired
      then s.emit (.lace o type (head ++ payload)) else s)
/-- Units of the domain (R501). -/
def State.domainUnits (s : State) : Nat := 2 * (s.pair.domainPairs + 1)
/-- Member `k`. -/
def State.member (s : State) (k : Nat) : Member := tget {} s.pair.members k

/-! ### Answers -/

/-- A member's answer to the lead (R403, R405): the nonce it belongs to, STATUS, CODE and the statement (log entry 34). -/
def State.memberAnswer (s : State) (lead : Nat) (nonce : Bytes) (status code : Nat) (statement : Bytes) : State :=
  s.toRing 0x12 lead (nonce ++ natBE 1 status ++ natBE 2 code ++ statement)

/-- A domain statement ends with a code and without a signature. -/
def State.domainFails (s : State) (id code : Nat) : State :=
  match s.att.domains.find? (fun d => d.id = id) with
  | some d => ((s.abortOp 3 id).modAtt (fun a => { a with
      domains := a.domains.filter (fun y => y.id ≠ id), hashes := tset 0 a.hashes id 0 })).answer d.origin code
  | none => s

/-- A unit statement's outcome reaches whoever asked: `code` 0 with the statement, or a code. The lead's own record has STATUS 0
(R405): the DOMAIN_ATTEST that carries its unit statement ends with the code that statement ends with (R82, R396). -/
def State.stateOut (s : State) (x : Statement) (code : Nat) (statement : Bytes) : State :=
  match x.asker with
  | .adapter o => s.answer o code statement
  | .member lead _ => s.memberAnswer lead x.nonce (if code = 0 then 0 else 1) code statement
  | .domain j =>
    let ans : MemberAns := { status := 0, code := 0, statement := statement }
    if code ≠ 0 then s.domainFails j code else s.modAtt (fun a => { a with domains := a.domains.map (fun d : DomainJob =>
      if d.id = j && d.body.isNone then { d with answers := tput d.answers s.pair.unitId ans } else d) })

/-- The response of DOMAIN_ATTEST (R404, R574): COUNT, then lengths and statements, ascending UNIT_ID. -/
def domainResponse (d : DomainJob) (statement : Bytes) : Bytes :=
  let units := (d.answers.filter (fun e => decide (e.2.status = 0))).map (fun e => e.2.statement)
  natBE 4 units.length ++ natBE 4 statement.length ++ statement ++ units.flatMap (fun u => natBE 4 u.length ++ u)

/-- A statement or domain statement ends at once with a code and without its signature (R82, R370, R396). -/
def State.statementFails (s : State) (id code : Nat) : State :=
  match s.att.sts.find? (fun x => x.id = id) with
  | some x => ((s.abortOp 3 id).modAtt (fun a => { a with
      sts := a.sts.filter (fun y => y.id ≠ id), hashes := tset 0 a.hashes id 0 })).stateOut x code []
  | none => s.domainFails id code

/-- A digest core overran: what it served in the stitch ends with STITCH_OVERRUN, a context or, from 64 up, the statement whose
message it was hashing (R82, R339, R396). -/
def State.hashOverrun (s : State) (c : Nat) : State :=
  if c < 64 then s.ctxFails c Code.stitchOverrun else s.statementFails (c - 64) Code.stitchOverrun

/-- Both cores' stitch; a core named in `over` suffered an overrun, and what it served fails with STITCH_OVERRUN (R82, R339).
Without a schedule both cores serve every owner (R602). What was opened and fed in the stitch is ready for the next one. -/
def State.digestStitch (s : State) (ovr : Nat → Bool) : State :=
  let code := fun k => match s.row? with | some r => rowDg r k | none => 0
  let fail := fun (s : State) (l : List Nat) => l.foldl State.hashOverrun s
  let (a, s) := s.coreStitch (code 0) [] 64 50 []
  let (b, s) := s.coreStitch (code 1) a 64 50 []
  let s := if ovr 0 then fail s a else s
  let s := if ovr 1 then fail s b else s
  let s := s.modDgst (fun d => { d with ctxs := tmapAll {} d.ctxs (fun _ x => { x with fresh := 0 }) })
  (List.range 64).foldl (fun s c => s.digestAnswer c) s

/-- The message of a statement is hashed and its signature has run its steps (R67, R393). -/
def State.statementDone (s : State) (id : Nat) : Bool := s.opDone 3 id && decide (tget 0 s.att.hashes id = 0)
/-- A statement or domain statement whose message is hashed and whose signature has run its steps: signed, it leaves (R393, R396,
R404). -/
def State.statementEnds (s : State) (id : Nat) : State :=
  if !s.statementDone id then s
  else match s.att.sts.find? (fun x => x.id = id), s.att.domains.find? (fun d => d.id = id) with
  | some x, _ => match x.body with
    | some b =>
      let (m, s) := (s.endOp 3 id).signed b
      (s.modAtt (fun a => { a with sts := a.sts.filter (fun y => y.id ≠ id) })).stateOut x Code.ok m
    | none => s
  | none, some d => match d.body with
    | some b =>
      let (m, s) := (s.endOp 3 id).signed b
      (s.modAtt (fun a => { a with domains := a.domains.filter (fun y => y.id ≠ id) })).answer d.origin Code.ok (domainResponse d m)
    | none => s
  | none, none => s

/-- STATEMENT_DONE (R396): the signature has run its steps, and the signed statement leaves. -/
def execStatementDone (id : Nat) (s : State) : Host.Outcome State Fault Refusal :=
  .next (if s.live then s.statementEnds id else s)

/-! ### Domain statements (R401 to R405) -/

/-- DOMAIN_ATTEST (R395, R401 to R403): the lead admits its own unit statement and the domain signature, and asks every other
member. -/
def execDomainAttest (ch : Nat) (s : State) : Host.Outcome State Fault Refusal :=
  s.serve ch 0x0031 (fun _ => true) (fun s o b =>
    let nonce := b.take 32
    let certs := (fieldAt b 32 1).testBit 0
    let jid := s.att.nextId + 1
    match s.attRefuses with
    | some c => s.answer o c
    | none =>
      if !s.paired || s.pair.lead ≠ some s.pair.unitId || 4 ≤ s.att.domains.length || 255 ≤ s.att.outstanding then
        s.answer o Code.busy
      else match s.admitUnit (.domain jid) nonce (2 ^ 64 - 1) certs with
        | .error c => s.answer o c
        | .ok t => match t.placeSign (s.now + 3000) (s.now + 5000) with
          | none => s.answer o Code.busy
          | some (id, t) =>
            let others := (List.range s.domainUnits).filter (fun k => k ≠ s.pair.unitId)
            let up := others.filter (fun k => (s.member k).ever && !(s.member k).silent)
            let d : DomainJob := { id := id, origin := o, nonce := nonce, certs := certs, accepted := s.now, reachable := up }
            let t := t.modAtt (fun a => { a with domains := a.domains ++ [d] })
            others.foldl (fun t k => t.toRing 0x11 k (nonce ++ fill 8 0xFF ++ natBE 1 (b2n certs))) t)

/-- The MEMBER element of a unit (R405). The lead's own record has STATUS 0. -/
def State.memberElement (s : State) (d : DomainJob) (k : Nat) : Bytes :=
  let none_ := fill 32 0
  let own := natBE 1 0 ++ natBE 2 0 ++ digestBytes (sm3 (((tfind d.answers k).map (·.statement)).getD []))
  element 0x0021 (natBE 1 k ++ (if k = s.pair.unitId then own else match tfind d.answers k with
    | some a => if a.status = 0 then natBE 1 0 ++ natBE 2 0 ++ digestBytes (sm3 a.statement)
      else natBE 1 1 ++ natBE 2 a.code ++ none_
    | none => if k < s.domainUnits then
        natBE 1 2 ++ natBE 2 (if d.reachable.contains k then Code.stitchOverrun else Code.partnerLost) ++ none_
      else natBE 1 3 ++ natBE 2 0 ++ none_))
/-- Every byte of a domain statement before SIGNATURE (R383, R391). -/
def State.domainBody (s : State) (d : DomainJob) : Bytes :=
  let shot := d.shot.getD (s.domainShot d)
  shot.1 ++ element 0x0020 ((List.range 8).flatMap (s.memberElement d)) ++ shot.2
/-- Every strapped member has answered, or a + 3,000 has come: the statement may be assembled (R404). -/
def State.collected (s : State) (d : DomainJob) : Bool :=
  d.body.isNone && ((List.range s.domainUnits).all (fun k => (tfind d.answers k).isSome) || decide (d.accepted + 3000 ≤ s.now))

/-- A domain statement assembled (R404); the digest engine has its message to hash from there on (R393). -/
def State.collectionEnds (s : State) (job : Nat) : State :=
  match s.att.domains.find? (fun d => d.id = job) with
  | some d =>
    if s.collected d then
      s.modAtt (fun a => { a with
        domains := a.domains.map (fun x : DomainJob => if x.id = job then { x with body := some (s.domainBody d) } else x)
        hashes := tset 0 a.hashes job (messageBlocks (s.domainBody d)) })
    else s
  | none => s
/-- The boundary assembles every domain statement whose members have all answered, and one whose collection's end was told
(R404). -/
def State.collections (s : State) : State :=
  ((s.att.domains.filter (fun d => d.ending || s.collected d)).map (·.id)).foldl State.collectionEnds s

/-- DOMAIN_COLLECTION_END (R404): the collection has ended, and the next stitch boundary assembles the statement. -/
def execDomainCollectionEnd (job : Nat) (s : State) : Host.Outcome State Fault Refusal :=
  .next (if s.live then s.modAtt (fun a => { a with domains := a.domains.map (fun x : DomainJob =>
    if x.id = job && s.collected x then { x with ending := true } else x) }) else s)

/-- MEMBER_REQ (R403): a member admits or refuses it as an ATTEST, RESCUE and the time before hand-over included (R450, R565); a
frame for another unit is only forwarded. -/
def execMemberReq (r : RingHdr) (nonce : Bytes) (mask : Nat) (certs : Bool) (s : State) : Host.Outcome State Fault Refusal :=
  let n := Machine.fit 32 0 nonce
  match s.ringIn r 0x11 (n ++ natBE 8 mask ++ natBE 1 (b2n certs)) with
  | none => .next s
  | some s =>
    if r.dst ≠ s.pair.unitId && r.dst ≠ 0xFF then .next s
    else match (if s.boot.stage = .running then s.admitUnit (.member r.src.val r.port.val) n mask certs
        else .error (if s.boot.stage = .rescue then Code.rescueActive else Code.busy)) with
      | .ok t => .next t
      | .error c => .next ((s.busyCounted c).memberAnswer r.src.val n 1 c [])

/-- MEMBER_RESP (R405): the lead records the answer in every domain statement with that nonce still collecting; one that comes
after a + 3,000 is discarded. -/
def execMemberResp (r : RingHdr) (nonce : Bytes) (status code : Nat) (statement : Bytes) (s : State) :
    Host.Outcome State Fault Refusal :=
  let n := Machine.fit 32 0 nonce
  match s.ringIn r 0x12 (n ++ natBE 1 status ++ natBE 2 code ++ statement) with
  | none => .next s
  | some s =>
    if r.dst ≠ s.pair.unitId then .next s
    else
      let ans : MemberAns := { status := status, code := code, statement := statement }
      .next (s.modAtt (fun a => { a with domains := a.domains.map (fun d : DomainJob =>
        if d.nonce = n && d.body.isNone && s.now ≤ d.accepted + 3000 && (tfind d.answers r.src.val).isNone
        then { d with answers := tput d.answers r.src.val ans } else d) }))

end Sys2Proof.Machine
end

