-- ==== Sys2Proof/Machine/LinkCmd.lean ====
section
/-!
DEFINITION. The VAMP link as it runs (chapter 15): training, frames checked and taken, acknowledgement, replay, loss; sessions
and the update queue's point-engine work.
-/
namespace Sys2Proof.Machine
open Sys2Proof

/-- The link runs: the main domain does, or the freeze responder keeps it (R644). -/
def State.linkOn (s : State) : Bool := s.live || (s.frz.frozen && !s.pwr.mainDown)

/-! ### Training and loss (R552, R555, R558, R560 to R562, R581) -/

/-- Every DATA frame the Larir keeps is discarded; the records of EVENT frames wait again, unbound (R555, R562), and the
responses count as discarded (R580). -/
def State.dropTx (s : State) : State :=
  let recs := s.vamp.tx.flatMap (·.recs)
  let lost := s.vamp.tx.filterMap (fun f => f.tag.map (fun t => (f.channel, t)))
  let s := { s with log := { s.log with deliver := s.log.deliver.map (fun d : Deliver =>
    if recs.contains d.seq then { d with bound := false, sent := false } else d) } }
  s.modVamp (fun v => { v with
    tx := [], debt := 0
    chans := tmapAll {} v.chans (fun ch c => { c with cmds := c.cmds.map (fun x : VCmd =>
      if lost.contains (ch, x.tag) && x.state = 2 then { x with state := 3 } else x) }) })

/-- Partly received messages are discarded (R562). -/
def State.dropRx (s : State) : State :=
  s.modVamp (fun v => { v with
    rxq := [], ctl := [], ackDue := false
    chans := tmapAll {} v.chans (fun _ c => { c with rx := [], tooLong := false }) })

/-- A LINK record (R627): SEQ and which replay. -/
def State.linkRecord (s : State) (subj : Subject) (code inc seq replay : Nat) : State :=
  s.event 0x0A subj code (natBE 2 seq ++ natBE 1 replay) inc

/-- A link loss (R562, R581). -/
def State.linkLost (s : State) : State :=
  let f := s.vamp.tx.find? (fun f => f.sent.isSome)
  let inc := match f with | some f => f.incident | none => 0
  let (inc, s) := if inc ≠ 0 then (inc, s) else s.incident
  let s := s.dropTx.dropRx
  let s := s.modVamp (fun v => { v with
    training := false, trainRx := false, trainAcked := false, trained := false, up := false, lostAt := some s.now
    losses := satInc 0xFFFF v.losses, incident := inc })
  s.linkRecord .device Code.linkDown inc (match f with | some f => f.seq | none => 0) 0

/-- Both lanes are locked: the Larir sends TRAIN every stitch (R552). -/
def State.startTraining (s : State) : State :=
  if s.vamp.locked = 3 && !s.vamp.trained && !s.vamp.trainRx && s.vamp.lostAt.isNone
  then s.modVamp (fun v => { v with training := true }) else s

/-- VAMP_LANE_LOCK (R552). -/
def execVampLaneLock (lane : Fin 2) (s : State) : Host.Outcome State Fault Refusal :=
  if s.linkOn then .next ((s.modVamp (fun v => { v with locked := v.locked ||| (1 <<< lane.val) })).startTraining)
  else .next s

/-- LINK_RETRAIN (R552): 10 stitches after the loss; never while REFCLK_FALLBACK is set (R611). -/
def execLinkRetrain (s : State) : Host.Outcome State Fault Refusal :=
  match s.vamp.lostAt with
  | some t => if s.linkOn && !s.env.refclkFallback && t + 10 ≤ s.now then
      .next ((s.modVamp (fun v => { v with lostAt := none })).startTraining)
    else .next s
  | none => .next s

/-- The oldest frame sent and not acknowledged. -/
def VampSt.oldest (v : VampSt) : Option TxFrame := v.tx.find? (fun f => f.sent.isSome)
/-- Its acknowledgement is 11 stitches late (R560). -/
def State.ackLate (s : State) : Option TxFrame :=
  match s.vamp.oldest with
  | some f => match f.sent with
    | some t => if t + 11 ≤ s.now then some f else none
    | none => none
  | none => none

/-- LINK_LOSS (R558, R561): 500 stitches without a valid frame, or a third replay that failed. -/
def execLinkLoss (s : State) : Host.Outcome State Fault Refusal :=
  let silent : Bool := s.vamp.lastRx + 500 ≤ s.now
  let failed := match s.ackLate with | some f => decide (3 ≤ f.replays) | none => false
  if s.linkOn && (s.vamp.trained || s.vamp.trainRx) && (silent || failed) then .next s.linkLost else .next s

/-- One frame sent again (R560, R581): its first replay opens an incident, which the command it answers carries. -/
def State.replayOne (s : State) (f : TxFrame) : State :=
  let (inc, s) := if f.incident ≠ 0 then (f.incident, s) else s.incident
  let g : TxFrame := { f with replays := f.replays + 1, sent := some s.now, incident := inc }
  let s := s.modVamp (fun v => { v with
    tx := v.tx.map (fun x => if x = f then g else x), replays := satInc 0xFFFF v.replays, incident := inc, lastTx := s.now
    ackDue := false })
  let s := match f.tag with
    | some t => s.modVchan f.channel (fun c => { c with cmds := c.cmds.map (fun x : VCmd =>
        if x.tag = t then { x with incident := inc } else x) })
    | none => s
  let s := s.emit (.link 1 g.seq (s.dataBytes g))
  if f.incident = 0 then s.linkRecord .device Code.linkReplay inc g.seq g.replays else s
/-- Every unacknowledged frame sent again, the oldest first (R560). -/
def State.replay (s : State) : State := (s.vamp.tx.filter (fun f => f.sent.isSome)).foldl State.replayOne s

/-- REPLAY_TIMEOUT (R560). -/
def execReplayTimeout (s : State) : Host.Outcome State Fault Refusal :=
  match s.ackLate with
  | some f => if s.linkOn && s.vamp.trained && f.replays < 3 then .next s.replay else .next s
  | none => .next s

/-- LINK_KEEPALIVE (R558): an ACK when nothing has been sent for 50 stitches. -/
def execLinkKeepalive (s : State) : Host.Outcome State Fault Refusal :=
  if s.linkOn && s.vamp.trained && s.vamp.lastTx + 50 ≤ s.now then .next (s.sendCtl 2 []) else .next s

/-! ### Frames received (R553 to R557) -/

/-- A frame that the checks of R554 drop, with the code its NAK carries. -/
inductive FrameFail where
  | other (nak : Option Nat)
  | crc
  deriving DecidableEq, Repr

/-- The LENGTH a type must have (R554 check 3). -/
def frameLenOk (type n : Nat) : Bool :=
  match type with
  | 1 => 1 ≤ n && n ≤ 2048
  | 2 => n = 0
  | 3 => n = 2
  | 4 => n = 16
  | _ => n ≤ 2048

/-- R554 on the bytes between the delimiters. -/
def checkFrame (b : Bytes) (ended codeError : Bool) : Except FrameFail RxFrame :=
  let n := b.length
  let len := fieldAt b 8 2
  let type := fieldAt b 0 1
  if !ended || codeError || 2064 < n then .error (.other (some Code.frameLengthMismatch))
  else if n < 4 || fieldAt b (n - 4) 4 ≠ (Config.crc32 (b.take (n - 4))).toNat then .error .crc
  else if n ≠ len + 16 || !frameLenOk type len then .error (.other (some Code.frameLengthMismatch))
  else if type = 0 || 4 < type || fieldAt b 11 1 ≠ 0 || 1 < fieldAt b 1 1 then .error (.other none)
  else .ok {
    type := type, more := fieldAt b 1 1 = 1, seq := fieldAt b 2 2, ack := fieldAt b 4 2, credits := fieldAt b 6 2
    channel := fieldAt b 10 1, aad := b.take 2 ++ bytesAt b 8 3, payload := bytesAt b 12 len }

/-- The CRC and length of a lace frame (R532). -/
def laceFrameOk (b : Bytes) (ended codeError : Bool) : Option Nat :=
  let n := b.length
  if !ended || codeError || n < 16 || fieldAt b 8 2 + 16 ≠ n || 2064 < n then some Code.frameLengthMismatch
  else if fieldAt b (n - 4) 4 ≠ (Config.crc32 (b.take (n - 4))).toNat then some Code.frameCrcBad
  else none

/-- FRAME_RECEIVED (R532, R554, R619 kind 3): a frame on the VAMP link waits for its own command once it passes; one on a lace
port is only counted, its message being a command of its own. -/
def execFrameReceived (lace : Option (Fin 4)) (bytes : Bytes) (ended codeError : Bool) (s : State) :
    Host.Outcome State Fault Refusal :=
  match lace with
  | none =>
    if !s.linkOn || s.vamp.locked ≠ 3 || s.vamp.lostAt.isSome then .next s
    else match checkFrame bytes ended codeError with
      | .ok f => .next (s.modVamp (fun v => { v with rxq := v.rxq ++ [f], lastRx := s.now }))
      | .error .crc => .next (s.modVamp (fun v => { v with
          crcDrops := satInc 0xFFFF v.crcDrops, ctl := v.ctl ++ [Code.frameCrcBad] }))
      | .error (.other nak) => .next (s.modVamp (fun v => { v with
          otherDrops := satInc 0xFFFF v.otherDrops, ctl := v.ctl ++ nak.toList }))
  | some k =>
    if !s.live || !s.paired || !(s.port k.val).trained || (s.port k.val).retired then .next s
    else match laceFrameOk bytes ended codeError with
      | none => .next (s.faultOk 3 k.val)
      | some c =>
        .next ((s.modPort k.val (fun q => { q with crcErrors := satInc 0xFFFF q.crcErrors })).countFault 3 k.val c)

/-- The header's ACK and CREDITS (R557, R560): frames covered are freed, and their records with them. -/
def State.ackTo (s : State) (ack credits : Nat) : State :=
  let v := s.vamp
  let n := (ack + 65536 - v.peerAck) % 65536
  if v.outstanding < n then s
  else
    let covered := fun f : TxFrame => f.sent.isSome && decide ((ack + 65536 - f.seq) % 65536 < 32768)
    let recs := (v.tx.filter covered).flatMap (·.recs)
    let s := { s with log := { s.log with deliver := s.log.deliver.filter (fun d => !recs.contains d.seq) } }
    s.modVamp (fun v => ({ v with
      tx := v.tx.filter (fun f => !covered f), peerAck := ack, credits := credits } : VampSt).refresh)

/-- The frame at the front, when it is of the type the command serves. -/
def State.takeFrame (s : State) (type : Nat) : Option (RxFrame × State) :=
  match s.vamp.rxq with
  | f :: fs => if s.linkOn && f.type = type then some (f, s.modVamp (fun v => { v with rxq := fs })) else none
  | [] => none

/-- The Larir's TRAIN has been acknowledged: up, once it has received one too (R552; log entry 36). -/
def State.trainSeen (s : State) : State :=
  s.modVamp (fun v => ({ v with
    trainAcked := true, trained := v.trainRx, training := v.training && !v.trainRx } : VampSt).refresh)

/-- ACK (R557, R560). -/
def execAck (s : State) : Host.Outcome State Fault Refusal :=
  match s.takeFrame 2 with
  | some (f, s) => .next (s.trainSeen.ackTo f.ack f.credits)
  | none => .next s

/-- NAK (R560, R561): the frames sent again, or the link lost when the oldest has had three replays. -/
def execNak (s : State) : Host.Outcome State Fault Refusal :=
  match s.takeFrame 3 with
  | some (f, s) =>
    let s := (s.modVamp (fun v => { v with naks := satInc 0xFFFF v.naks })).ackTo f.ack f.credits
    match s.vamp.oldest with
    | some g => if 3 ≤ g.replays then .next s.linkLost else .next s.replay
    | none => .next s
  | none => .next s

/-- TRAIN (R555): a valid one sets both sequence numbers, discards every unacknowledged frame and grants CREDITS. -/
def execTrain (s : State) : Host.Outcome State Fault Refusal :=
  match s.takeFrame 4 with
  | some (f, s) =>
    let p := f.payload
    if fieldAt p 0 2 ≠ 1 || fieldAt p 2 1 ≠ 0 || fieldAt p 3 1 ≠ 0 || fieldAt p 8 1 ≠ 0 || !allZero (bytesAt p 9 7) then .next s
    else
      let s := s.dropTx.dropRx
      .next (s.modVamp (fun v => ({ v with
        rxSeq := 0, txSeq := 0, peerAck := 0, credits := fieldAt p 4 2, trainRx := true, trained := v.trainAcked
        training := false, ackDue := true } : VampSt).refresh))
  | none => .next s

/-- A frame's content reaches its channel's message; at its last frame the message is judged (R563, R564). -/
def State.takeBytes (s : State) (ch : Nat) (more : Bool) (b : Bytes) : State :=
  let c := s.vchan ch
  let m := c.rx ++ b
  if c.tooLong then if more then s else s.modVchan ch (fun c => { c with rx := [], tooLong := false })
  else if 65612 < m.length then
    let s := s.modVchan ch (fun c => { c with rx := [], tooLong := more })
    s.refuseAtOnce ch (fieldAt m 2 2) (fieldAt m 0 2) Code.vampBodyBad (fieldAt m 8 4)
  else if more then s.modVchan ch (fun c => { c with rx := m })
  else (s.modVchan ch (fun c => { c with rx := [] })).request ch m

/-- A session ends because a frame of it does not open (R570). -/
def State.tagFail (s : State) (ch seq : Nat) : State :=
  let s := s.modVamp (fun v => { v with tagFails := satInc 255 v.tagFails })
  let (inc, s) := s.incident
  (s.linkRecord (.session ch) Code.sessionTagBad inc seq 0).endSession ch

/-- A DATA frame accepted in sequence: plain, or opened under its session's key (R566, R569, R570). -/
def State.acceptData (s : State) (f : RxFrame) : State :=
  if f.channel = 0 then s.takeBytes 0 f.more f.payload
  else match s.session? f.channel with
    | none => if f.more then s else s.modVamp (fun v => { v with closedDrops := satInc 0xFFFF v.closedDrops })
    | some x =>
      let n := fieldAt f.payload 0 8
      match if f.payload.length < 25 || n ≤ x.rxCount then none
        else sm4Open x.keyIn (vampNonce 0 f.channel n) f.aad (f.payload.drop 8) with
      | none => s.tagFail f.channel f.seq
      | some b =>
        let s := s.modVamp (fun v => { v with
          sessions := tput v.sessions f.channel { x with rxCount := n, lastFrame := s.now } })
        s.takeBytes f.channel f.more b

/-- DATA (R556, R557, R563): accepted, repeated, or out of sequence. -/
def execData (s : State) : Host.Outcome State Fault Refusal :=
  match s.takeFrame 1 with
  | some (f, s) =>
    if !s.vamp.trainRx then .next s
    else
      let s := s.trainSeen.ackTo f.ack f.credits
      let behind := (s.vamp.rxSeq + 65537 - f.seq) % 65536
      if behind = 0 then
        .next ((s.modVamp (fun v => { v with rxSeq := f.seq, ackDue := true })).acceptData f)
      else if behind ≤ 32 then .next (s.modVamp (fun v => { v with ackDue := true }))
      else .next (s.modVamp (fun v => { v with ctl := v.ctl ++ [Code.frameSeqGap] }))
  | none => .next s

/-! ### Sessions (R567, R568, R571) -/

/-- SESSION_EXPIRED (R571). -/
def execSessionExpired (ch : Nat) (s : State) : Host.Outcome State Fault Refusal :=
  match s.session? ch with
  | some x =>
    if s.live && x.lastFrame + 60000000 ≤ s.now then
      .next ((s.eventInc 0x0A (.session ch) Code.sessionExpired (natBE 2 0 ++ natBE 1 0)).endSession ch)
    else .next s
  | none => .next s

/-- SESSION_CLOSE (R571): the session ends once the response is queued. -/
def execSessionClose (ch : Nat) (s : State) : Host.Outcome State Fault Refusal :=
  s.serve ch 0x0002 (fun _ => true) (fun s o _ => (s.answer o Code.ok).endSession ch)

/-- The adapter's key is accepted (R568). -/
def State.adapterKnown (s : State) (key : Bytes) : Bool :=
  let d := sm3 key
  s.lifecycle = 0 || s.lifecycle = 1 || s.lifecycle = 3 ||
    (match s.pat with | some t => t.device.anchors.contains d | none => false) || (s.ownerKeyOf key).isSome
/-- HELLOs admitted and not yet answered. -/
def State.hellos (s : State) : Nat :=
  (s.vamp.jobs.filter (fun j => match j.2.2 with | .hello _ => true | _ => false)).length

/-- HELLO (R567, R568, R573): admitted by the ledger for the 167 steps of the key agreement. -/
def execHello (ch : Nat) (s : State) : Host.Outcome State Fault Refusal :=
  s.serve ch 0x0001 (fun _ => true) (fun s o b =>
    match s.keysClosed with
    | some c => s.answer o c
    | none =>
      if !s.adapterKnown (bytesAt b 16 64) then s.answer o Code.helloKeyUnknown
      else if 8 ≤ s.vamp.sessions.length + s.hellos then s.answer o Code.busy
      else match s.placeUpdate 167 2000 1 (some o) (.hello b) with
        | some s => s
        | none => s.answer o Code.busy)

/-- The key agreement is done: the session opens on the lowest free channel and the Larir answers with its keys and S_B. A
point that is not on the curve opens none. -/
def State.helloDone (s : State) (o : Origin) (b : Bytes) : State :=
  let key := bytesAt b 16 64
  let eph := bytesAt b 80 64
  match [1, 2, 3, 4, 5, 6, 7, 8].find? (fun c => (s.session? c).isNone) with
  | none => s.answer o Code.busy
  | some c =>
    if !Config.sm2OnCurve key || !Config.sm2OnCurve eph then s.answer o Code.helloKeyUnknown
    else
      let own := scalarOf (s.keys.slot1.getD 0)
      let (v, s) := s.draw
      let ids := b.take 16 ++ s.deviceId
      let k := (Config.sm2Agree own v.toNat key eph ids).toNat
      let x : Session := { key := sm3 key, keyIn := BitVec.ofNat 128 (k / 2 ^ 128), keyOut := BitVec.ofNat 128 k, lastFrame := s.now }
      let s := s.modVamp (fun w => { w with sessions := tput w.sessions c x, chans := terase w.chans c })
      s.answer o Code.ok (natBE 4 c ++ s.vampKey ++ Config.sm2Public v.toNat ++
        Machine.fit 32 0 (Config.sm2Confirm own v.toNat key eph ids) ++ s.deviceId)

/-! ### Debug tokens (R646 to R648) -/

/-- Checks 1 to 4 of R647. -/
def State.tokenRefuses (s : State) (b : Bytes) : Option Nat :=
  let lc := s.lifecycle
  firstRefusal [
    (lc = 4, Code.keyStoreScuttled),
    (fieldAt b 0 4 ≠ 0x44424754 || fieldAt b 4 2 ≠ 1 || 1 < fieldAt b 6 1 || fieldAt b 7 1 ≠ 0 || fieldAt b 28 4 ≠ 0,
      Code.debugTokenBad),
    (bytesAt b 8 16 ≠ s.deviceId || fieldAt b 24 4 ≠ s.word bootCountAddr, Code.debugTokenBad),
    ((lc = 2 || (lc = 1 && s.featureShadowed)) && !s.feature 0, Code.fuseWordDenied)]
/-- Check 5 of R647. -/
def State.tokenSignerBad (s : State) (b : Bytes) : Bool :=
  s.lifecycle = 2 && ((s.ownerKeyOf (bytesAt b 32 64)).isNone || !sm2Ok (bytesAt b 32 64) (b.take 96) (bytesAt b 96 64))

/-- DEBUG_TOKEN (R573, R647): checks 1 to 4, then the ledger for the verification. -/
def execDebugToken (ch : Nat) (s : State) : Host.Outcome State Fault Refusal :=
  s.serve ch 0x00F0 (fun _ => true) (fun s o b =>
    match s.tokenRefuses b with
    | some c => s.answer o c
    | none => match s.placeUpdate 167 2000 1 (some o) (.token b) with
      | some s => s
      | none => s.answer o Code.busy)

/-- The token is judged to the end (R647, R648): accepted, the debug latch is set and answered in this stitch, and the root
switch follows at the boundary (R370, R579). -/
def State.tokenDone (s : State) (o : Origin) (b : Bytes) : State :=
  match s.tokenRefuses b with
  | some c => s.answer o c
  | none =>
    if s.tokenSignerBad b then s.answer o Code.debugTokenBad
    else
      let was := s.debugOn
      let grant : Bool := fieldAt b 6 1 = 1
      let s := { s with frz := { s.frz with debug := s.frz.debug || s.lifecycle ≠ 0, coreDebug := s.frz.coreDebug || grant } }
      let s := s.answer o Code.ok
      if was then s else s.later .rootSwitch

/-! ### The update queue (R573, R705) -/

/-- Work of the update queue whose granted steps are done takes effect and is answered; none while they are not. -/
def State.jobDone (s : State) (id : Nat) : Option State :=
  match s.vamp.jobs.find? (fun j => j.1 = id) with
  | none => none
  | some (_, o, j) =>
    if !s.opDone 4 (4096 + id) then none
    else
      let s := (s.endOp 4 (4096 + id)).modVamp (fun v => { v with jobs := v.jobs.filter (fun x => x.1 ≠ id) })
      match o with
      | none => some s
      | some o => some (match j with
        | .hello b => s.helloDone o b
        | .key op => s.keyFinish o op
        | .keyInfo _ body => s.answer o Code.ok body
        | .token b => s.tokenDone o b
        | .fuse r => s.askFuse o r
        | .staged p todo => s.stagedVerified o p todo)
/-- A command of the update queue ended by a code, and its work dropped. -/
def State.jobEnds (s : State) (id code : Nat) : State :=
  match s.vamp.jobs.find? (fun j => j.1 = id) with
  | none => s
  | some (_, o, j) =>
    let s := (s.abortOp 4 (4096 + id)).modVamp (fun v => { v with jobs := v.jobs.filter (fun x => x.1 ≠ id) })
    let s := match j with | .key _ => s.keyAborted | _ => s
    match o, j with
    | some o, .staged p _ => s.closeRefused o p code
    | some o, _ => s.answer o code
    | none, _ => s

/-- UPDATE_POINT_OPERATION_DONE (R573): the work of the update queue whose granted steps are done takes effect and is
answered. Numbers below 4,096 are the header verifications of activations (R293). -/
def execUpdatePointOperationDone (ident : Nat) (s : State) : Host.Outcome State Fault Refusal :=
  if !s.live then .next s
  else if ident < 4096 then (if 1024 ≤ ident then .next (s.activationVerified (ident - 1024)) else .next s)
  else .next ((s.jobDone (ident - 4096)).getD s)

/-! ### Published bounds (R75, R80, R573) -/

/-- The bound of a running command ends in the stitch that is ending. -/
def VCmd.dueBy (c : VCmd) (now : Nat) : Bool := c.state = 1 && c.due.any (fun t => decide (t ≤ now))
/-- The running commands whose bound ends with the stitch. -/
def State.dueCmds (s : State) : List Origin :=
  s.vamp.chans.flatMap (fun x => (x.2.cmds.filter (fun c => c.dueBy s.now)).map (fun c => ⟨x.1, c.tag, c.opcode⟩))
/-- The record being written, with no wait left before its next step. -/
def State.keyNow (s : State) : State :=
  { s with keys := { s.keys with commit := s.keys.commit.map (fun c => { c with began := c.began - 1 }) } }
/-- A command's key record, and those before it, brought to their end within the stitch that ends its bound (R75, R367). -/
def State.keyHurry (s : State) (o : Origin) : State :=
  if s.keys.commit.any (fun c => c.origin = some o) || s.keys.queue.any (fun c => c.origin = some o) then
    (List.range (s.keys.queue.length + 1)).foldl (fun s _ => s.keyNow.keyStep.keyStep.keyStep) s
  else s
/-- What still waits for a command is let go: its work of the update queue, its fuse request or the fuse job's answer, its ring entry
's note, its answer at the next boundary, its lease, its swap, its message (R75; log entry 86). -/
def State.withdraw (s : State) (o : Origin) : State :=
  let mine := fun (x : Option Origin) => decide (x = some o)
  let quit := fun (e : RingEntry) =>
    if mine e.origin then { e with origin := none, args := if e.req = 0x10 then fill 16 0 else e.args } else e
  let shut := fun (l : TargetLease) => mine l.opening || l.closing.any (fun c => decide (c.1 = o))
  let s := s.modFuse (fun f => { f with
    asked := f.asked.filter (fun r => !mine r.origin)
    job := f.job.map (fun j => if mine j.req.origin then { j with abort := some none } else j) })
  let s := s.modHeel (fun h => { h with ring := tmapAll {} h.ring (fun _ e => quit e), waiting := h.waiting.map quit })
  let s := s.modPair (fun q => { q with swap := q.swap.filter (fun x => x.1 ≠ o) })
  let s := [1, 2, 3].foldl (fun s t => if (s.target t).any shut then s.setTarget t none else s) s
  let s := s.modVchan o.ch (fun v => { v with inbox := v.inbox.filter (fun m => fieldAt m 2 2 ≠ o.tag) })
  { s with
    plats := tmapAll {} s.plats (fun _ t => if t.refills.contains o then
      { t with refills := t.refills.filter (· ≠ o), fillOwed := false } else t)
    deferred := s.deferred.filter (fun d => match d with | .respond x _ _ => x ≠ o | _ => true) }
/-- The end of a command's bound (R75): its work is answered where it is done, and else ends with STITCH_OVERRUN (R82). -/
def State.boundEnds (s : State) (o : Origin) : State :=
  let s := s.keyHurry o
  let s := match s.vamp.jobs.find? (fun j => j.2.1 = some o) with
    | some j => (s.jobDone j.1).getD (s.jobEnds j.1 Code.stitchOverrun)
    | none => s
  let s := ((List.range 64).filter (fun c => (s.ctx c).asked = some o)).foldl (fun s c =>
    if (s.ctx c).state = 1 && (s.ctx c).padded && !(s.ctx c).shortDue then (s.deliver c none).digestAnswer c
    else s.ctxFails c Code.stitchOverrun) s
  let s := match s.vamp.jobs.find? (fun j => j.2.1 = some o) with | some j => s.jobEnds j.1 Code.stitchOverrun | none => s
  if (s.running? o.ch o.tag).isSome then (s.withdraw o).answer o Code.stitchOverrun else s
/-- No response leaves after its bound (R75): in the stitch that ends a bound, a statement, a domain statement, a digest or a command
of the update queue whose steps are done is answered, and whatever is not done ends with STITCH_OVERRUN; a domain statement
not yet assembled is assembled (log entry 86). -/
def State.boundsStep (s : State) : State :=
  let due := fun (a b : Nat) => decide (a + b ≤ s.now)
  let ends := fun (s : State) (id : Nat) =>
    if s.statementDone id then s.statementEnds id else s.statementFails id Code.stitchOverrun
  let sts := (s.att.sts.filter (fun x => due x.accepted 2000)).map (·.id)
  let open_ := (s.att.domains.filter (fun d => due d.accepted 3000)).map (·.id)
  let doms := (s.att.domains.filter (fun d => due d.accepted 5000)).map (·.id)
  let s := doms.foldl ends (open_.foldl State.collectionEnds (sts.foldl ends s))
  s.dueCmds.foldl State.boundEnds s

end Sys2Proof.Machine
end

