-- ==== Sys2Proof/Machine/RegRead.lean ====
section
/-!
DEFINITION. The registers as they read (R40 to R52, R682 to R686 and each block's register tables): one function per block,
all of them of the 32-bit word at an offset. A selector is 0 to 4 as State.sel lists them; a reader is 0 to 4 for MC0 to MC3
and HC, or 8 and the session's channel.
-/
namespace Sys2Proof.Machine
open Sys2Proof

/-- A field placed at bit `lo`, cut to its `w` bits. -/
def fld (v lo w : Nat) : Nat := (v % 2 ^ w) * 2 ^ lo
/-- A flag placed at bit `lo`. -/
def bit (b : Bool) (lo : Nat) : Nat := b2n b * 2 ^ lo
/-- A count that saturates at `w` bits, placed at `lo`. -/
def sat (v lo w : Nat) : Nat := min v (2 ^ w - 1) * 2 ^ lo

/-- The selector of a reader: the cores' copy, or the session's own (R686). -/
def State.selOf (s : State) (reader i : Nat) : Nat :=
  if 8 ≤ reader then tget 0 s.sel (8 * (reader - 8) + i) else tget 0 s.sel i

/-- SYS (R9, R47 to R49, R652, R680). -/
def State.readSys (s : State) (reader off : Nat) : Nat :=
  match off with
  | 0x00 => sysId
  | 0x04 => s.sys.variant.code + bit s.sys.variantMarginal 2 + fld s.weltCount 8 8 + fld s.weltCount 16 8
  | 0x08 => if 8 ≤ reader then 7 else reader
  | 0x0C => bit s.sys.mgmtUp 0 + fld s.sys.lastCause 4 4 + sat s.sys.mgmtResets 8 8
  | 0x10 => bit s.frz.debug 0 + bit s.frz.coreDebug 1 + sat s.frz.ignored 8 8 + sat (s.word freezesAddr) 16 16
  | 0x14 => fld s.pwr.host1v2 0 4 + fld s.pwr.flash1v2 4 4 + fld s.pwr.bankBad 8 8 + sat s.pwr.mainLosses 16 8 +
      sat s.pwr.wakeFails 24 8
  | _ => 0

/-- STITCH (R86 to R91); COUNT_HI is the reader's latch (R55, R683). -/
def State.readStitch (s : State) (reader off : Nat) : Nat :=
  let t := s.stitch
  match off with
  | 0x00 => s.now % 2 ^ 32
  | 0x04 => (tget 0 t.hiLatch reader).toNat
  | 0x08 => (if s.scheduled then s.now % t.active.rows.length else 0) + fld t.active.rows.length 16 11 +
      bit t.switchPending 30 + bit s.scheduled 31
  | 0x0C => fld t.checkNo 0 4 + fld t.checkRow 4 10 + bit t.checkFailed 31
  | 0x10 => sat t.ovrCount 0 8 + fld t.ovrSource 8 8 + bit t.ovrPermanent 16
  | 0x14 => t.ovrAt % 2 ^ 32
  | 0x18 => fld s.att.outstanding 0 9 + sat t.busyCount 16 16
  | 0x1C => sat s.boundCount 0 6 + sat t.unboundCount 16 16
  | _ => 0

/-- WELT_PD0 and WELT_PD1 (R143, R160). -/
def State.readWeltPd (s : State) (k : Nat) : Nat :=
  let d := s.pd k
  let r := s.pdRec k
  let w := tget {} s.click.dirA k
  let sole := (List.range w.count).any (fun i =>
    let a := winAction (tget 0 s.click.winA (w.first + i))
    a = .sole || a = .slotmap)
  if (s.pdRec? k).isNone then 0
  else fld d.mode 0 2 + bit d.addr4 2 + bit d.wel 3 + bit (s.wip k) 4 + bit sole 5 + bit true 6 + fld r.dummy 8 5 +
    fld r.clockMax 16 8
/-- One bit per local eyelet of welt `n`. -/
def State.eyeBits (s : State) (n : Nat) (f : Nat → EyeSt → Bool) : Nat :=
  maskOf ((List.range 8).filter (fun i => f (8 * n + i) (s.eye (8 * n + i))))
/-- WELT (R6, R50, R141 to R145). -/
def State.readWelt (s : State) (n off : Nat) : Nat :=
  let w := s.welt n
  if s.weltCount ≤ n then 0
  else match off with
  | 0x00 => bit (s.hostEn n) 0 + bit (s.pair.role = .standby) 1 + bit w.hrstLow 2 + bit (s.weltReleased n) 3
  | 0x04 => n + fld (weltQuarter n) 6 2 + fld (weltChannel n) 8 3 + fld (weltSlot n) 11 3 + fld (weltAwl n) 14 4 + bit true 18 +
      (match s.pat.bind (fun t => patWeltPlat t n) with | some p => fld p 24 6 + bit true 30 | none => 0)
  | 0x08 => s.readWeltPd (2 * n)
  | 0x0C => s.readWeltPd (2 * n + 1)
  | 0x10 => s.eyeBits n (fun _ y => y.busy.isSome) + fld (s.eyeBits n (fun _ y => decide (y.suspended ≠ []))) 8 8 +
      fld (s.eyeBits n (fun _ y => s.drives && (match y.phase with | .inReset => true | .pulse _ => true | _ => false))) 16 8
  | 0x14 => s.eyeBits n (fun _ y => y.idBad) + fld (s.eyeBits n (fun _ y => y.retired)) 8 8 +
      fld (s.eyeBits n (fun e _ => (s.eyeRec? e).isSome)) 16 8
  | 0x18 => sat w.late 0 16 + sat w.cross 16 16
  | 0x1C => sat w.unmapped 0 16 + sat w.discarded 16 16
  | _ => 0

/-- The bits of an opcode map entry other than the reserved [7] and [31:30] (R13, R147, R148). -/
abbrev mapBits : Word := 0x3FFFFF7F
/-- CLICK (R181 to R188). -/
def State.readClick (s : State) (off : Nat) : Nat :=
  let c := s.click
  let dir := fun (t : Tbl DirRec) (deny : Bool) =>
    let k := (off % 0x800) / 16
    let d := tget {} t k
    match off % 16 with
    | 0 => d.list.toNat % 2 ^ 18
    | 4 => d.cfg.toNat % 2 ^ 29
    | 8 => d.bare.toNat % 2 ^ 16
    | _ => if deny then sat (s.pd k).defaultDeny 0 16 + sat (s.pd k).suppressed 16 16 else 0
  if off = 0 then bit c.loaded 0 + bit c.switchPending 1 + sat c.switches 16 16
  else if off = 4 then fld c.checkNo 0 4 + fld c.checkEntry 4 18 + bit c.checkFailed 31
  else if off = 8 then sat c.records 0 16 + sat c.suppressed 16 16
  else if 0x1000 ≤ off && off < 0x1800 then dir c.dirA true
  else if 0x1800 ≤ off && off < 0x2000 then dir c.dirL false
  else if 0x2000 ≤ off && off < 0x4000 then (tget 0 c.mapA ((off - 0x2000) / 4) &&& mapBits).toNat
  else if 0x4000 ≤ off && off < 0x6000 then (tget 0 c.mapL ((off - 0x4000) / 4) &&& mapBits).toNat
  else if 0x8000 ≤ off then
    let i := (off - 0x8000) / 8
    (if off % 8 = 0 then tget 0 c.allow i else tget 0 c.deny i) % 2 ^ 32
  else 0

/-- SOLE_PAGE_S of a mirror page (R231); FRAME reads 0 for a page without a frame (log entry 75). -/
def State.readPage (s : State) (m : Nat) : Nat :=
  if !s.pageExists m then 7
  else (s.pageState m).code + bit (s.page m).spare.isSome 3 + bit (s.suspectOf m) 4 +
    fld (if (s.page m).noFrame then 0 else s.frameOf m) 8 20
/-- The pages of a channel that are LOST now: all of them while it is DOWN (R222). -/
def State.lostPages (s : State) (c : Nat) : Nat :=
  if (s.chan c).down then chanPages
  else ((s.sole.pages.map Prod.fst).filter (fun m => pageChan m = c && s.pageState m = .lost)).length
/-- SOLE (R51, R229 to R234). -/
def State.readSole (s : State) (reader off : Nat) : Nat :=
  let chans := List.range 8
  if off = 0 then maskOf (List.range s.chanCount) + fld (maskOf (chans.filter (fun c => (s.chan c).up && !(s.chan c).down))) 8 8 +
    bit s.sole.hotRefresh 16
  else if off = 4 then sat s.sole.badFound 0 16 + fld (s.word badCountAddr) 16 12 + bit s.sole.persistDropped 28
  else if off = 0x10 then s.selOf reader 0 % 64
  else if off = 0x14 then s.selOf reader 1 % 2 ^ 22
  else if off = 0x18 then s.readPage (s.selOf reader 1 % 2 ^ 22)
  else if 0x100 ≤ off && off < 0x180 then
    let n := (off - 0x100) / 16
    let c := s.chan n
    if s.chanCount ≤ n then 0
    else match off % 16 with
    | 0 => sat c.fails 0 16 + sat c.refills 16 16
    | 4 => sat c.spares.length 0 15 + bit c.exhausted 15 + bit c.down 16 + sat (s.lostPages n) 17 15
    | 8 => sat c.passes 0 16 + sat c.corrected 16 16
    | _ => sat c.lineErrors 0 16 + sat c.rescues 16 16
  else if 0x200 ≤ off && off < 0x400 then
    let p := (off - 0x200) / 8
    let e := tget 0 s.sole.epoch p
    if off % 8 = 0 then e % 2 ^ 32 else fld (e / 2 ^ 32) 0 16 + bit (tget none s.sole.epochKey p).isSome 31
  else 0

/-- AWL (R264 to R268). -/
def State.readAwl (s : State) (reader off : Nat) : Nat :=
  let l := s.selOf reader 2 % 1024
  let y := s.latch l
  let x := s.lastEntry? l
  if off = 0 then (maskOf (List.range (s.weltCount / 4)) ||| 0x8000) + bit s.bootLoad 16
  else if off = 4 then l
  else if off = 8 then
    fld (match y.stage with | .idle => 0 | .header => 1 | .signature => 2 | .table => 3 | .pages => 4 | .latched => 5 | .failed => 6) 0 4 +
      bit y.latched 4 + bit (match x with | some x => x.boot | none => false) 5 + fld y.source.code 6 2 + sat y.bad.length 8 9
  else if off = 0xC then sat (y.matched.filter (fun e => e.2)).length 0 17
  else if off = 0x10 then if y.formatOk then hdrVersion y.header else 0
  else if off = 0x14 then fld y.code 0 16 + (match x with | some x => fld x.imageClass 16 10 | none => 0)
  else if 0x100 ≤ off && off < 0x200 then
    let p := (off - 0x100) / 4
    let ls := (s.platRec p).lasts
    maskOf ((ls.filter (fun x => (s.latch (16 * p + x.entry)).latched)).map (·.entry)) +
      fld (maskOf ((ls.filter (·.boot)).map (·.entry))) 16 16
  else if 0x300 ≤ off && off < 0x340 then sat (tget 0 s.env.compareFaults ((off - 0x300) / 4)) 0 16
  else if 0x1000 ≤ off && off < 0x1800 then
    let f := s.fault 0 ((off - 0x1000) / 4)
    sat f.consecutive 0 4 + sat (f.times.filter (fun t => s.now < t + 1000000)).length 4 8 + sat f.total 16 16
  else 0

/-- The job CUST_COB reports (R313). -/
def State.cobShown (s : State) : Option (Nat × CobJob) :=
  let job := fun p => (s.plat p).cob.map (fun j => (p, j))
  match s.cobLatest.bind job with
  | some x => some x
  | none => (List.range 64).findSome? job
/-- CUST (R312 to R315). While AREA is 1, PAGE of CUST_COB_PAGE shows the index of the area page being rewritten, which R313 does
not say (DESIGN CHOICE, log entry 95). -/
def State.readCust (s : State) (off : Nat) : Nat :=
  if off = 0 then match s.cobShown with
    | some (p, j) => bit true 0 + fld (match j.step with | .read => 0 | .erase => 1 | .program => 2 | .check => 3) 1 2 +
        fld j.source 3 2 + bit j.whole 5 + fld p 8 6 + fld (16 * p + j.entry) 16 10
    | none => 0
  else if off = 4 then match s.cobShown with
    | some (_, j) => match j.area with
      | m :: _ => fld m 0 17 + bit true 17
      | [] => fld (j.pages.headD 0) 0 17
    | none => 0
  else if 0x100 ≤ off && off < 0x500 then
    let p := (off - 0x100) / 16
    let t := s.plat p
    let f := s.flag p
    if s.weltCount ≤ p then (if off % 16 = 0 then bit (s.holdDriven p) 6 else 0)
    else match off % 16 with
    | 0 => fld t.state.code 0 3 + fld t.phase.code 4 2 + bit (s.holdDriven p) 6 + bit t.pwrgd 7 + fld t.excluded 16 16
    | 4 => bit t.map 0 + bit (flagActive f) 1 + bit (flagRaise f) 2 + bit t.writeback.isSome 3 + fld (flagGen f) 16 16
    | 8 => match t.lease with
      | some l => (match l.holder with | .host => 1 | .session _ => 2) + sat ((s.now - l.lastData) / 4096) 8 24
      | none => 0
    | _ => bit t.doneSeen 0 + bit t.bootDoneSeen 1 + bit t.timerSeen 2 + bit t.mailboxPending 3 + sat t.releases 16 16
  else 0

/-- DGST (R341, R344 to R346, R684): the per-core copies are 0 over REG_READ. -/
def State.readDgst (s : State) (reader off : Nat) : Nat :=
  let d := s.dgst
  if 4 ≤ off && off ≤ 0x10 then if 8 ≤ reader then 0 else (tget 0 d.args (4 * reader + (off - 4) / 4)).toNat
  else if off = 0x14 then if 8 ≤ reader then 0 else (tget 0 d.resp reader).toNat
  else if off = 0x18 then sat (d.ctxs.filter (fun e => decide (e.2.state ≠ 0))).length 0 7 + sat d.busyRefusals 16 16
  else if off = 0x1C then sat d.compareFaults 0 16 + sat d.shorts 16 16
  else if 0x1000 ≤ off && off < 0x2000 then
    let x := s.ctx ((off - 0x1000) / 64)
    let o := off % 64
    if o = 0 then fld x.state 0 3 + bit x.finished 3 + bit x.hmac 4 + fld x.dest 5 2 + bit x.matchP 7 + bit x.matchN 8 + bit x.ovr 9 +
      fld x.queue 10 3 + fld x.owner 13 3 + fld (if x.owner = 7 then x.session else 0) 16 8
    else if o = 4 then fld x.code 0 16 + sat x.restarts 16 16
    else if o = 8 then x.declared % 2 ^ 32
    else if o = 0xC then fld (x.declared / 2 ^ 32) 0 9
    else if o = 0x10 then x.fed % 2 ^ 32
    else if o = 0x14 then fld (x.fed / 2 ^ 32) 0 9
    else if 0x20 ≤ o then fieldAt (digestBytes x.result) (o - 0x20) 4
    else 0
  else 0

/-- KEYS (R375 to R378). -/
def State.readKeys (s : State) (reader off : Nat) : Nat :=
  let k := s.keys
  let slot := s.selOf reader 3 % 2048
  let st := s.slotState slot
  let r := if st = 2 || st = 5 then {} else s.slotInfo slot
  match off with
  | 0x00 => fld s.lifecycle 0 3 + bit s.debugOn 3 + fld k.code 4 3 + fld k.domainCode 8 3 + bit k.domainTest 11 + bit s.env.cleared 12
  | 0x04 => sat k.corrupt 0 11 + sat k.stale 16 11
  | 0x08 => slot
  | 0x0C => fld st 0 3 + fld r.type 3 3 + fld r.usage 6 3 + bit r.exp 9 +
      bit (st ≠ 2 && st ≠ 5 && 16 ≤ slot && slot < 1024 && decide (s.keySelect slot = 2)) 10 + fld r.parent 16 16
  | 0x10 => r.ownGen
  | 0x14 => r.parentGen
  | 0x18 => sat k.commits 0 16 + sat k.aborts 16 16
  | _ => 0

/-- The operation an engine shows: one it has begun, of the owner of the row in force if it holds one of that owner (R688). -/
def State.engineOp (s : State) (e : Nat) : Option PeOp :=
  let held := fun o : PeOp => decide (o.engine = some e) && decide (o.steps < o.total)
  match s.point.ops.find? (fun o => held o && granted s.row? e o.owner) with
  | some o => some o
  | none => s.point.ops.find? held
/-- POINT (R688). -/
def State.readPoint (s : State) (off : Nat) : Nat :=
  if off < 0x10 then match s.engineOp (off / 4) with
    | some o => fld o.op 0 2 + fld o.owner 2 3 + sat (o.total - o.steps) 8 8
    | none => 0
  else if off < 0x20 then
    sat (tget 0 s.point.done ((off - 0x10) / 4)) 0 16 + sat (tget 0 s.point.aborted ((off - 0x10) / 4)) 16 16
  else 0

/-- FUSE (R434 to R436). -/
def State.readFuse (s : State) (off : Nat) : Nat :=
  let f := s.fuse
  let locks := List.range 8
  if off = 0 then fld s.lifecycle 0 3 + bit (decide (f.ovr ≠ [])) 3 + bit f.gate 4 + sat s.arbCount 8 9
  else if off = 4 then maskOf (locks.filter s.fuseLocked) + fld (maskOf (locks.filter s.fuseInvalid)) 8 8 +
    sat s.marginalWords.length 16 10 + bit s.bank6Off 26
  else if off = 8 then bit f.job.isSome 0 + fld f.progWord 1 9 + fld f.progCode 16 16
  else if off = 0xC then sat f.vfprog 0 12 + bit s.vfprogOk 12 + bit (1024 ≤ s.hottest && s.hottest ≤ 2384) 13
  else if 0x100 ≤ off && off < 0x900 then s.fuseTaken ((off - 0x100) / 4)
  else if 0x900 ≤ off && off < 0x940 then
    maskOf ((List.range 32).filter (fun b => s.marginalWords.contains (8 * (off - 0x900) + b)))
  else 0

/-- Word `j` of ring entry `i` (R477). -/
def State.ringWord (s : State) (i j : Nat) : Nat :=
  let e := s.ringAt i
  match j with
  | 0 => fld e.state 24 8 + fld e.req 16 8 + fld e.core 8 8 + fld e.tag 0 8
  | 1 => fld e.status 16 16
  | 2 => (e.stitch / 2 ^ 32) % 2 ^ 32
  | 3 => e.stitch % 2 ^ 32
  | k => fieldAt (Machine.fit 16 0 e.args) (4 * (k - 4)) 4
/-- HEEL (R496 to R500). -/
def State.readHeel (s : State) (off : Nat) : Nat :=
  let h := s.heel
  if 0x1000 ≤ off && off < 0x1800 then s.ringWord ((off - 0x1000) / 32) (off % 32 / 4)
  else match off with
  | 0x00 => bit h.startup 0 + bit h.armed.isSome 1 + bit s.fuse.gate 2 + bit h.freezePermit 3 +
      bit (s.pair.driveA && s.pair.driveB) 4 + fld s.level.code 8 2
  | 0x04 => fld h.period 0 26 + fld s.fuseK 28 4
  | 0x08 => h.chal.toNat
  | 0x0C => fld s.heelOffset 0 26 + bit s.windowOpen 26
  | 0x10 => sat h.expiries 0 8 + sat h.early 8 8 + sat h.bad 16 8 + sat h.escalations 24 8
  | 0x14 => fld h.head 0 6 + sat h.full 16 16
  | 0x18 => fld h.tail 0 6
  | 0x20 => fld h.wakeCause 0 3 + fld h.wakeMode 3 1 + sat h.entries 16 16
  | _ => 0

/-- Heartbeat intervals of 10 stitches missed in a row on a port (R534, R548). -/
def State.missedOf (s : State) (k : LacePort) : Nat :=
  match k.lastHeard with | some t => (s.now - t - 1) / 10 | none => 0
/-- LACE (R545 to R548). -/
def State.readLace (s : State) (off : Nat) : Nat :=
  let q := s.pair
  let units := fun f : Member → Bool => maskOf ((List.range 8).filter (fun k => f (s.member k)))
  match off with
  | 0x00 => fld q.unitId 0 3 + bit q.pairEn 3 + fld q.domainPairs 4 2 + bit q.strapConflict 6 + fld q.role.code 8 3 + bit s.fit 11 +
      bit q.unfitRelease 12 + bit (s.paired && q.partnerLost) 13 + bit q.solo 14 + sat q.takeovers 16 8
  | 0x04 => bit q.aHigh 0 + bit q.bHigh 1 + bit q.driveA 2 + bit q.driveB 3 + bit q.released.isSome 4 + bit q.disagree 5 +
      sat q.disagreeCount 8 8
  | 0x08 => sat q.pageMismatch 0 16 + sat q.answerMismatch 16 16
  | 0x0C => units (fun m => m.ever && !m.silent) + fld (units (·.active)) 8 8 + (match q.lead with | some u => fld u 16 3 | none => 0) +
      bit q.lead.isSome 19 + bit (q.lead = some q.unitId) 20 + fld (units (·.debug)) 21 8
  | 0x10 => fld q.mirrorSeq 0 24 + bit (decide (q.mirrors ≠ [])) 24 + bit q.snapshotDone 25
  | 0x14 => maskOf ((List.range 32).filter s.shadowOk)
  | 0x18 => maskOf ((List.range 32).filter (fun i => s.shadowOk (32 + i)))
  | _ =>
    if 0x20 ≤ off && off < 0x30 then
      let k := s.port ((off - 0x20) / 4)
      bit k.trained 0 + bit k.keyed 1 + bit k.lost 2 + bit k.retired 3 + sat (s.missedOf k) 8 8 + sat k.crcErrors 16 16
    else 0

/-- VAMP (R585, R586). -/
def State.readVamp (s : State) (off : Nat) : Nat :=
  let v := s.vamp
  match off with
  | 0x00 => bit v.trained 0 + fld v.locked 1 2 + sat v.credits 8 8 + sat v.losses 16 16
  | 0x04 => sat v.crcDrops 0 16 + sat v.otherDrops 16 16
  | 0x08 => sat v.replays 0 16 + sat v.naks 16 16
  | 0x0C => maskOf (v.sessions.map (fun e => e.1 - 1)) + sat v.tagFails 8 8 + sat v.closedDrops 16 16
  | 0x10 => v.incident % 2 ^ 32
  | _ => 0

/-- ENV (R632 to R635). -/
def State.readEnv (s : State) (reader off : Nat) : Nat :=
  let e := s.env
  let i := s.selOf reader 4 % 64
  let trips := e.trips.toNat
  match off with
  | 0x00 => fld s.level.code 0 2 + bit e.cleared 2 + bit s.scuttlePending 3 + bit e.refclkFallback 4
  | 0x04 => trips % 2 ^ 30 + bit (decide (trips / 2 ^ 32 ≠ 0)) 30
  | 0x08 => trips / 2 ^ 32
  | 0x0C => i
  | 0x10 => fld (tget 0 e.latest i) 0 12 + fld (tget 0 e.extreme i) 12 12
  | 0x14 => s.word incidentAddr
  | 0x18 => s.logHead.1 % 2 ^ 32
  | 0x1C => sat (s.word fatalsAddr) 0 8 + fld (s.word fatalCauseAddr) 8 4 + bit e.fatalRepeat 12
  | _ => 0

/-- DMA (R689). -/
def State.readDma (s : State) (off : Nat) : Nat :=
  match off with
  | 0x00 => sat (s.dgst.ctxs.foldl (fun n e => n + e.2.feeds.length) 0) 0 10
  | 0x04 => min (s.dgst.fetched / 2 ^ 20) 0xFFFFFFFF
  | _ => 0

/-- PAT (R471 to R473, R606, R607). -/
def State.readPat (s : State) (off : Nat) : Nat :=
  let b := s.boot
  let w := s.patFlag
  let running : Bool := b.stage = .running || b.stage = .warm
  match off with
  | 0x00 => s.bootState
  | 0x04 => bit (running && b.slot = 1) 0 + bit (running && s.trial) 1 + bit (b.stage = .rescue) 2 + bit b.warm 3 +
      fld b.writable 4 2 + sat b.setDenied 16 16
  | 0x08 => if running then fwVersion b.header else 0
  | 0x0C => match b.deadline with | some d => if s.trial then min (d - s.now) 0xFFFFFFFF else 0 | none => 0
  | 0x10 => w % 8 + bit b.noPattern 3 + fld (w / 65536) 16 16
  | 0x14 => bit s.copyOpen 0 + fld s.copyTarget 1 3 + fld s.copyUnits 8 8 + fld s.copyNext 16 8
  | 0x18 => bit b.fw.isSome 0 + bit b.pat.isSome 1 + bit b.certs.isSome 2 +
      (match b.fw with | some l => fld (l.next / 65536) 8 8 | none => 0) +
      (match b.pat with
        | some l => fld (l.next / 65536) 16 8
        | none => match b.certs with | some l => fld (l.next / 65536) 16 8 | none => 0)
  | 0x1C => fld s.patLoad.code 0 16 + fld s.patLoad.stage 16 4 + fld s.patLoad.section_ 20 4 + bit s.patLoad.failed 31
  | 0x20 => s.patLoad.record % 2 ^ 32
  | _ => 0

/-- The word a reader sees at an address of the register space (R40, R41, R684): 0 where no register is. -/
def State.readReg (s : State) (reader addr : Nat) : Word :=
  let off := addr % 0x10000
  BitVec.ofNat 32 (
    if addr % 4 ≠ 0 || addr < 0x20000000 || 0x20140000 ≤ addr then 0
    else match addr / 0x10000 - 0x2000 with
    | 0x0 => s.readSys reader off
    | 0x1 => s.readStitch reader off
    | 0x2 | 0x3 | 0x4 | 0x5 => s.readWelt ((addr - 0x20020000) / 0x1000) (addr % 0x1000)
    | 0x6 => s.readClick off
    | 0x7 => s.readSole reader off
    | 0x8 => s.readAwl reader off
    | 0x9 => s.readCust off
    | 0xA => s.readDgst reader off
    | 0xB => s.readKeys reader off
    | 0xC => s.readPoint off
    | 0xD => s.readFuse off
    | 0xE => s.readHeel off
    | 0xF => s.readLace off
    | 0x10 => s.readVamp off
    | 0x11 => s.readEnv reader off
    | 0x12 => s.readDma off
    | 0x13 => s.readPat off
    | _ => 0)

/-- A read as the reader makes it: STITCH_COUNT_LO latches the reader's COUNT_HI (R55, R683). -/
def State.regRead (s : State) (reader addr : Nat) : Word × State :=
  let v := s.readReg reader addr
  if addr = 0x20010000 then
    (v, { s with stitch := { s.stitch with hiLatch := tset 0 s.stitch.hiLatch reader (BitVec.ofNat 32 (s.now / 2 ^ 32)) } })
  else (v, s)
/-- A run of words in ascending order (R682). -/
def State.regReads (s : State) (reader addr : Nat) : Nat → Bytes × State
  | 0 => ([], s)
  | n + 1 =>
    let (v, s) := s.regRead reader addr
    let (b, s) := s.regReads reader (addr + 4) n
    (natBE 4 v.toNat ++ b, s)

end Sys2Proof.Machine
end

