-- ==== Sys2Proof/Machine/RegCmd.lean ====
section
/-!
DEFINITION. Commands on registers: core writes (R11 to R15, R40 to R46), STITCH_COUNT_LO, and the VAMP commands REG_READ,
REG_WRITE, STATUS_GET and LOG_DRAIN (R574, R575, R580, R682 to R687).
-/
namespace Sys2Proof.Machine
open Sys2Proof

/-- The selector registers: number and field width (R685). -/
def selector : Nat → Option (Nat × Nat)
  | 0x20070010 => some (0, 6)
  | 0x20070014 => some (1, 22)
  | 0x20080004 => some (2, 10)
  | 0x200B0008 => some (3, 11)
  | 0x2011000C => some (4, 6)
  | _ => none

/-- STITCH_COUNT_LO_READ (R55): a core's read. -/
def execStitchCountLoRead (reader : Nat) (s : State) : Host.Outcome State Fault Refusal :=
  if !s.live || 4 < reader then .next s
  else
    let (v, s) := s.regRead reader 0x20010000
    .next (s.emit (.coreRead (natBE 4 v.toNat)))

/-! ### Core writes -/

/-- A core writes MRAM (R46, R449, R463, R617): the key store is not mapped, counters only rise, BOOT_STATE, the pattern flag, the
copy journal and the tamper word are read-only, one settings area is writable, the log is the log queue's. -/
def State.mramWrite (s : State) (a v : Nat) : State :=
  if a < 0x40040000 then s
  else if a < 0x40050000 then s.raise a v
  else if a < 0x40080000 then
    if a = bootStateAddr || a = patFlagAddr || a = tamperWordAddr || (copyJournalAddr ≤ a && a < copyJournalAddr + 32) then s
    else s.setWord a v
  else if 0x40081000 ≤ a && a < 0x400F9000 then
    if (a - 0x40081000) / 0x28000 + 1 = s.boot.writable then s.setWord a v
    else { s with boot := { s.boot with setDenied := satInc 0xFFFF s.boot.setDenied } }
  else s

/-- A word of the window table's loading bank (R45, R155): 16-byte entries, word 0 highest. -/
def putWindow (w : WindowWord) (j v : Nat) : WindowWord :=
  let lo := 32 * (3 - j)
  BitVec.ofNat 128 (w.toNat - fld (w.toNat / 2 ^ lo) lo 32 + fld v lo 32)

/-- A word of a ring entry as a core may write it (R477): STATE, REQ and TAG, and ARGS; CORE is the hardware's, STATUS and STITCH
the heel's. -/
def RingEntry.put (e : RingEntry) (j v : Nat) : RingEntry :=
  match j with
  | 0 => { e with state := v / 2 ^ 24 % 256, req := v / 2 ^ 16 % 256, tag := v % 256, origin := none, lease := 0 }
  | 1 => e
  | 2 => e
  | 3 => e
  | k =>
    let a := Machine.fit 16 0 e.args
    { e with args := a.take (4 * (k - 4)) ++ natBE 4 v ++ a.drop (4 * (k - 4) + 4) }

/-- Ring entry `i` is posted and not yet answered (R478): it lies from HEAD to TAIL, or it is the open fuse command's (R424). -/
def State.ringPosted (s : State) (i : Nat) : Bool :=
  decide ((i + 64 - s.heel.head) % 64 < (s.heel.tail + 64 - s.heel.head) % 64) ||
    (match s.fuse.job with | some j => decide (j.entry = i) | none => false)

/-- A core writes word `k` of ring entry `i` (R477): ignored while the entry is posted (R478). -/
def State.writeRingWord (s : State) (i k v : Nat) : State :=
  if s.ringPosted i then s else s.modRing i (fun e => e.put k v)

/-- The loading bank of the CLICK block (R181, R182). -/
def State.clickWrite (s : State) (off : Nat) (v : Word) : State :=
  if 0x1800 ≤ off && off < 0x2000 then
    let k := (off - 0x1800) / 16
    let f := fun d : DirRec => match off % 16 with
      | 0 => { d with list := v }
      | 4 => { d with cfg := v }
      | 8 => { d with bare := v }
      | _ => d
    { s with click := { s.click with dirL := tmod {} s.click.dirL k f } }
  else if 0x4000 ≤ off && off < 0x6000 then
    { s with click := { s.click with mapL := tset 0 s.click.mapL ((off - 0x4000) / 4) (v &&& mapBits) } }
  else s

/-- The W1C bits of CUST_EVT (R315). -/
def State.custWrite (s : State) (off v : Nat) : State :=
  if 0x100 ≤ off && off < 0x500 && off % 16 = 12 then
    s.modPlat ((off - 0x100) / 16) (fun t => { t with
      doneSeen := t.doneSeen && !v.testBit 0, bootDoneSeen := t.bootDoneSeen && !v.testBit 1
      timerSeen := t.timerSeen && !v.testBit 2, mailboxPending := t.mailboxPending && !v.testBit 3 })
  else s

/-- A core writes a register (R11 to R13, R40, R41): the writable ones are those R687 and R685 list. R182 makes the loading bank's
words RW to management cores and says nothing of the heel core, which writes them too here (DESIGN CHOICE, log entry 93). -/
def State.regWrite (s : State) (core a : Nat) (v : Word) : State :=
  match selector a with
  | some (i, w) => { s with sel := tset 0 s.sel i (v.toNat % 2 ^ w) }
  | none =>
    let off := a % 0x10000
    match a / 0x10000 with
    | 0x2006 => s.clickWrite off v
    | 0x2009 => s.custWrite off v.toNat
    | 0x200A =>
      if core < 4 && 4 ≤ off && off ≤ 0x10 then s.modDgst (fun d => { d with args := tset 0 d.args (4 * core + (off - 4) / 4) v })
      else s
    | 0x200E =>
      if 0x1000 ≤ off && off < 0x1800 then s.writeRingWord ((off - 0x1000) / 32) (off % 32 / 4) v.toNat else s
    | _ => s

/-- REGISTER_WRITE (R11 to R13, R15, R40 to R46): a management core's write once its firmware runs; one that is not
an aligned word reaches no register. DGST_CMD, HEEL_RING_TAIL and HEEL_TIMER_SVC do what their own commands say. -/
def execRegisterWrite (core : Nat) (addr : Word) (value : CoreData) (s : State) : Host.Outcome State Fault Refusal :=
  let a := addr.toNat
  let v := value.value
  if !s.live || 4 < core || (core < 4 && !s.sys.mgmtUp) || a % 4 ≠ 0 || value.width ≠ 4 then .next s
  else if a = 0x200A0000 then .next (if s.dgstMay core then s.dgstCmd core v.toNat else s)
  else if a = 0x200E0018 then execHeelRingTailWrite core v s
  else if a = 0x200E001C then execHeelTimerSvcWrite core v s
  else if s.dataBase ≤ a && a < 0x10400000 then .next (s.setWord a v.toNat)
  else if 0x20000000 ≤ a && a < 0x20140000 then .next (s.regWrite core a v)
  else if 0x40000000 ≤ a && a < 0x40400000 then .next (s.mramWrite a v.toNat)
  else if 0x50000000 ≤ a && a < 0x50400000 then
    let i := (a - 0x50000000) / 16
    .next { s with click := { s.click with winL := tmod 0 s.click.winL i (fun w => putWindow w (a % 16 / 4) v.toNat) } }
  else .next s

/-! ### The VAMP commands -/

/-- REG_READ (R682 to R684, R686). -/
def execRegRead (ch : Nat) (s : State) : Host.Outcome State Fault Refusal :=
  s.serve ch 0x0011 (fun _ => true) (fun s o b =>
    let (v, s) := s.regReads (8 + ch) (fieldAt b 0 4) (fieldAt b 4 4)
    s.answer o Code.ok v)

/-- REG_WRITE (R575, R685 to R687): in PROVISION, a session's copy of a selector; SOLE_APER_SEL changes nothing. -/
def execRegWrite (ch : Nat) (s : State) : Host.Outcome State Fault Refusal :=
  s.serve ch 0x0012 (fun _ => true) (fun s o b =>
    match selector (fieldAt b 0 4) with
    | some (i, w) =>
      if s.lifecycle ≠ 1 then s.answer o Code.vampRegDenied
      else if i = 0 then s.answer o Code.ok (natBE 4 0)
      else
        let v := fieldAt b 4 4 % 2 ^ w
        ({ s with sel := tset 0 s.sel (8 * ch + i) v } : State).answer o Code.ok (natBE 4 v)
    | none => s.answer o Code.vampRegDenied)

/-- The body of STATUS_GET with SELECT 0 (R574). -/
def State.deviceStatus (s : State) : Bytes :=
  natBE 4 sysId ++ natBE 1 s.sys.variant.code ++ natBE 1 s.lifecycle ++ natBE 1 s.pair.role.code ++
    natBE 1 (b2n (decide (s.boot.stage = .rescue)) + 2 * b2n s.trial + 4 * b2n s.boot.noPattern + 8 * b2n s.env.cleared) ++
    natBE 8 s.now ++ natBE 4 (s.word bootCountAddr) ++
    natBE 4 (min 0xFFFF s.log.fifo.length + 65536 * s.vamp.sessions.length) ++
    (List.range 64).map (fun p => if s.weltCount ≤ p then 0xFF
      else BitVec.ofNat 8 ((s.plat p).state.code + 16 * (s.plat p).phase.code))
/-- STATUS_GET with SELECT 0. -/
def execStatusGetDevice (ch : Nat) (s : State) : Host.Outcome State Fault Refusal :=
  s.serve ch 0x0010 (fun b => fieldAt b 3 1 = 0) (fun s o _ => s.answer o Code.ok s.deviceStatus)

/-- The body of STATUS_GET with SELECT 1 (R574, R580): the channel's latest command with the TAG. -/
def State.commandStatus (s : State) (ch tag : Nat) : Bytes :=
  let c := ((s.vchan ch).cmds.reverse.find? (fun c => c.tag = tag)).getD { tag := tag }
  natBE 2 c.tag ++ natBE 2 c.opcode ++ natBE 2 c.status ++ [0] ++ natBE 1 c.state ++ natBE 4 c.incident ++ natBE 8 c.accepted
/-- STATUS_GET with SELECT 1. -/
def execStatusGetCommand (ch : Nat) (s : State) : Host.Outcome State Fault Refusal :=
  s.serve ch 0x0010 (fun b => fieldAt b 3 1 = 1) (fun s o b => s.answer o Code.ok (s.commandStatus ch (fieldAt b 0 2)))

/-- LOG_DRAIN (R574, R628, R629): up to MAX records from FROM on; GAP when FROM's record has been overwritten. -/
def execLogDrain (ch : Nat) (s : State) : Host.Outcome State Fault Refusal :=
  s.serve ch 0x0020 (fun _ => true) (fun s o b =>
    let from_ := fieldAt b 0 8
    let head := s.logHead.1
    let oldest := max 1 (head + 1 - logSize)
    let first := max from_ oldest
    let n := min (fieldAt b 8 4) (head + 1 - first)
    let gap : Bool := 1 < oldest && from_ < oldest
    let (c, s) := s.chainBefore first
    s.answer o Code.ok (natBE 8 first ++ natBE 4 (n + 65536 * b2n gap) ++ fill 4 0 ++ digestBytes c ++
      (List.range n).flatMap (fun i => s.bytes (logAddr (first + i)) 32)))

end Sys2Proof.Machine
end

