-- ==== Sys2Proof/Machine/Lace.lean ====
section
/-!
DEFINITION. The lace (chapter 14, R520 to R543): ports, heartbeats, what partners tell each other, mirrored records, swap
drills, and the laced domain.
-/
namespace Sys2Proof.Machine
open Sys2Proof

/-! ### Ports (R532, R533, R536, R538) -/

/-- The port runs: trained, keyed, not retired. -/
def State.portRuns (s : State) (k : Nat) : Bool := (s.port k).trained && (s.port k).keyed && !(s.port k).retired
/-- The public key of slot 4 leaves in a PORT_KEY frame (R533). -/
def State.sendPortKey (s : State) (k : Nat) : State :=
  s.emit (.lace k 0x20 (Config.sm2Public (scalarOf (s.keys.slot4.getD 0))))
/-- Both partner ports are lost (R536). -/
def State.partnerPathLost (s : State) : Bool := (s.port 0).lost && (s.port 3).lost

/-- A port that is trained and keyed is no longer lost; when that brings the partner path up, the partner is no longer lost,
SOLO ends, and an active unit sends its SNAPSHOT (R530, R536, R539). -/
def State.portUp (s : State) (k : Nat) : State :=
  if !s.portRuns k || !(s.port k).lost then s
  else
    let s := s.modPort k (fun q => { q with lost := false, lastHeard := some s.now })
    if s.pair.partnerLost && (k = 0 || k = 3) then
      let s := s.modPair (fun q => { q with partnerLost := false, solo := false, snapshotDone := false })
      if s.pair.role = .active then s.sendSnapshot else s.sendRejoin
    else s

/-- A frame dropped for CRC or length counts on the port and as a fault of it (R532, R548, R619 kind 3). -/
def State.portFault (s : State) (k : Nat) : State :=
  (s.modPort k (fun q => { q with crcErrors := satInc 0xFFFF q.crcErrors })).countFault 3 k Code.lacePortDown

/-- LACE_PORT_TRAINED (R530, R533, R611, R619): training after a loss ends. It succeeds, and this unit's PORT_KEY leaves; or it
fails and counts as a port fault. No training is attempted after a loss while REFCLK_FALLBACK is set. -/
def execLacePortTrained (port : Fin 4) (ok : Bool) (s : State) : Host.Outcome State Fault Refusal :=
  let k := port.val
  let q := s.port k
  if !s.live || !s.paired || q.trained || q.retired || (s.env.refclkFallback && q.lastHeard.isSome) then .next s
  else if !ok then .next (if q.lastHeard.isSome then s.countFault 3 k Code.lacePortDown else s)
  else .next (((s.modPort k (fun q => { q with trained := true })).sendPortKey k).portUp k)

/-- PORT_KEY (R533): the neighbour's public key gives the port key with this unit's slot 4. -/
def execPortKey (port : Fin 4) (key : Bytes) (s : State) : Host.Outcome State Fault Refusal :=
  let k := port.val
  if !s.live || !s.paired || (s.port k).retired || !Config.sm2OnCurve key || s.keys.slot4.isNone then .next s
  else
    let (v, s) := s.draw
    let shared := Config.sm2Agree (scalarOf (s.keys.slot4.getD 0)) v.toNat key key []
    let s := s.modPort k (fun q => { q with key := shared.setWidth 128, keyed := true })
    .next (s.portUp k)

/-- LACE_PORT_LOST (R536, R537): 500 stitches without a valid heartbeat. With L0 and L3 lost the partner is lost. -/
def execLacePortLost (port : Fin 4) (s : State) : Host.Outcome State Fault Refusal :=
  let k := port.val
  let q := s.port k
  let due := match q.lastHeard with | some t => decide (t + 500 ≤ s.now) | none => false
  if !s.live || !s.paired || q.lost || !due then .next s
  else
    let s := s.modPort k (fun q => { q with lost := true, trained := false, keyed := false, key := 0 })
    let s := s.event 0x09 (.port k) Code.lacePortDown (natBE 1 s.pair.role.code ++ natBE 1 s.pair.partner.role)
    if s.partnerPathLost && !s.pair.partnerLost then
      .next ((s.modPair (fun q => { q with partnerLost := true, ownReads := [], theirReads := [], rejoinAsked := [] })).pairRecord
        .device Code.partnerLost)
    else .next s

/-- A lace port retired at a boundary (R538, R621): down until device reset, with its RETIRE record. -/
def State.retirePortNow (s : State) (k : Nat) : State :=
  let s := s.modPort k (fun q => { q with retired := true, trained := false, keyed := false, key := 0, lost := true })
  let s := s.event 0x04 (.port k) Code.channelRetired (natBE 1 3 ++ natBE 1 0xFF)
  if s.paired && s.partnerPathLost && !s.pair.partnerLost then
    (s.modPair (fun q => { q with partnerLost := true, ownReads := [], theirReads := [], rejoinAsked := [] })).pairRecord
      .device Code.partnerLost
  else s

/-! ### Heartbeats (R534, R535) -/

/-- Bit p set where SHADOW_OK of platform p holds. -/
def State.shadowMask (s : State) : Nat := maskOf ((List.range 64).filter s.shadowOk)
/-- The HEARTBEAT payload (R535). -/
def State.heartbeat (s : State) : Bytes :=
  let q := s.pair
  natBE 1 q.role.code ++
    natBE 1 (b2n s.fit + 2 * b2n s.debugOn + 4 * b2n s.trial + 8 * b2n q.solo + 16 * b2n (!q.aHigh) + 32 * b2n (!q.bHigh)) ++
    natBE 1 (q.lead.getD 0xFF) ++ [0] ++ natBE 4 q.mirrorSeq ++ natBE 8 s.now ++ digestBytes s.patDigest ++ natBE 8 s.shadowMask

/-- HEARTBEAT_SEND (R534): every 10 stitches, on all trained ports. -/
def execHeartbeatSend (s : State) : Host.Outcome State Fault Refusal :=
  let due := match s.pair.beatAt with | some t => decide (t + 10 ≤ s.now) | none => true
  if s.live && s.paired && due then
    let s := [0, 1, 2, 3].foldl (fun s k => if s.portRuns k then s.emit (.lace k 0x01 s.heartbeat) else s) s
    .next (s.modPair (fun q => { q with beatAt := some s.now }))
  else .next s

/-- The unit at the far end of a port (R505). -/
def State.neighbour (s : State) (k : Nat) : Nat :=
  let n := s.domainUnits
  match k with
  | 1 => (s.pair.unitId + 1) % n
  | 2 => (s.pair.unitId + n - 1) % n
  | _ => s.pair.unitId ^^^ 1
/-- Member `u` changed. -/
def State.modMember (s : State) (u : Nat) (f : Member → Member) : State :=
  s.modPair (fun q => { q with members := tmod {} q.members u f })

/-- PATTERN_DIFFERS once per change of either digest while both patterns are in force (R512). -/
def State.judgeDigests (s : State) (changed : Bool) : State :=
  let own := s.patDigest
  let his := s.pair.partner.pattern
  let differ := s.pat.isSome && decide (his ≠ 0) && decide (his ≠ own)
  if differ && (changed || !s.pair.differsTold) then
    (s.modPair (fun q => { q with differsTold := true })).pairRecord .device Code.patternDiffers
  else s.modPair (fun q => { q with differsTold := differ })

/-- The boundary reports a difference that a switch of this unit's own pattern has made, whether or not the partner is heard (R512). -/
def State.differStep (s : State) : State := if s.paired && s.live then s.judgeDigests false else s
/-- What a partner's heartbeat says (R512, R515, R535): both units ACTIVE is reported, and the odd one releases. -/
def State.hearPartner (s : State) (b : Bytes) : State :=
  let p : PartnerView := {
    ever := true
    heard := s.now
    role := fieldAt b 0 1
    flags := fieldAt b 1 1
    lead := fieldAt b 2 1
    mirrorSeq := fieldAt b 4 4 % 2 ^ 24
    pattern := digestOfBytes (bytesAt b 16 32)
    shadowOk := fieldAt b 48 8 }
  let changed := s.pair.partner.ever && decide (s.pair.partner.pattern ≠ p.pattern)
  let s := (s.modPair (fun q => { q with partner := p })).judgeDigests changed
  if s.pair.role = .active && p.role = 3 then
    let s := s.pairRecord .device Code.dualActive
    if s.evenUnit then s else s.later (.shankRelease true)
  else s

/-- HEARTBEAT (R505, R511, R515, R535): a frame dropped for CRC or length counts as a fault; a valid one shows its port alive, the
sender's debug state, and on any port that joins the partner, ring ports among them, what R535 gives. -/
def execHeartbeat (port : Fin 4) (frameOk : Bool) (payload : Bytes) (s : State) : Host.Outcome State Fault Refusal :=
  let k := port.val
  if !s.live || !s.paired || !s.portRuns k then .next s
  else if !frameOk || payload.length ≠ 56 then .next (s.portFault k)
  else
    let s := (s.modPort k (fun q => { q with lastHeard := some s.now })).faultOk 3 k
    let s := s.modMember (s.neighbour k) (fun m => { m with
      ever := true, heard := s.now, silent := false, debug := (fieldAt payload 1 1).testBit 1 })
    .next (if s.neighbour k = s.pair.unitId ^^^ 1 then s.hearPartner payload else s)

/-! ### What partners tell each other (R520 to R531) -/

/-- A frame on the partner path reaches this unit. -/
def State.partnerHere (s : State) : Bool := s.live && s.paired && (s.portRuns 0 || s.portRuns 3) && !s.pair.partnerLost
/-- The unit follows its partner: it is not ACTIVE (R503, R520). -/
def State.follows (s : State) : Bool := s.partnerHere && s.pair.role ≠ .active

/-- The custody state of a code (R269). -/
def custodyOf : Nat → Custody
  | 0 => .held | 1 => .filling | 2 => .verified | 3 => .released | 4 => .running | 5 => .recovering | 6 => .quarantined
  | _ => .retired
/-- The phase of a code (R270). -/
def phaseOf : Nat → Phase
  | 0 => .held | 1 => .boot | 2 => .runtime | _ => .update

/-- One platform of a STATE message: state, phase, EXCLUDED, fill job (log entry 38). A follower takes the state as it is told
it; a hold ends its own fill, and a fill of the partner, or a running platform it does not cover, calls for one of its own
(R520, R523). -/
def State.followPlat (s : State) (p : Nat) (b : Bytes) : State :=
  let c := custodyOf (fieldAt b 0 1)
  let old := (s.plat p).state
  let held := c = .held || c = .recovering || c = .quarantined || c = .retired
  let wasHeld := old = .held || old = .recovering || old = .quarantined || old = .retired
  let s := if held && !wasHeld then s.holdActs p c 0 else s
  let covered := (s.bootSet p).all (fun x => (s.latch (16 * p + x.entry)).latched)
  let begins := decide (c = .filling) && decide (old ≠ .filling) || (fieldAt b 4 1 = 1 && (s.plat p).fill.isNone && !covered)
  let owed := begins || ((c = .released || c = .running) && !covered && (s.plat p).fill.isNone)
  s.modPlat p (fun t => { t with
    state := c
    phase := phaseOf (fieldAt b 1 1)
    hold := c ≠ .released && c ≠ .running
    excluded := fieldAt b 2 2
    fill := if decide (c = .filling) && decide (old ≠ .filling) then none else t.fill
    fillOwed := owed })

/-- STATE (R520, R534): the platforms it names, each with its bytes; the follower's registers change at the boundary (R33, R270). -/
def execStateMsg (records : List (Nat × Bytes)) (s : State) : Host.Outcome State Fault Refusal :=
  if s.follows && s.pat.isSome then
    .next (records.foldl (fun s r => if (s.platRec? r.1).isSome then s.later (.follow r.1 r.2) else s) s)
  else .next s

/-- The partner's commit ends the activation that this unit has verified beside it (R520). -/
def State.followsFlag (s : State) (p : Nat) : State :=
  match (s.plat p).act with
  | some a => (s.modPlat p (fun t => { t with act := none })).abortOp 4 (actIdent (16 * p + a.headers.headD 0))
  | none => s
/-- MIRROR (R527): the partner writes its own MRAM, a counter never down, and acknowledges. -/
def execMirror (seq : Nat) (isFlag : Bool) (index value : Nat) (s : State) : Host.Outcome State Fault Refusal :=
  if !s.follows || (if isFlag then 64 ≤ index else 1024 ≤ index) then .next s
  else
    let s := if isFlag then (s.setWord (flagAddr index) value).followsFlag index else s.raise (counterAddr index) value
    .next ((s.modPair (fun q => { q with mirrorSeq := seq % 2 ^ 24 })).toPartner 0x04 (natBE 3 seq))

/-- MIRROR_ACK (R527): the acknowledged flag is written to this unit's own MRAM, and its step goes on. -/
def execMirrorAck (seq : Nat) (s : State) : Host.Outcome State Fault Refusal :=
  if !s.partnerHere || s.pair.role ≠ .active then .next s
  else match s.pair.mirrors.find? (fun m => m.seq = seq) with
    | none => .next s
    | some m =>
      let s := s.modPair (fun q => { q with mirrors := q.mirrors.filter (fun x => x.seq ≠ seq) })
      match m.item with
      | .flag p w => .next (s.flagWritten p w (fun s w' => s.writeFlag p w'))
      | .counter _ _ => .next s

/-- The payload of a MIRROR. -/
def MirrorMsg.body (m : MirrorMsg) : Bytes :=
  match m.item with
  | .flag p w => natBE 1 0 ++ natBE 2 p ++ natBE 4 w ++ natBE 3 m.seq
  | .counter k v => natBE 1 1 ++ natBE 2 k ++ natBE 4 v ++ natBE 3 m.seq
/-- MIRROR_REPEAT (R528): every unacknowledged MIRROR whose latest sending is 10 stitches old leaves again. -/
def execMirrorRepeat (s : State) : Host.Outcome State Fault Refusal :=
  if !s.partnerHere || s.pair.role ≠ .active then .next s
  else
    let due := fun m : MirrorMsg => decide (m.last + 10 ≤ s.now)
    let s' := (s.pair.mirrors.filter due).foldl (fun s m => s.toPartner 0x03 m.body) s
    .next (s'.modPair (fun q => { q with
      mirrors := q.mirrors.map (fun m : MirrorMsg => if due m then { m with last := s.now } else m) }))
/-- MIRROR_TIMEOUT (R528): 100 stitches after the first sending; the step that needed the write ends and the flag stays. -/
def execMirrorTimeout (s : State) : Host.Outcome State Fault Refusal :=
  if !s.live || s.pair.role ≠ .active then .next s
  else
    let due := s.pair.mirrors.filter (fun m => m.first + 100 ≤ s.now)
    let s := s.modPair (fun q => { q with mirrors := q.mirrors.filter (fun m => s.now < m.first + 100) })
    .next (due.foldl (fun s m =>
      let s := s.pairRecord .device Code.mirrorTimeout
      match m.item with
      | .flag p _ => s.activationEnds p Code.mirrorTimeout
      | .counter _ _ => s) s)

/-- SNAPSHOT (R530): every flag as sent, every counter raised where the sent value is higher. -/
def execSnapshot (flags counters : List Nat) (seq : Nat) (s : State) : Host.Outcome State Fault Refusal :=
  if !s.follows || flags.length ≠ 64 || counters.length ≠ 1024 then .next s
  else
    let s := flags.zipIdx.foldl (fun s x => s.setWord (flagAddr x.2) x.1) s
    let s := counters.zipIdx.foldl (fun s x => s.raise (counterAddr x.2) x.1) s
    .next (s.modPair (fun q => { q with mirrorSeq := seq % 2 ^ 24, snapshotDone := true }))

/-- Two digests of one read compared (R521): `own` this unit's, `his` the partner's. The entry of a page that an activation judges is that
of its own table (R293 step 4), and such a page joins no rejoin list. -/
def State.resolveCheck (s : State) (l j : Nat) (own his : Digest) : State :=
  match s.lastEntry? l with
  | none => s
  | some x =>
    let m := (s.lastSegment x).solePage.getD 0 + j
    let staged := (s.plat (l / 16)).act.bind (fun a => if a.pages.head? = some (l % 16) then
        (a.tables.find? (fun t => t.1 = l % 16)).map (fun t =>
          (s.stagedEntry a.key (l / 16) (x.pd / 2) (s.tablePlace (l / 16) x) j).getD (tableEntry t.2.2 j))
      else none)
    let entry := match staged with | some d => some d | none => s.pageDigest m
    let mine := decide (some own = entry)
    let theirs := decide (some his = entry)
    if own = his || (!mine && !theirs) then s
    else
      let s := s.modPair (fun q => { q with pageMismatch := satInc 0xFFFF q.pageMismatch })
      if mine then s
      else
        let s := s.countFault 2 (x.pd / 2) Code.shadowMismatch
        if s.pair.role = .active || staged.isSome then s
        else
          let cur := match s.fillOf l with
            | some f => f.cur = some (l % 16) && f.pages.head? = some j
            | none => false
          (if cur then s.nextPage l else s).wantRejoin [m]

/-- PAGE_CHECK (R521): the digests of the same read compared, now or once this unit has read the page as well. -/
def execPageCheck (last page readNo : Nat) (digest : Digest) (s : State) : Host.Outcome State Fault Refusal :=
  if !s.partnerHere then .next s
  else
    let same := fun y : Nat × Nat × Nat × Digest => decide (y.1 = last) && decide (y.2.1 = page) && decide (y.2.2.1 = readNo)
    match s.pair.ownReads.find? same with
    | some y =>
      .next ((s.modPair (fun q => { q with ownReads := q.ownReads.filter (fun z => !same z) })).resolveCheck last page y.2.2.2 digest)
    | none =>
      .next (s.modPair (fun q =>
        let l := q.theirReads.filter (fun z => !same z) ++ [(last, page, readNo, digest)]
        { q with theirReads := l.drop (l.length - 256) }))
/-- The partner's digests that waited for this unit's own reads (R521). -/
def State.checkReads (s : State) : State :=
  s.pair.theirReads.foldl (fun s t =>
    let same := fun y : Nat × Nat × Nat × Digest => decide (y.1 = t.1) && decide (y.2.1 = t.2.1) && decide (y.2.2.1 = t.2.2.1)
    match s.pair.ownReads.find? same with
    | some y =>
      let s := s.modPair (fun q => { q with
        ownReads := q.ownReads.filter (fun z => !same z), theirReads := q.theirReads.filter (fun z => !same z) })
      s.resolveCheck t.1 t.2.1 y.2.2.2 t.2.2.2
    | none => s) s

/-- ANSWER_CHECK (R524): each unit reopens its own copy of the page. A copy that fails is a failure of the page under R212; when
both pass, the mismatch is counted, in a standby as a shadow fault of its welt (log entry 39). -/
def execAnswerCheck (welt : Fin 64) (addr : BitVec 32) (_stitch : Nat) (ownCopyBad partnerCopyBad : Bool) (s : State) :
    Host.Outcome State Fault Refusal :=
  if !s.live || !s.paired then .next s
  else
    let page := addr.toNat / 4096
    match [2 * welt.val, 2 * welt.val + 1].findSome? (fun k => s.mirrorOf k page) with
    | none => .next s
    | some m =>
      if s.pageState m ≠ .valid then .next s
      else if ownCopyBad || (s.pagePlain m).isNone || (s.pagePlain m).map sm3 ≠ s.pageDigest m then .next (s.soleFailure m)
      else if partnerCopyBad then .next s
      else
        let s := s.modPair (fun q => { q with answerMismatch := satInc 0xFFFF q.answerMismatch })
        .next (if s.pair.role = .active then s else s.countFault 2 welt.val Code.answerMismatch)

/-- REJOIN (R523): the pages the active unit is to read for its partner. -/
def execRejoin (pages : List Nat) (s : State) : Host.Outcome State Fault Refusal :=
  if s.partnerHere && s.pair.role = .active && pages.length ≤ 256 then
    .next (s.modPair (fun q => { q with rejoinAsked := (q.rejoinAsked ++ pages).eraseDups }))
  else .next s

/-- DRILL (R513): a claim within 10 stitches of it starts at once. -/
def execDrill (_stitch : Nat) (s : State) : Host.Outcome State Fault Refusal :=
  if s.follows then .next (s.modPair (fun q => { q with drill := some s.now })) else .next s

/-- KEY_XFER (R352, R362, R531): a key with EXPORT 1 installed in the same slot, under this unit's own root; a failure is
recorded. -/
def execKeyXfer (payload : Bytes) (s : State) : Host.Outcome State Fault Refusal :=
  let slot := fieldAt payload 0 2
  let type := fieldAt payload 2 1
  let usage := fieldAt payload 3 1
  if !s.live || !s.paired || s.pair.role = .active || !s.portRuns 0 then .next s
  else
    let fails := fun code => Host.Outcome.next (s.event 0x09 (.slot slot) code
      (natBE 1 s.pair.role.code ++ natBE 1 s.pair.partner.role))
    match s.keysClosed with
    | some c => fails c
    | none =>
      if s.keyOpRuns then fails Code.busy
      else if slot < 16 || 1279 < slot then fails Code.keySlotReserved
      else if !keyPairs usage type then fails Code.keyFormBad
      else if s.genExhausted slot then fails Code.keyGenExhausted
      else match sm4Open (s.port 0).key (fieldAt payload 4 12) (payload.take 4) (payload.drop 16) with
        | none => fails Code.keyUnwrapFailed
        | some m =>
          if m.length ≠ 32 || !materialOk type m then fails Code.keyFormBad
          else .next (s.commitKey slot { material := BitVec.ofNat 256 (beNat m), type := type, usage := usage, exp := true,
                                         parent := 0xFFFF, parentGen := s.keys.code })

/-! ### Swap drills and SOLO (R539) -/

/-- The body of PAIR_CTL's response: ROLE (R574). -/
def State.roleBody (s : State) : Bytes := natBE 4 s.pair.role.code
/-- SWAP (R539): the heel's SHANK request carries it out. -/
def execSwap (ch : Nat) (s : State) : Host.Outcome State Fault Refusal :=
  s.serve ch 0x0090 (fun b => fieldAt b 0 4 = 0) (fun s o _ =>
    if s.pair.role ≠ .active then s.answer o Code.phaseRefused
    else if !s.swapReady || s.pair.swap.isSome then s.answer o Code.pairNotReady
    else (s.modPair (fun q => { q with swap := some (o, 0) })).post 0x12 2 (natBE 1 0))
/-- SWAP_RESULT (R539): a heartbeat that shows the partner ACTIVE within 100 stitches of the release, or the swap has failed. -/
def execSwapResult (s : State) : Host.Outcome State Fault Refusal :=
  match s.pair.swap with
  | some (o, rel) =>
    let p := s.pair.partner
    let done := fun s : State => s.modPair (fun q => { q with swap := none })
    if !s.live || rel = 0 || s.now < rel then .next s
    else if p.ever && p.role = 3 && rel ≤ p.heard && p.heard ≤ rel + 100 then .next ((done s).answer o Code.ok s.roleBody)
    else if rel + 100 < s.now || s.pair.role = .active then .next ((done s).answer o Code.swapFailed)
    else .next s
  | none => .next s
/-- SOLO (R539): set while the partner is lost. -/
def execSolo (ch : Nat) (s : State) : Host.Outcome State Fault Refusal :=
  s.serve ch 0x0090 (fun b => fieldAt b 0 4 = 1) (fun s o _ =>
    if s.pair.role ≠ .active || !s.pair.partnerLost then s.answer o Code.phaseRefused
    else (s.modPair (fun q => { q with solo := true })).answer o Code.ok s.roleBody)
/-- SOLO_CLEAR (R539). -/
def execSoloClear (ch : Nat) (s : State) : Host.Outcome State Fault Refusal :=
  s.serve ch 0x0090 (fun b => fieldAt b 0 4 = 2) (fun s o _ =>
    if s.pair.role ≠ .active || !s.pair.solo then s.answer o Code.phaseRefused
    else (s.modPair (fun q => { q with solo := false })).answer o Code.ok s.roleBody)

/-- A line that the active unit drives low reads high for the third stitch in a row (R506, R622). -/
def State.readbackFault (s : State) (aHigh bHigh : Bool) : State :=
  if s.live && s.pair.role = .active &&
      ((s.pair.driveA && aHigh && 2 ≤ s.pair.readA) || (s.pair.driveB && bHigh && 2 ≤ s.pair.readB)) then
    (s.modPair (fun q => { q with aHigh := aHigh, bHigh := bHigh })).fatalNow 2
  else s
/-- SHANK_READBACK_FAULT (R506, R622). -/
def execShankReadbackFault (aHigh bHigh : Bool) (s : State) : Host.Outcome State Fault Refusal := .next (s.readbackFault aHigh bHigh)
/-- What the lines of the ending stitch bring that no command of the stitch has brought (R506 to R508, R513, R514). -/
def State.shankEnd (s : State) (a b : Bool) : State :=
  let s := (((s.readbackFault a b).disagree a b).releaseSeen a b).claimStart a b
  ((s.claimSecond (if s.evenUnit then b else a)).claimRead (!a && !b)).claimStep

/-! ### The laced domain (R540 to R542) -/

/-- The payload of DOMAIN_STATE: role, DEBUG, lead seen (R534). -/
def domainBytes (role : Nat) (debug : Bool) (lead : Nat) : Bytes := natBE 1 role ++ natBE 1 (b2n debug) ++ natBE 1 lead
/-- What this unit's DOMAIN_STATE says now. -/
def State.domainNow (s : State) : Nat × Bool × Nat := (s.pair.role.code, s.debugOn, s.pair.lead.getD 0xFF)

/-- DOMAIN_STATE_SEND (R534, R540): every 100 stitches and at each change, both ways round the ring. -/
def execDomainStateSend (s : State) : Host.Outcome State Fault Refusal :=
  let now := s.domainNow
  let due := match s.pair.domainSent with
    | some (t, r) => decide (t + 100 ≤ s.now) || decide (r ≠ now)
    | none => true
  if s.live && s.paired && due then
    .next ((s.toRing 0x10 0xFF (domainBytes now.1 now.2.1 now.2.2)).modPair (fun q => { q with domainSent := some (s.now, now) }))
  else .next s

/-- DOMAIN_STATE (R540 to R542): forwarded round the ring, and taken as its sender's latest. -/
def execDomainState (r : RingHdr) (role : Nat) (debug : Bool) (lead : Nat) (s : State) : Host.Outcome State Fault Refusal :=
  match s.ringIn r 0x10 (domainBytes role debug lead) with
  | none => .next s
  | some s => .next (s.modMember r.src.val (fun m => { m with
      ever := true, heard := s.now, silent := false, active := role = 3, debug := debug, lead := lead }))

/-- DOMAIN_MEMBER_SILENT (R541): 500 stitches without a word; the member counts as not ACTIVE from the next boundary. -/
def execDomainMemberSilent (unit : Fin 8) (s : State) : Host.Outcome State Fault Refusal :=
  let m := s.member unit.val
  if s.live && s.paired && m.ever && !m.silent && m.heard + 500 ≤ s.now then .next (s.later (.silent unit.val)) else .next s
/-- The boundary at which it does. -/
def State.silentNow (s : State) (u : Nat) : State :=
  if (s.member u).heard + 500 < s.now then s.modMember u (fun m => { m with silent := true, active := false }) else s

/-- The lead at a boundary: the lowest UNIT_ID that shows ACTIVE (R541). -/
def State.leadNow (s : State) : Option Nat :=
  (List.range s.domainUnits).find? (fun u => if u = s.pair.unitId then s.pair.role = .active else (s.member u).active)
/-- Some member of the domain has debug enabled (R371, R542). -/
def State.domainDebug (s : State) : Bool := s.debugOn || s.pair.members.any (fun e => e.2.debug)
/-- The lead, and the domain root with slot 4 and the port keys that hang on it, as a boundary finds them (R371, R533,
R541). -/
def State.domainStep (s : State) : State :=
  if !s.paired then s
  else
    let s := s.modPair (fun q => { q with lead := s.leadNow })
    if s.domainDebug = s.keys.domainTest || s.env.cleared || s.keys.root.isNone then s
    else
      let s := { s with keys := { s.keys with domainTest := s.domainDebug } }
      let dc := s.domainCodeNow
      let s := { s with keys := { s.keys with
        domainCode := dc, slot4 := (s.rootOf dc).map (fun x => s.deriveSlot x labelDomain) } }
      [0, 1, 2, 3].foldl (fun s k =>
        let s := s.modPort k (fun q => { q with keyed := false, key := 0 })
        if (s.port k).trained then s.sendPortKey k else s) s

end Sys2Proof.Machine
end

