-- ==== Sys2Proof/Machine/Reset.lean ====
section
/-!
DEFINITION. Management reset (R37 to R39, R45), the tamper response (R608 to R618), fatal faults (R622), freeze and debug
access (R636 to R650), quiescent modes and power (R490 to R494, R657 to R663).
-/
namespace Sys2Proof.Machine
open Sys2Proof

/-! ### Management reset -/

/-- The key operations that run. -/
def State.keyOps (s : State) : Nat := (s.vamp.jobs.filter (fun j => match j.2.2 with | .key _ => true | _ => false)).length
/-- Everything asked of the unit is abandoned without a response (R76, R339, R368, R396, R432, R571): sessions, commands,
statements, digest contexts, point-engine operations and key operations; a fuse command ends after its current pulse. -/
def State.dropRequests (s : State) : State :=
  let s := (List.range s.keyOps).foldl (fun s _ => s.keyAborted) s.commitDropped
  let s := s.endSessions.abandonCmds.abortAllOps.fuseAbort
  { s with
    att := { s.att with sts := [], domains := [], hashes := [] }
    dgst := { s.dgst with ctxs := [] }
    stitch := { s.stitch with ledgerEnd := [0, 0, 0, 0] }
    vamp := { s.vamp with ledgerEnd := [0, 0, 0, 0] }
    heel := { s.heel with
      ring := tmapAll {} s.heel.ring (fun _ e => { e with origin := none })
      waiting := s.heel.waiting.filter (fun e => e.origin.isNone) }
    pair := { s.pair with swap := none }
    plats := tmapAll {} s.plats (fun _ t => { t with refills := [] })
    deferred := s.deferred.filter (fun d => match d with | .respond _ _ _ => false | _ => true) }

/-- A lease of the update queue over a management reset (R38, R453, R469): data resume at the next byte not yet written, nothing is
being closed. -/
def TargetLease.onReset (l : TargetLease) : TargetLease :=
  { l with
    next := l.next - l.buf.length
    buf := [], opening := none, closing := none, step := .staging }

/-- A page or a table of the platform's fill is in progress: read in part, or read again (R38, R262). -/
def State.fillInProgress (s : State) (p : Nat) : Bool :=
  match (s.plat p).fill with
  | none => false
  | some f => f.finishing || (!f.stopped && (match f.cur.bind (fun e => s.lastEntry? (16 * p + e)) with
    | some x =>
      let y := (s.latch (16 * p + x.entry)).stage
      f.reads ≠ [] || ((y = .table || (y ≠ .signature && f.pages ≠ [])) && (s.welt (x.pd / 2)).credit ≠ 0)
    | none => false))
/-- A platform over a management reset (R38, R307): its fill stops once what it has `inProgress` is judged, its cobbler job goes
back to reading its page, its activation is abandoned. -/
def PlatSt.onReset (t : PlatSt) (inProgress : Bool) : PlatSt :=
  { t with
    fill := t.fill.map (fun f => { f with stopped := true, finishing := inProgress })
    cob := t.cob.map (fun c => { c with step := .read, data := [], reads := [], programs := 0, retried := false, credit := 0 })
    lease := t.lease.map (fun l => { l with verifying := false })
    act := none }

/-- Management reset (R37, R38, R45, R451): MC0 to MC3 restart at the warm entry; the loading banks are discarded unless their
switch is already with the heel. -/
def State.mgmtResetNow (s : State) (cause : Nat) : State :=
  let s := s.dropRequests
  let s := if s.heel.switchAsked.isSome then s
    else { s with
      patNext := none, patLoad := {}
      click := { s.click with dirL := [], mapL := [], winL := [] }
      stitch := { s.stitch with loading := {} } }
  let s := if cause = 1 then { s with heel := { s.heel with armed := some s.heel.expiredAt } } else s
  let noFlag := fun m : MirrorMsg => match m.item with | .flag _ _ => false | .counter _ _ => true
  { s with
    plats := tmapAll {} s.plats (fun p t => t.onReset (s.fillInProgress p))
    pair := { s.pair with mirrors := s.pair.mirrors.filter noFlag }
    boot := { s.boot with
      stage := if s.boot.stage = .running then .warm else s.boot.stage
      fw := s.boot.fw.map TargetLease.onReset
      pat := s.boot.pat.map TargetLease.onReset
      certs := s.boot.certs.map TargetLease.onReset }
    sys := { s.sys with
      mgmtUp := false, lastCause := cause, mgmtResets := satInc 255 s.sys.mgmtResets
      resetOwed := some s.now } }

/-- MANAGEMENT_RESET (R37, R49): a fatal core fault; the other causes come through the heel. -/
def execManagementReset (s : State) : Host.Outcome State Fault Refusal :=
  if s.live && s.boot.stage = .running then .next (s.later (.mgmtReset 3)) else .next s

/-! ### What every zeroisation names (R194, R198, R227, R228, R373, R614) -/

/-- Every mirror page EMPTY, every latch record cleared, no refill left (R227, R228, R258). -/
def State.soleEmpty (s : State) : State :=
  { s with
    latches := []
    welts := tmapAll {} s.welts (fun _ w => { w with buf := [], dsec := none })
    sole := { s.sole with
      pages := tmapAll {} s.sole.pages (fun _ d => { d with state := .empty })
      chans := tmapAll {} s.sole.chans (fun _ c => { c with queue := [], running := none }) } }
/-- Epoch keys, live or wrapped, tread cache and staging keys: what was sealed under them is lost (R198, R227). -/
def State.zeroSole (s : State) : State :=
  { s with
    sole := { s.sole with epochKey := [], wrapped := [], tread := [] }
    plats := tmapAll {} s.plats (fun _ t => { t with
      writeback := none, recovery := none
      lease := t.lease.map (fun l => { l with key := 0, received := [], verifying := false }) }) }
/-- The volatile material of CLEAR. -/
def State.zeroSecrets (s : State) : State :=
  let s := s.zeroVolatile.zeroSlots.zeroSole
  { s with keys := { s.keys with kept := [] } }
/-- Every Pn_HOLD_N of the unit held, the presented devices and tread partitions as a hold leaves them (R106, R116, R210). -/
def State.holdLines (s : State) : State :=
  (List.range 64).foldl (fun s p =>
    (s.modPlat p (fun t => { t with hold := true, releaseDue := false })).resetWelts (s.platRec p).welts) s
/-- The same at a boundary, the phase changing with it (R270, R622, R638). -/
def State.holdAll (s : State) : State :=
  (List.range 64).foldl (fun s p => s.modPlat p (fun t => { t with phase := .held })) s.holdLines

/-! ### The tamper response -/

/-- Glitch detectors of group A, always armed; those gated by PWR_SOLE_EN; those with no rail (R658). -/
def detectorArmed (p : PowerSt) (d : Nat) : Bool :=
  if d = 2 || d = 12 then true
  else if d = 14 || d = 15 || 24 ≤ d then false
  else p.mainpg && (if d = 8 || d = 9 || d = 10 then p.soleEn else p.mainEn)
/-- The sensor can trip (R608, R658). -/
def State.sensorArmed (s : State) (i : Nat) : Bool := i < 32 || detectorArmed s.pwr (i - 32)

/-- SENSOR_TRIP (R608, R611, R614, R618): the trip is latched with the level in force; its response comes at the boundary. In a
quiescent mode the kept keys go at once; the wake carries out the rest. -/
def execSensorTrip (sensor : Fin 64) (code : Nat) (s : State) : Host.Outcome State Fault Refusal :=
  let i := sensor.val
  if 29 < i && i < 32 || !s.sensorArmed i then .next s
  else
    let s := { s with env := { s.env with
      trips := s.env.trips ||| (1 <<< i), due := s.env.due ++ [(i, code, s.levelDone.code)]
      refclkFallback := s.env.refclkFallback || decide (i = 28) } }
    .next (if s.heel.mode = .on then s else s.zeroSecrets)

/-- One platform at CLEAR (R614, R616): `drove` when the unit drove its welts until this boundary. A write-back under way, or one
whose flag is written, ends its lease (R307). -/
def State.clearPlat (s : State) (drove unpaired : Bool) (p : Nat) : State :=
  let t := s.plat p
  let ends := t.cob.any (·.writeback) || t.act.any (fun a => a.writeback && a.committed)
  let s := s.modPlat p (fun t => { t with
    fill := none, cob := none, act := none, cobQueue := [], fillOwed := false, lease := if ends then none else t.lease })
  if drove && (t.state = .filling || t.state = .verified || t.state = .recovering) then s.holdNow p .held 15
  else if unpaired && (t.state = .released || t.state = .running) && !s.heel.runBlind.testBit p then s.holdNow p .held 15
  else s
/-- CLEAR (R614 to R616, R618). -/
def State.clearNow (s : State) : State :=
  let drove := s.drives
  let unpaired := !s.paired
  let s := s.dropRequests.zeroSecrets.soleEmpty
  let s := { s with env := { s.env with cleared := true } }
  let s := s.platNums.foldl (fun s p => s.clearPlat drove unpaired p) s
  if unpaired then s else s.releaseShank true

/-- The code of a TAMPER record (R631). -/
def State.tamperCode (s : State) (level : Nat) : Nat :=
  if level = 0 then Code.tamperLogged else if level = 1 then Code.tamperClear
  else if 2400 ≤ s.fuse.vfprog && s.fuse.vfprog ≤ 2600 then Code.tamperScuttled else Code.scuttlePending
/-- The boundary after trips (R614, R617, R618, R640): a record for each, and one response at the highest level not yet carried
out. Before the root is unwrapped the ROM stops instead. -/
def State.tamperStep (s : State) : State :=
  let due := s.env.due
  if due = [] || !s.live then s
  else
    let top : Nat := due.foldl (fun m d => max m d.2.2) 0
    let done : Nat := match s.env.levelDone with | some l => l.code | none => 0
    let (n, s) := s.incident
    let s := { s with env := { s.env with due := [], levelDone := some (Level.ofCode (max top done)) } }
    let s := due.foldl (fun s d => s.event 0x01 (.sensor d.1) (s.tamperCode d.2.2)
      (natBE 2 d.2.1 ++ natBE 1 d.2.2 ++ natBE 1 s.lifecycle) n) s
    let early := !s.boot.rootDone &&
      (s.boot.stage = .stopped || s.boot.stage = .rom || s.boot.stage = .copying || s.boot.stage = .chosen)
    let s := if early then ({ s with boot := { s.boot with stage := .stopped } } : State).chainAll
      else if 1 ≤ top && done = 0 then s.clearNow else s
    if top = 3 && done < 3 then s.setWord tamperWordAddr 1 else s

/-- ENV_EXCURSION (R610): the hottest sensor leaves −40 °C to 105 °C, or comes back. -/
def execEnvExcursion (sensor : Fin 4) (code : Nat) (s : State) : Host.Outcome State Fault Refusal :=
  let out := decide (2704 < code) || decide (code < 384)
  if !s.live || out = s.env.hotOut then .next s
  else .next (({ s with env := { s.env with hotOut := out } } : State).event 0x02 (.sensor (24 + sensor.val)) Code.envExcursion
    (natBE 2 code ++ natBE 1 (24 + sensor.val)))

/-- SCUTTLE_FUSE_BLOW (R431, R617): LC_SCUTTLED and then lock word 0 are blown while VFPROG is in range; SCUTTLE_PENDING goes
once LC_SCUTTLED reads blown at LOOSE, and a start that waited for it goes on. The operands are what the words read
after the pulses. -/
def execScuttleFuseBlow (tight loose lockTight lockLoose : Nat) (s : State) : Host.Outcome State Fault Refusal :=
  if !s.live || !s.scuttlePending || s.fuse.vfprog < 2400 || 2600 < s.fuse.vfprog || s.fuse.job.isSome then .next s
  else
    let s := ((s.blowBits 3 0xFFFFFFFF tight loose).modFuse (fun f => { f with progWord := 3 })).reportIf 3 0xFFFFFFFF
    if s.freshLoose 3 = 0 then .next s
    else
      let s := (s.blowLock0 lockTight lockLoose).setWord tamperWordAddr 0
      let s : State := { s with env := { s.env with scuttled := true } }
      .next (if s.boot.stage = .rom then s.romChoice s.boot.woke else s)

/-! ### Fatal faults (R622) -/

/-- FATAL_FAULT (R622, R635): cause 1 is R84, 2 is R506, 3 heel SRAM, 4 an MRAM read-back, 5 a welt retirement. -/
def execFatalFault (cause : Nat) (s : State) : Host.Outcome State Fault Refusal :=
  if s.live && 1 ≤ cause && cause ≤ 5 then .next (s.fatalNow cause) else .next s
/-- The first boundary after a fatal fault: the FAULT record, chained into MRAM at once, and the release or the holds. -/
def State.fatalFirst (s : State) (cause : Nat) : State :=
  let s := (s.eventInc 0x03 .device Code.fatalFault).chainAll
  let s := if s.paired then s.releaseShank true else s.holdAll
  { s with env := { s.env with fatal := some (cause, 2) } }

/-! ### Freeze (R636 to R645) -/

/-- A freeze request is honoured (R419, R637). -/
def State.freezeHonoured (s : State) : Bool :=
  let asProduction := s.feature 1 && s.heel.freezePermit
  match s.lifecycle with
  | 1 => !s.featureShadowed || asProduction
  | 2 => asProduction
  | _ => true
/-- A request judged: honoured, or ignored and counted. -/
def State.judgeFreeze (s : State) : State :=
  if s.freezeHonoured then { s with frz := { s.frz with asked := false, entering := some s.now } }
  else { s with frz := { s.frz with asked := false, ignored := satInc 255 s.frz.ignored } }
/-- FREEZE_REQUEST (R636, R637, R650): the second consecutive low sample. In a quiescent mode it waits for the wake. -/
def execFreezeRequest (s : State) : Host.Outcome State Fault Refusal :=
  if s.heel.mode ≠ .on then .next { s with frz := { s.frz with asked := true } }
  else if !s.live || s.frz.entering.isSome then .next s
  else .next s.judgeFreeze

/-- The chains' sizes (R642). -/
def chainBytes : Nat → Nat
  | 0 => 16384 | 1 => 32768 | 2 => 8192 | 3 => 4096 | 4 => 2048 | 5 => 4096 | 6 => 8192 | 7 => 4096 | _ => 0
/-- Bytes of a captured chain: what the flip-flops held is open (R638; log entry 2). -/
def State.chainRead (s : State) (c off n : Nat) : Bytes :=
  (List.range n).map (fun i => (Config.free (s.frz.base + 32768 * c + off + i)).setWidth 8)
/-- A chain is readable (R643). -/
def State.chainOk (s : State) (jtag : Bool) (c : Nat) : Bool :=
  let lc := s.lifecycle
  if 5 ≤ c then lc = 0 || lc = 1 || lc = 3
  else if !jtag then true
  else if lc = 2 || (lc = 1 && s.featureShadowed) then s.feature 2 else true

/-- The three boundaries of freeze entry (R638, R639, R644). -/
def State.freezeStep (s : State) : State :=
  match s.frz.entering with
  | none => s
  | some f =>
    if s.now = f + 1 then
      let s := if s.paired then s.releaseShank true else
        ({ s with pair := { s.pair with outputsOff := true } } : State).holdAll
      let s := s.dropRequests
      (s.setBytes freezeStitchAddr (natBE 8 f)).setWord freezesAddr (satInc 0xFFFF (s.word freezesAddr))
    else if s.now = f + 2 then
      let s := s.zeroSecrets
      let s := [0, 1, 2, 3].foldl (fun s k => s.modPort k (fun q => { q with key := 0, keyed := false })) s
      s.modHeel (fun h => { h with chal := 0 })
    else if f + 3 ≤ s.now then
      let s := s.dropTx.dropRx
      let s := s.modVamp (fun v => { v with trained := false, trainRx := false, trainAcked := false, up := false, lostAt := none })
      ({ s with frz := { s.frz with frozen := true, entering := none, base := s.fresh }, fresh := s.fresh + 8 * 32768 } :
        State).startTraining
    else s

/-- FREEZE_READ (R643, R644, R574). -/
def execFreezeRead (ch : Nat) (s : State) : Host.Outcome State Fault Refusal :=
  s.serve ch 0x00A0 (fun _ => true) (fun s o b =>
    let c := fieldAt b 0 4
    let off := fieldAt b 4 4
    let n := fieldAt b 8 4
    if !s.frz.frozen then s.answer o Code.freezeNotActive
    else if 7 < c || n = 0 || 2048 < n || chainBytes c < off + n then s.answer o Code.vampBodyBad
    else if !s.chainOk false c then s.answer o Code.freezeChainDenied
    else s.answer o Code.ok (s.chainRead c off n))

/-- IDCODE (R645): version, part number, manufacturer, 1. -/
def idcode : Nat := Config.dieStep.toNat % 16 * 2 ^ 28 + 0x7C51 * 2 ^ 12 + 0x1A5 * 2 + 1
/-- CORE_DEBUG reaches the core (R648). -/
def State.coreDebugOn (s : State) (core : Nat) : Bool := s.live && s.frz.coreDebug && core < 4
/-- JTAG_INSTRUCTION (R645, R648): the boundary register and core registers are open values; a chain read is honoured only in
freeze and under R643; halting, stepping and reading cores need CORE_DEBUG. -/
def execJtagInstruction (op : JtagOp) (s : State) : Host.Outcome State Fault Refusal :=
  match op with
  | .bypass => .next (s.emit (.jtag [0]))
  | .idcode => .next (s.emit (.jtag (natBE 4 idcode)))
  | .samplePreload => let (v, s) := s.draw; .next (s.emit (.jtag (natBE 32 v.toNat)))
  | .chainRead c off n =>
    if s.frz.frozen && c < 8 && off + n ≤ chainBytes c && s.chainOk true c then .next (s.emit (.jtag (s.chainRead c off n)))
    else .next s
  | .halt core =>
    if s.coreDebugOn core then .next { s with frz := { s.frz with halted := s.frz.halted ||| (1 <<< core) } } else .next s
  | .step core =>
    if s.coreDebugOn core && s.frz.halted.testBit core then let (_, s) := s.draw; .next s else .next s
  | .readRegister core _ =>
    if s.coreDebugOn core then let (v, s) := s.draw; .next (s.emit (.jtag (natBE 4 (v.toNat % 2 ^ 32)))) else .next s
  | .readSram core addr =>
    if s.coreDebugOn core && addr % 4 = 0 && 0x10000000 ≤ addr && addr < 0x10400000 then .next (s.emit (.jtag (s.bytes addr 4)))
    else .next s

/-! ### Quiescent modes (R490 to R493, R227, R373, R663) -/

/-- Quiescent entry at its boundary (R491): ring requests refused, sessions ended, cores stopped, secrets as the mode has it,
the main domain off. -/
def State.quiesceNow (s : State) (keep : Bool) (period : Nat) : State :=
  let posted := (List.range 64).filter (fun i => (i + 64 - s.heel.head) % 64 < (s.heel.tail + 64 - s.heel.head) % 64)
  let s := posted.foldl (fun s i => s.ringWrite i false Code.busy 0) s
  let s := s.dropRequests
  let s := s.modHeel (fun h => { h with
    head := h.tail, waiting := [], mode := if keep then .keep else .bare, wakeMode := b2n (!keep)
    entries := satInc 0xFFFF h.entries, wakePeriod := period, asleepAt := s.now })
  let s := (if keep then s.wrapKeys
    else
      let t := s.zeroVolatile.zeroSole.soleEmpty
      { t with sole := { t.sole with raw := [], epoch := [] } }).zeroSlots.treadClear
  let s := [0, 1, 2, 3].foldl (fun s k => s.modPort k (fun q => { retired := q.retired })) s
  let s := s.dropTx.dropRx
  { s with
    sys := { s.sys with mgmtUp := false }
    vamp := { s.vamp with trained := false, training := false, trainRx := false, trainAcked := false, up := false, locked := 0 }
    pair := { s.pair with partnerLost := true, claim := none, mirrors := [] }
    pwr := { s.pwr with mainEn := false, soleEn := keep, mainpg := false } }

/-- What wakes the Larir (R492, R500, R650, R657): 1 the end of the wake period, 2 a tamper event, 3 signal on the VAMP lanes, 4 a
change of a shank line on a standby, 0 a freeze request or the device reset input. -/
def State.mayWake (s : State) (cause : Nat) : Bool :=
  match cause with
  | 0 => s.frz.asked || s.pwr.rstAsked
  | 1 => s.heel.asleepAt + s.heel.wakePeriod ≤ s.now
  | 2 => s.env.due ≠ []
  | 3 => true
  | 4 => s.paired
  | _ => false
/-- Both enables rise, and the wake goes on when MAINPG has risen (R663). -/
def State.wakeStarts (s : State) (cause : Nat) : State :=
  { s with pwr := { s.pwr with mainEn := true, soleEn := true, waking := some (s.now, cause) } }
/-- WAKE (R492, R494, R663): a wake event in a quiescent mode, or between the acceptance of a quiescent entry and the entry, which
completes first. -/
def execWake (cause : Nat) (s : State) : Host.Outcome State Fault Refusal :=
  if s.heel.mode ≠ .on && s.pwr.waking.isNone && s.mayWake cause then .next (s.wakeStarts cause)
  else if s.heel.mode = .on && s.quiesceDue && cause ≠ 1 && s.mayWake cause then
    .next { s with pwr := { s.pwr with wakeAsked := some cause } }
  else .next s
/-- The boundary after a quiescent entry that met a wake event (R494). -/
def State.wakeDue (s : State) : State :=
  match s.pwr.wakeAsked with
  | some c => if s.heel.mode = .on then s else
      let s := { s with pwr := { s.pwr with wakeAsked := none } }
      if s.pwr.waking.isNone then s.wakeStarts c else s
  | none => s
/-- MAIN_POWER_TIMEOUT (R663): 20,000 stitches without MAINPG, both enables low again; the sole DRAM, unpowered, loses what
quiescent-keep had left in it (log entry 79). -/
def execMainPowerTimeout (s : State) : Host.Outcome State Fault Refusal :=
  match s.pwr.waking with
  | some (t, _) =>
    if t + 20000 ≤ s.now && !s.pwr.mainpg then
      .next { s with sole := { s.sole with raw := [] }, pwr := { s.pwr with
        mainEn := false, soleEn := false, waking := none
        wakeFails := satInc 255 s.pwr.wakeFails, wakeFailed := true } }
    else .next s
  | none => .next s

/-- A channel's counts since device reset, which a wake leaves as they are (R232, R233). -/
def ChanSt.counts (c : ChanSt) : ChanSt :=
  { fails := c.fails, refills := c.refills, passes := c.passes, corrected := c.corrected, lineErrors := c.lineErrors
    rescues := c.rescues }
/-- A channel over quiescent-keep (R227, R493): pages, refills and retirements stay, scrub begins again at address 0, and the
channel is up once it is retrained. -/
def ChanSt.over (c : ChanSt) : ChanSt :=
  { c with
    queue := (match c.running with | some f => [f.page] | none => []) ++ c.queue
    running := none, up := false, tested := false, kept := true, scrub := 0, aperUsed := false, failedNow := [] }
/-- The VAMP counts since device reset (R586). -/
def VampSt.counts (v : VampSt) : VampSt :=
  { losses := v.losses, crcDrops := v.crcDrops, otherDrops := v.otherDrops, replays := v.replays, naks := v.naks
    tagFails := v.tagFails, closedDrops := v.closedDrops, incident := v.incident }

/-- The counts that their registers run since cold power-on or device reset, and the heel's ring, over a start that is neither (R29,
R145, R232, R233, R586; log entry 79). -/
def State.keepCounts (s b : State) : State :=
  { b with
    heel := { b.heel with ring := s.heel.ring, head := s.heel.head, tail := s.heel.tail, full := s.heel.full }
    welts := tmapAll {} s.welts (fun _ w => { late := w.late, cross := w.cross, unmapped := w.unmapped, discarded := w.discarded })
    sole := { b.sole with chans := tmapAll {} s.sole.chans (fun _ c => c.counts) }
    dgst := { busyRefusals := s.dgst.busyRefusals, compareFaults := s.dgst.compareFaults, shorts := s.dgst.shorts
              fetched := s.dgst.fetched }
    point := { done := s.point.done, aborted := s.point.aborted }
    vamp := s.vamp.counts }

/-- What a wake starts from (R227, R373, R493): the survivors of a device reset, the heel's period and parameters, the counts
since the device start, the heel's ring (R29), and after quiescent-keep what that mode keeps. After quiescent-keep the pattern in
force stays in force. R175 names no wake: the clicker's allow and deny counters, its DEFAULT_DENY and its SUPPRESSED counts start again
at 0 over any wake, and the SUPPRESSED field of CLICK_EVT stays over quiescent-keep (DESIGN CHOICE, log entry 79). -/
def State.wakeBase (s : State) (cause : Nat) : State :=
  let b := s.keepCounts (s.survivors false)
  let b := { b with
    sys := { b.sys with lastCause := s.sys.lastCause, mgmtResets := s.sys.mgmtResets }
    env := { b.env with trips := s.env.trips, extreme := s.env.extreme, faults := s.env.faults,
                        refclkFallback := s.env.refclkFallback, hotOut := s.env.hotOut, scuttled := s.env.scuttled }
    heel := { b.heel with
      period := s.heel.nextPeriod.getD s.heel.period, startup := s.heel.startup, patLevel := s.heel.patLevel
      freezePermit := s.heel.freezePermit, runBlind := s.heel.runBlind, wakeCause := cause, wakeMode := s.heel.wakeMode }
    keys := { b.keys with volGen := s.keys.volGen, kept := s.keys.kept }
    pair := { b.pair with pageMismatch := s.pair.pageMismatch, answerMismatch := s.pair.answerMismatch,
                          shadowRetired := s.pair.shadowRetired, unfitRelease := s.pair.unfitRelease }
    frz := { b.frz with asked := s.frz.asked }
    pwr := { b.pwr with rstAsked := s.pwr.rstAsked }
    boot := { b.boot with deadline := s.boot.deadline, woke := true } }
  let b := [0, 1, 2, 3].foldl (fun b k => b.modPort k (fun q => { q with retired := (s.port k).retired })) b
  if s.heel.mode ≠ .keep then b
  else { b with
    pat := s.pat
    click := { s.click with switchPending := false, dirL := [], mapL := [], winL := [], allow := [], deny := [] }
    stitch := { b.stitch with active := s.stitch.active }
    latches := s.latches
    sole := { s.sole with chans := tmapAll {} s.sole.chans (fun _ c => c.over), hotRefresh := false, hotNext := b.sole.hotNext }
    plats := s.plats
    welts := tmapAll {} s.welts (fun _ w => { late := w.late, cross := w.cross, unmapped := w.unmapped, discarded := w.discarded
                                              retired := w.retired })
    eyes := tmapAll {} s.eyes (fun _ e => { idBad := e.idBad, retired := e.retired })
    att := { policy := s.att.policy }
    boot := { b.boot with patChosen := s.boot.patChosen, patSlot := s.boot.patSlot } }
/-- A trip in quiescent-keep has zeroised what the mode kept: on the wake every page is EMPTY, no latch record stands, and a
VERIFIED platform is HELD (R227, R258, R275, R618). -/
def State.wakeCleared (s : State) : State :=
  (s.platNums.filter (fun p => (s.plat p).state = .verified)).foldl (fun s p => s.holdNow p .held 15) s.soleEmpty
/-- A pattern that stays in force over a wake: the emulated registers of its presented devices are as after power-up (R106), and its
eyelets leave reset as after a switch (R135; log entry 79). -/
def State.wakeEyelets (s : State) : State :=
  match s.pat with
  | some t => t.eyelets.foldl (fun s e => if (s.weltPlat (e.1 / 8)).isSome then s.eyeletSwitch (some t) e.1 e.2 else s)
      (t.pds.foldl (fun s e => s.resetPd e.1) s)
  | none => s
/-- The wake's start (R493, R663). -/
def State.wakeNow (s : State) (cause : Nat) : State :=
  let failed := s.pwr.wakeFailed
  let tripped := s.heel.mode = .keep && s.env.due ≠ []
  let s := s.wakeBase cause
  let s := if failed then
      ({ s with pwr := { s.pwr with wakeFailed := false } } : State).bootRecord Code.mainPowerTimeout
    else s
  let s := (s.deviceStart true).wakeEyelets
  let s := if tripped then s.wakeCleared else s
  if s.pwr.rstAsked then ({ s with pwr := { s.pwr with rstAsked := false } } : State).later (.devRst false) else s

/-! ### Power and the device reset input (R657, R662) -/

/-- DEV_RST (R657): the second consecutive low sample. In a quiescent mode the Larir wakes first. -/
def execDevRst (s : State) : Host.Outcome State Fault Refusal :=
  if s.heel.mode ≠ .on then .next { s with pwr := { s.pwr with rstAsked := true } }
  else if s.pwr.mainDown || s.deferred.any (fun d => match d with | .devRst _ => true | _ => false) then .next s
  else .next (s.later (.devRst false))
/-- The first of its two boundaries. -/
def State.devRstNow (s : State) : State :=
  (if s.paired then s.releaseShank true else { s with pair := { s.pair with outputsOff := true } }).later (.devRst true)

/-- MAINPG_FALL (R662): with PWR_MAIN_EN high the unit acts at once and its main domain stays in reset; otherwise the level is
ignored (R663). -/
def execMainpgFall (s : State) : Host.Outcome State Fault Refusal :=
  if !s.pwr.mainpg then .next s
  else
    let s := { s with pwr := { s.pwr with mainpg := false } }
    if !s.pwr.mainEn || s.heel.mode ≠ .on then .next s
    else
      let s := if s.paired then s.releaseShank true else
        ({ s with pair := { s.pair with outputsOff := true } } : State).holdLines
      let s := s.zeroSecrets.soleEmpty
      .next { s with pwr := { s.pwr with mainDown := true }, dgst := { s.dgst with ctxs := [] } }
/-- The start after a loss of main power (R662), neither a cold power-on nor a device reset: the boot count stays (R387), and so do the
counts and the heel's ring (R29, R145; log entry 79). -/
def State.mainPowerStart (s : State) : State :=
  let n := satInc 255 s.pwr.mainLosses
  let s := s.dropRequests.fuseCut
  let s := s.keepCounts (s.survivors false)
  let s := ({ s with pwr := { s.pwr with mainLosses := n } } : State).bootRecord Code.mainPowerLost
  s.deviceStart
/-- MAINPG_RISE (R662, R663): a device start after a loss of main power, or the wake that waited for it. -/
def execMainpgRise (s : State) : Host.Outcome State Fault Refusal :=
  if s.pwr.mainpg then .next s
  else
    let s := { s with pwr := { s.pwr with mainpg := true } }
    if s.pwr.mainDown then .next s.mainPowerStart
    else match s.pwr.waking with
      | some (_, c) => .next (s.wakeNow c)
      | none => .next s

end Sys2Proof.Machine
end

