-- ==== Sys2Proof/Machine/Stitch.lean ====
section
/-!
DEFINITION. The stitch boundary (R33, R54, R56 to R72, R81 to R84): what the ending stitch granted has run, the counter
advances, and what waited for the boundary takes effect.
-/
namespace Sys2Proof.Machine
open Sys2Proof

/-! ### Overruns (R81 to R84, R90; the reading of each source: log entry 40) -/

/-- A source code of STITCH_OVR. -/
def ovrSource (k : Nat) : Bool := k < 8 || (16 ≤ k && k < 32) || (32 ≤ k && k < 36) || k = 0x28 || k = 0x29 ||
  (0x30 ≤ k && k < 0x34) || k = 0x38
/-- One overrun counted; the third within 1,000,000 stitches is a permanent timing fault, and that a fatal one (R84, R622). -/
def State.countOverrun (s : State) (k : Nat) : State :=
  let times := s.stitch.ovrTimes.filter (fun t => s.now < t + 1000000) ++ [s.now]
  let s := { s with stitch := { s.stitch with
    ovrCount := satInc 255 s.stitch.ovrCount, ovrSource := k, ovrAt := s.now % 2 ^ 32, ovrTimes := times } }
  if 3 ≤ times.length && !s.stitch.ovrPermanent then
    let s := { s with stitch := { s.stitch with ovrPermanent := true } }
    (s.eventInc 0x03 .device Code.timingFaultPermanent).fatalNow 1
  else s

/-- A cobbler job whose step overran: its source fails, or its write-back (R82, R300, R304). -/
def State.cobOverrun (s : State) (p : Nat) : State :=
  match (s.plat p).cob with
  | none => s
  | some j =>
    if j.writeback then s.writebackFails p Code.stitchOverrun
    else (s.sourceRecord (16 * p + j.entry) Code.stitchOverrun none (s.cobSource p j j.source)).cobSourceFails p

/-- An activation ended by an overrun: its request is answered with STITCH_OVERRUN (R82). -/
def State.actOverrun (s : State) (p l : Nat) : State := (s.verifyRecord l Code.stitchOverrun none).activationEnds p Code.stitchOverrun

/-- The operation a point engine was running a step of when it overran (R82, R262). -/
def State.engineOverrun (s : State) (e : Nat) : State :=
  match s.engineNext e with
  | none => s
  | some o =>
    let s := if o.owner = 4 && 4096 ≤ o.ident || o.owner = 3 then s else s.abortOp o.owner o.ident
    match o.owner with
    | 1 =>
      if (s.plat (o.ident / 16)).raising.any (fun r => r.1 = o.ident % 16) then
        s.sourceRecord o.ident Code.stitchOverrun none (s.raiseSource (o.ident / 16))
      else s.lastFails o.ident Code.stitchOverrun
    | 2 => s.cobOverrun o.ident
    | 3 => s.statementFails o.ident Code.stitchOverrun
    | _ => if 4096 ≤ o.ident then s.jobEnds (o.ident - 4096) Code.stitchOverrun
           else s.actOverrun ((o.ident - 1024) / 16) (o.ident - 1024)

/-- The last of a platform whose header its fill reads next, on welt `w` (R243). -/
def State.headerOn (s : State) (p w : Nat) : Option Nat :=
  (s.plat p).fill.bind (fun f => f.todo.head?.bind (fun e => (s.lastEntry? (16 * p + e)).bind (fun x =>
    if x.pd / 2 = w && f.expects e then some (16 * p + e) else none)))
/-- What the fill of a platform needs of welt `w`'s awl next: bytes of a header, a table, or a page (R66, R243, R249, R252). -/
def State.fillNeed (s : State) (p w : Nat) : Nat :=
  match (s.plat p).fill with
  | none => 0
  | some f =>
    let on := fun e => match s.lastEntry? (16 * p + e) with | some x => x.pd / 2 = w | none => false
    match f.cur with
    | none => if (s.headerOn p w).isSome then 384 else 0
    | some e =>
      let y := s.latch (16 * p + e)
      if !on e then 0
      else if y.stage = .table then if f.stopped && !f.finishing then 0 else 32 * hdrPages y.header
      else if f.pages ≠ [] && (!f.stopped || f.finishing) && (y.stage = .pages || f.again) && (s.welt w).buf.length < 2 then 4096
      else 0
/-- What the activation of a platform needs of it next (R293). -/
def State.actNeed (s : State) (p w : Nat) : Nat :=
  match (s.plat p).act with
  | none => 0
  | some a =>
    let on := fun e => match s.lastEntry? (16 * p + e) with | some x => x.pd / 2 = w | none => false
    match a.table, a.headers, a.pages with
    | some (e, h), _, _ => if on e && (s.opOf 4 (actIdent (16 * p + e))).isNone then 32 * hdrPages h else 0
    | none, e :: _, _ => if on e && a.expectsHeader e then 384 else 0
    | none, [], e :: _ => if on e && !a.ready then 4096 else 0
    | none, [], [] => 0
/-- What a partner's rejoin list needs of it (R523). -/
def State.rejoinNeed (s : State) (w : Nat) : Nat :=
  if s.pair.rejoinAsked.any (fun m => match s.refillSource m with | some (e, _) => e / 8 = w | none => false) then 4096 else 0
/-- An awl that overran: the table stream or header of a last ends with STITCH_OVERRUN, a page is judged again from a first
read, a refill is queued again (R82, R249, R262). -/
def State.awlOverrun (s : State) (k : Nat) : State :=
  let one := fun (s : State) (w : Nat) =>
    let s := match s.refillOf w with
      | some f => s.modChan (weltChannel w) (fun c => { c with running := none, queue := c.queue ++ [f.page] })
      | none => s
    let s := match s.weltPlat w with
      | none => s
      | some p =>
        let s := if s.fillNeed p w = 0 then s
          else match (s.plat p).fill with
            | some f => match f.cur with
              | some e =>
                if decide ((s.latch (16 * p + e)).stage = LatchStage.table) then
                  (s.modLatch (16 * p + e) (fun y => { y with tableRead := true })).lastFails (16 * p + e) Code.stitchOverrun
                else (s.verifyRecord (16 * p + e) Code.stitchOverrun f.pages.head?).modFill p (fun f => { f with reads := [] })
              | none => s.lastFails (16 * p + f.todo.headD 0) Code.stitchOverrun
            | none => s
        let s := if s.actNeed p w = 0 then s
          else match (s.plat p).act with
            | some a => match a.table with
              | some (e, _) => s.actOverrun p (16 * p + e)
              | none => s.actOverrun p (16 * p + (a.headers ++ a.pages).headD 0)
            | none => s
        match (s.plat p).cob with
        | some j =>
          let here : Bool := match s.lastEntry? (16 * p + j.entry) with | some x => decide (x.pd / 2 = w) | none => false
          if here && tget 0 s.cobTurn (weltQuarter w) = p + 1 && j.credit ≠ 0 then s.cobOverrun p else s
        | none => s
    s.modWelt w (fun x => { x with credit := 0 })
  ((List.range s.weltCount).filter (fun w => weltAwl w = k)).foldl one s

/-- What one overrun ends (R82, R90). -/
def State.overrunEnds (s : State) (k : Nat) : State :=
  if 16 ≤ k && k < 32 then s.awlOverrun (k - 16)
  else if 32 ≤ k && k < 36 then s.engineOverrun (k - 32)
  else if 0x30 ≤ k && k < 0x34 then
    (match tget 0 s.cobTurn (k - 0x30) with | 0 => s | p + 1 => s.cobOverrun p)
  else s

/-! ### What the ending stitch granted -/

/-- The welt's awl grant reaches its refill first, then the cobbler's job, then its fill, activation and rejoin reads; what nothing
asks for is lost (R65, R66). Awl 15 serves no welt until hand-over (R28). A last whose header is being read is at STAGE 1 (R266). -/
def State.awlStitch (s : State) : State :=
  match s.row? with
  | none => s
  | some r => (List.range s.weltCount).foldl (fun s w =>
      let g := if s.bootLoad && weltAwl w = 15 then 0 else 40 * rowAwl r w - (s.welt w).cobTook
      let used := match s.refillOf w with | some f => min g (4096 - f.credit) | none => 0
      let s := if used = 0 then s else s.modChan (weltChannel w) (fun c => { c with
        running := c.running.map (fun f => { f with credit := f.credit + used }) })
      let need := match s.weltPlat w with
        | some p => max (max (s.fillNeed p w) (s.actNeed p w)) (s.rejoinNeed w)
        | none => 0
      let s := if g = used then s
        else match (s.weltPlat w).bind (fun p => s.headerOn p w) with
          | some l => s.modLatch l (fun y => { y with stage := .header })
          | none => s
      if need = (s.welt w).credit then s else s.modWelt w (fun x => { x with credit := min need (x.credit + (g - used)) })) s

/-! ### Sensors and checks (R233, R357, R608, R634) -/

/-- One sample of a sensor; index 64 is VFPROG in mV (R434). -/
def State.takeSample (s : State) (i code : Nat) : State :=
  if i = 64 then { s with fuse := { s.fuse with vfprog := code % 4096 } }
  else if 64 < i then s
  else
    let lowest := i = 28 || 32 ≤ i
    let ext := match tfind s.env.extreme i with
      | none => code
      | some x => if lowest then min x code else max x code
    { s with env := { s.env with latest := tset 0 s.env.latest i code, extreme := tput s.env.extreme i ext } }

/-- What the SRAM checks of the stitch found: sectors whose ECC corrected a bit, by channel (R233), and volatile key records that
fail (R357). -/
def State.sramChecks (s : State) (f : StitchFacts) : State :=
  let s := f.corrected.foldl (fun s c => s.modChan c (fun h => { h with corrected := satInc 0xFFFF h.corrected })) s
  { s with keys := { s.keys with vol := tmapAll {} s.keys.vol (fun k r => if f.keyBad.contains k then { r with bad := true } else r) } }

/-- The heel request of each QUIESCE, once its response is acknowledged or 44 stitches after it was queued (R579). -/
def State.postQuiesce (s : State) : State :=
  if !s.fw then s
  else
    let due := fun q : Origin × Nat × Nat × Nat =>
      (s.vamp.trained && !s.vamp.tx.any (fun f => f.channel = q.1.ch && f.tag = some q.1.tag)) || decide (q.2.2.2 + 44 ≤ s.now)
    (s.vamp.quiesce.filter due).foldl (fun s q => s.post 0x13 2 (natBE 1 q.2.1 ++ fill 3 0 ++ natBE 4 q.2.2.1))
      (s.modVamp (fun v => { v with quiesce := v.quiesce.filter (fun q => !due q) }))

/-! ### Changes at the boundary (R33) -/

/-- An eyelet retired (R621). -/
def State.retireEyeletNow (s : State) (e : Nat) : State :=
  (s.modEye e (fun y => { y with retired := true })).event 0x04 (.eyelet e) Code.channelRetired
    (natBE 1 1 ++ natBE 1 ((s.weltPlat (e / 8)).getD 0xFF))
/-- A welt retired (R24, R621): unbound, and its platform held. -/
def State.retireWeltNow (s : State) (n : Nat) : State :=
  let p := s.weltPlat n
  let s := (s.modWelt n (fun w => { w with retired := true })).event 0x04 (.welt n) Code.channelRetired
    (natBE 1 2 ++ natBE 1 (p.getD 0xFF))
  let s := s.weltUnboundNow n
  match p with
  | some p =>
    let c := (s.plat p).state
    if c = .held || c = .quarantined || c = .retired then s else s.holdNow p .held 14
  | none => s

/-- The root switch (R370): what a signature or an agreement under the old root was running for ends with KEY_ORPHANED, the
slots are derived again, every session ends. -/
def State.rootSwitchAll (s : State) : State :=
  if s.env.cleared || s.frz.entering.isSome then s
  else
    let s := (s.att.sts.map (·.id) ++ s.att.domains.map (·.id)).foldl (fun s i => s.statementFails i Code.keyOrphaned) s
    let hellos := (s.vamp.jobs.filter (fun j => match j.2.2 with | .hello _ => true | _ => false)).map (·.1)
    let keyed := (s.vamp.jobs.filter (fun j => match j.2.2 with
      | .key op => decide (fieldAt op.blob 0 1 = 2)
      | .keyInfo slot _ => decide (slot = 0 ∨ slot = 1 ∨ slot = 4)
      | _ => false)).map (·.1)
    let s := hellos.foldl (fun s i => s.jobEnds i Code.keyOrphaned) s
    let s := s.rootSwitchNow.endSessions
    keyed.foldl (fun s i => s.jobEnds i Code.keyOrphaned) s

/-- The order in which the changes of one boundary are applied: what the stitch found of pages, retirements, custody, new epochs,
then the holds that override them, the table switch, the management reset, and the answers (R226, R279, R480; log entry
88). -/
def Deferred.rank : Deferred → Nat
  | .page _ _ => 0
  | .retireFrame _ | .retireEyelet _ | .retireWelt _ | .retirePort _ | .selfTest _ _ _ => 1
  | .epoch _ _ _ _ => 3
  | .hold _ _ _ => 4
  | .tableSwitch => 5
  | .mgmtReset _ => 6
  | .respond _ _ _ => 7
  | _ => 2
/-- The changes in that order, each rank as it was asked for. -/
def ranked (all : List Deferred) : List Deferred := (List.range 8).flatMap (fun r => all.filter (fun d => d.rank = r))

/-- A fill in a new epoch has begun: the REFILL commands that waited for it are answered (R309). -/
def State.refillsDone (s : State) (p : Nat) : State :=
  if (s.plat p).state ≠ .filling then s
  else (s.plat p).refills.foldl (fun s o =>
    s.answer o Code.ok (natBE 2 0 ++ natBE 1 (s.plat p).phase.code ++ natBE 1 (s.plat p).state.code))
    (s.modPlat p (fun t => { t with refills := [] }))

/-- A change that waited for the boundary, other than the starts of R29 and the entry of R491. `all` is everything that waited:
an assertion of a hold overrides a release due at the same boundary (R279). -/
def State.applyDeferred (all : List Deferred) (s : State) (d : Deferred) : State :=
  match d with
  | .page m st => if s.env.cleared then s else s.setPage m st
  | .selfTest c ok bad => s.selfTestNow c ok bad
  | .follow p b => s.followPlat p b
  | .epoch p n k c => (s.epochNow p n k c).refillsDone p
  | .hold p next c => if (s.plat p).state = .retired && next ≠ .retired then s else s.holdNow p next c
  | .release p =>
    if !s.drives || all.any (fun d => match d with | .hold q _ _ => q = p | _ => false) then
      s.modPlat p (fun t => { t with releaseDue := false })
    else s.releaseNow p
  | .phase p ph c => s.phaseNow p ph c
  | .custody p next c => if (s.plat p).state = .retired then s else s.setCustody p next (s.plat p).phase c
  | .slotMap p => if (s.plat p).hold || all.any (fun d => match d with | .hold q _ _ => q = p | _ => false) then s.modPlat p (fun t => { t with map := flagActive (s.flag p) }) else s
  | .exclude p e => (s.modPlat p (fun t => { t with excluded := t.excluded ||| (1 <<< e) })).sendState p
  | .fillRunning p e => s.fillRunningNow p e
  | .tableSwitch => s.tableSwitchNow
  | .retireFrame m => s.retireFrameNow m
  | .retireEyelet e => s.retireEyeletNow e
  | .retireWelt n => s.retireWeltNow n
  | .retirePort k => s.retirePortNow k
  | .eyeletIdle e pf ef => s.eyeletIdleNow e pf ef
  | .heelWork r a => s.heelWorkNow r a
  | .mgmtReset c => s.mgmtResetNow c
  | .devRst false => s.devRstNow
  | .shankRelease unfit => s.releaseShank unfit
  | .shankDrive a b => s.modPair (fun q => { q with driveA := a, driveB := b })
  | .takeover => s.takeoverNow
  | .silent k => s.silentNow k
  | .respond o c p => s.answer o c (natBE 2 0 ++ natBE 1 (s.plat p).phase.code ++ natBE 1 (s.plat p).state.code)
  | .fuseShadow => { s with fuse := { s.fuse with ovr := s.fuse.overNext } }
  | .rootSwitch => s.rootSwitchAll
  | .devRst true => s
  | .deviceReset => s
  | .quiesce _ _ => s

/-- What every boundary of a running unit does after the changes that waited (R135, R137, R223, R477, R484, R703, R704). -/
def State.settle (s : State) : State :=
  let s := match s.sole.hotNext with
    | some b => { s with sole := { s.sole with hotRefresh := b, hotNext := none } }
    | none => s
  let s := s.heelPeriod.modHeel (fun h => { h with taken := 0 })
  let s := { s with sole := { s.sole with chans := tmapAll {} s.sole.chans (fun _ c => { c with failedNow := [] }) } }
  let s := s.eyes.foldl (fun s e => match e.2.phase with
    | .pulse t => if t ≤ s.now then
        let s := s.modEye e.1 (fun y => { y with phase := .recovery (s.now + (s.eyeRec e.1).resetRecovery) })
        if s.drives then s.emit (.flashReset e.1 false) else s
      else s
    | _ => s) s
  let s := if s.posting then s.ringFill 64 else s
  (s.checkReads.headerStep.domainStep.shankStep.differStep.snapshots.collections).cobArbitrate

/-- The boundary's own work, the counter having advanced. -/
def State.boundary (s : State) : State :=
  let s := s.tamperStep
  match s.env.fatal with
  | some (c, 2) => (s.countFatal c).deviceResetNow
  | f =>
    let s := match f with | some (c, _) => s.fatalFirst c | none => s
    let s := s.freezeStep
    if !s.live then s
    else
      let s := if s.frz.asked && s.frz.entering.isNone then s.judgeFreeze else s
      let all := s.deferred
      let s := (ranked all).foldl (State.applyDeferred all) ({ s with deferred := [] } : State)
      let resets := all.any (fun d => match d with
        | .deviceReset => s.frz.entering.isNone
        | .devRst true => true
        | _ => false)
      if resets then s.deviceResetNow
      else match all.findSome? (fun d => match d with | .quiesce k t => some (k, t) | _ => none) with
        | some (k, t) => s.quiesceNow k t
        | none => s.settle

/-- The read slots of held platforms' welts are lent from the boundary on, those of the others are not (R58). -/
def State.lendSlots (s : State) : State :=
  let lend := fun w => match s.weltPlat w with | some p => (s.plat p).hold | none => false
  (List.range s.weltCount).foldl (fun s w => if (s.welt w).lent == lend w then s else s.modWelt w (fun x => { x with lent := lend w })) s
/-- What firmware and the update queue do of themselves in a stitch: copies and the pattern flag, the trial's confirmation, key
records being written, bounds, and the lease journal (R75, R290, R367, R458, R466 to R468). -/
def State.firmwareStitch (s : State) : State :=
  let s := (List.range 64).foldl State.journalLease s.copyStep.flagStep.confirmStep.keyStep.boundsStep
  [(1, s.boot.fw), (2, s.boot.pat), (3, s.boot.certs)].foldl State.journalTarget s

/-- The counter of a class stands above the version of a last whose fill is under way: the fill of it ends (R262). -/
def State.rollbackStep (s : State) : State :=
  let low := fun (y : Latch) => decide (hdrVersion y.header < s.classCounter (hdrClass y.header))
  let open_ := fun (y : Latch) => decide (y.stage = .signature ∨ y.stage = .table ∨ y.stage = .pages)
  (s.latches.filter (fun e => open_ e.2 && low e.2 && (s.plat (e.1 / 16)).fill.isSome)).foldl (fun s e =>
    (s.abortOp 1 e.1).lastFails e.1 Code.rollbackRejected) s

/-- What the ending stitch of a running unit completes, in the row in force until the boundary. -/
def State.endStitch (s : State) (f : StitchFacts) : State :=
  let ovr := f.overruns.filter ovrSource
  let s := ovr.foldl (fun s k => (s.countOverrun k).overrunEnds k) s
  let s := [0, 1, 2, 3].foldl (fun s e => if ovr.contains (32 + e) then s else s.engineStitch e) s
  let s := (s.digestStitch (fun k => ovr.contains (0x28 + k))).digestShorts
  let s := s.awlStitch.soleWrites (lostCycles f)
  let s := ((List.range s.chanCount).foldl (fun s c => (s.refillEnds c).s9Stitch f.scrubFails c) s).sramChecks f
  let s := if s.logGranted && !ovr.contains 0x38 then s.logQueue else s
  let s := ((s.linkStitch.shankEnd f.shankA f.shankB).shankSample f.shankA f.shankB).postQuiesce
  let s := s.platNums.foldl (fun s p => (((s.missedStep p).custodyStep p).askRetire p).askSlotMap p) s.lendSlots
  (s.rollbackStep.firmwareStitch.ringFlush 8).heelEnd

/-- The counter advances (R54). -/
def State.advance (s : State) : State := { s with stitch := { s.stitch with count := (s.stitch.count + 1) % 2 ^ 64 } }

/-- STITCH_BOUNDARY (R33, R54, R64, R608): sensors are sampled and the counter advances in every mode; the rest needs the main
domain. In freeze the responder's link goes on, and the device reset input is honoured (R644, R657). -/
def execStitchBoundary (f : StitchFacts) (s : State) : Host.Outcome State Fault Refusal :=
  let s := (f.samples.foldl (fun s x => s.takeSample x.1 x.2) s).fuseEnvStep
  if s.live then .next (s.endStitch f).advance.boundary
  else
    let s := (if s.frz.frozen && !s.pwr.mainDown then s.linkStitch else s).advance
    let all := s.deferred
    if all.contains (.devRst true) then .next s.deviceResetNow
    else if all.contains (.devRst false) then .next ({ s with deferred := [] } : State).devRstNow
    else .next s.wakeDue

end Sys2Proof.Machine
end

