-- ==== Sys2Proof/Machine/Dispatch.lean ====
section
/-!
DEFINITION. One arm per command: each calls its meaning.
-/
namespace Sys2Proof.Machine
open Sys2Proof

/-- A command's effect on everything but the queue. -/
def exec (i : Instr) (s : State) : Host.Outcome State Fault Refusal :=
  match i with
  | .stitchBoundary f => Sys2Proof.Machine.execStitchBoundary f s
  | .stitchCountLoRead reader => Sys2Proof.Machine.execStitchCountLoRead reader s
  | .scheduleSwitch => Sys2Proof.Machine.execScheduleSwitch s
  | .read h r => Sys2Proof.Machine.execRead h r s
  | .fastRead h r => Sys2Proof.Machine.execFastRead h r s
  | .program h w => Sys2Proof.Machine.execProgram h w s
  | .erase4K h => Sys2Proof.Machine.execErase4K h s
  | .erase32K h => Sys2Proof.Machine.execErase32K h s
  | .erase64K h => Sys2Proof.Machine.execErase64K h s
  | .eraseChip h => Sys2Proof.Machine.execEraseChip h s
  | .writeStatus h v => Sys2Proof.Machine.execWriteStatus h v s
  | .writeConfiguration h v => Sys2Proof.Machine.execWriteConfiguration h v s
  | .enter4ByteAddress h => Sys2Proof.Machine.execEnter4ByteAddress h s
  | .exit4ByteAddress h => Sys2Proof.Machine.execExit4ByteAddress h s
  | .clearFlagStatus h => Sys2Proof.Machine.execClearFlagStatus h s
  | .readStatus h len => Sys2Proof.Machine.execReadStatus h len s
  | .readFlagStatus h len => Sys2Proof.Machine.execReadFlagStatus h len s
  | .readConfiguration h len => Sys2Proof.Machine.execReadConfiguration h len s
  | .readId h len => Sys2Proof.Machine.execReadId h len s
  | .readSfdp h len => Sys2Proof.Machine.execReadSfdp h len s
  | .resetEnable h => Sys2Proof.Machine.execResetEnable h s
  | .reset h => Sys2Proof.Machine.execReset h s
  | .suspend h => Sys2Proof.Machine.execSuspend h s
  | .resume h => Sys2Proof.Machine.execResume h s
  | .securityRegRead h len => Sys2Proof.Machine.execSecurityRegRead h len s
  | .securityRegProgram h w => Sys2Proof.Machine.execSecurityRegProgram h w s
  | .securityRegErase h => Sys2Proof.Machine.execSecurityRegErase h s
  | .writeEnable h => Sys2Proof.Machine.execWriteEnable h s
  | .writeDisable h => Sys2Proof.Machine.execWriteDisable h s
  | .vendor h w r => Sys2Proof.Machine.execVendor h w r s
  | .hrstLow welt => Sys2Proof.Machine.execHrstLow welt s
  | .hrstRise welt => Sys2Proof.Machine.execHrstRise welt s
  | .statusPoll eyelet status suspendReported => Sys2Proof.Machine.execStatusPoll eyelet status suspendReported s
  | .eyeletInit eyelet id => Sys2Proof.Machine.execEyeletInit eyelet id s
  | .bootDone p => Sys2Proof.Machine.execBootDone p s
  | .activateRequest p => Sys2Proof.Machine.execActivateRequest p s
  | .mailboxStatus p => Sys2Proof.Machine.execMailboxStatus p s
  | .measureExtend p => Sys2Proof.Machine.execMeasureExtend p s
  | .activationCommit p => Sys2Proof.Machine.execActivationCommit p s
  | .activateDeadline p => Sys2Proof.Machine.execActivateDeadline p s
  | .fillJobStart p => Sys2Proof.Machine.execFillJobStart p s
  | .lastHeaderRead last header => Sys2Proof.Machine.execLastHeaderRead last header s
  | .lastHeaderVerified last => Sys2Proof.Machine.execLastHeaderVerified last s
  | .tableStreamDone last table cmpFault => Sys2Proof.Machine.execTableStreamDone last table cmpFault s
  | .pageReadDone what data cmpFault => Sys2Proof.Machine.execPageReadDone what data cmpFault s
  | .pageSealed welt => Sys2Proof.Machine.execPageSealed welt s
  | .platformRelease p => Sys2Proof.Machine.execPlatformRelease p s
  | .pwrgdHigh p => Sys2Proof.Machine.execPwrgdHigh p s
  | .pwrgdLow p => Sys2Proof.Machine.execPwrgdLow p s
  | .doneRise p => Sys2Proof.Machine.execDoneRise p s
  | .bootTimerExpiry p => Sys2Proof.Machine.execBootTimerExpiry p s
  | .leaseExpiry which => Sys2Proof.Machine.execLeaseExpiry which s
  | .refillStart c => Sys2Proof.Machine.execRefillStart c s
  | .refillDone c data cmpFault => Sys2Proof.Machine.execRefillDone c data cmpFault s
  | .suspectExpiry c page => Sys2Proof.Machine.execSuspectExpiry c page s
  | .soleSelfTestDone c trained failing => Sys2Proof.Machine.execSoleSelfTestDone c trained failing s
  | .soleApertureRead core offset len bad => Sys2Proof.Machine.execSoleApertureRead core offset len bad s
  | .hotRefreshChange code => Sys2Proof.Machine.execHotRefreshChange code s
  | .cobblerJobStart p => Sys2Proof.Machine.execCobblerJobStart p s
  | .cobblerSourceVerified p header table cmpFault => Sys2Proof.Machine.execCobblerSourceVerified p header table cmpFault s
  | .recoveryWaitExpiry p => Sys2Proof.Machine.execRecoveryWaitExpiry p s
  | .cobblerRead p data cmpFault => Sys2Proof.Machine.execCobblerRead p data cmpFault s
  | .cobblerErase p => Sys2Proof.Machine.execCobblerErase p s
  | .cobblerProgram p ready => Sys2Proof.Machine.execCobblerProgram p ready s
  | .cobblerCheck p ready data cmpFault => Sys2Proof.Machine.execCobblerCheck p ready data cmpFault s
  | .writebackStart p => Sys2Proof.Machine.execWritebackStart p s
  | .heelRingTailWrite core value => Sys2Proof.Machine.execHeelRingTailWrite core value s
  | .heelHold => Sys2Proof.Machine.execHeelHold s
  | .retirePlatform => Sys2Proof.Machine.execRetirePlatform s
  | .phase => Sys2Proof.Machine.execPhase s
  | .slotMap => Sys2Proof.Machine.execSlotMap s
  | .exclude => Sys2Proof.Machine.execExclude s
  | .fillRunning => Sys2Proof.Machine.execFillRunning s
  | .tableSwitch => Sys2Proof.Machine.execTableSwitch s
  | .retire => Sys2Proof.Machine.execRetire s
  | .mgmtReset => Sys2Proof.Machine.execMgmtReset s
  | .deviceReset => Sys2Proof.Machine.execDeviceReset s
  | .trialConfirm => Sys2Proof.Machine.execTrialConfirm s
  | .settingsCommit => Sys2Proof.Machine.execSettingsCommit s
  | .stagedReady => Sys2Proof.Machine.execStagedReady s
  | .patternFlag => Sys2Proof.Machine.execPatternFlag s
  | .copyJournal => Sys2Proof.Machine.execCopyJournal s
  | .fuseGate => Sys2Proof.Machine.execFuseGate s
  | .patternParams => Sys2Proof.Machine.execPatternParams s
  | .shank => Sys2Proof.Machine.execShank s
  | .quiesce => Sys2Proof.Machine.execQuiesce s
  | .heelTimerSvcWrite core value => Sys2Proof.Machine.execHeelTimerSvcWrite core value s
  | .heelTimerExpiry => Sys2Proof.Machine.execHeelTimerExpiry s
  | .armedSecondClear => Sys2Proof.Machine.execArmedSecondClear s
  | .managementReset => Sys2Proof.Machine.execManagementReset s
  | .warmHandOver => Sys2Proof.Machine.execWarmHandOver s
  | .coldPowerOn straps => Sys2Proof.Machine.execColdPowerOn straps s
  | .devRst => Sys2Proof.Machine.execDevRst s
  | .rootUnwrap => Sys2Proof.Machine.execRootUnwrap s
  | .firmwareCopyUnit => Sys2Proof.Machine.execFirmwareCopyUnit s
  | .handOver => Sys2Proof.Machine.execHandOver s
  | .trialDeadline => Sys2Proof.Machine.execTrialDeadline s
  | .floorRaise words => Sys2Proof.Machine.execFloorRaise words s
  | .patternChoice => Sys2Proof.Machine.execPatternChoice s
  | .patternLoad => Sys2Proof.Machine.execPatternLoad s
  | .frameReceived lace bytes ended codeError => Sys2Proof.Machine.execFrameReceived lace bytes ended codeError s
  | .data => Sys2Proof.Machine.execData s
  | .ack => Sys2Proof.Machine.execAck s
  | .nak => Sys2Proof.Machine.execNak s
  | .train => Sys2Proof.Machine.execTrain s
  | .replayTimeout => Sys2Proof.Machine.execReplayTimeout s
  | .linkLoss => Sys2Proof.Machine.execLinkLoss s
  | .linkRetrain => Sys2Proof.Machine.execLinkRetrain s
  | .linkKeepalive => Sys2Proof.Machine.execLinkKeepalive s
  | .sessionExpired ch => Sys2Proof.Machine.execSessionExpired ch s
  | .hello ch => Sys2Proof.Machine.execHello ch s
  | .sessionClose ch => Sys2Proof.Machine.execSessionClose ch s
  | .statusGetDevice ch => Sys2Proof.Machine.execStatusGetDevice ch s
  | .statusGetCommand ch => Sys2Proof.Machine.execStatusGetCommand ch s
  | .regRead ch => Sys2Proof.Machine.execRegRead ch s
  | .regWrite ch => Sys2Proof.Machine.execRegWrite ch s
  | .logDrain ch => Sys2Proof.Machine.execLogDrain ch s
  | .attest ch => Sys2Proof.Machine.execAttest ch s
  | .statementDone id => Sys2Proof.Machine.execStatementDone id s
  | .domainAttest ch => Sys2Proof.Machine.execDomainAttest ch s
  | .domainCollectionEnd job => Sys2Proof.Machine.execDomainCollectionEnd job s
  | .stageOpen ch => Sys2Proof.Machine.execStageOpen ch s
  | .stageData ch => Sys2Proof.Machine.execStageData ch s
  | .stageClose ch => Sys2Proof.Machine.execStageClose ch s
  | .stageCloseFirmware ch => Sys2Proof.Machine.execStageCloseFirmware ch s
  | .stageClosePattern ch => Sys2Proof.Machine.execStageClosePattern ch s
  | .stageCloseCerts ch => Sys2Proof.Machine.execStageCloseCerts ch s
  | .stageAbort ch => Sys2Proof.Machine.execStageAbort ch s
  | .platformCtlHold ch => Sys2Proof.Machine.execPlatformCtlHold ch s
  | .platformCtlRefill ch => Sys2Proof.Machine.execPlatformCtlRefill ch s
  | .platformCtlRecover ch => Sys2Proof.Machine.execPlatformCtlRecover ch s
  | .updateOpen ch => Sys2Proof.Machine.execUpdateOpen ch s
  | .updateClose ch => Sys2Proof.Machine.execUpdateClose ch s
  | .platformCtlRetire ch => Sys2Proof.Machine.execPlatformCtlRetire ch s
  | .platformCtlQuiesce ch => Sys2Proof.Machine.execPlatformCtlQuiesce ch s
  | .keyImport ch => Sys2Proof.Machine.execKeyImport ch s
  | .keyReplace ch => Sys2Proof.Machine.execKeyReplace ch s
  | .keyDestroy ch => Sys2Proof.Machine.execKeyDestroy ch s
  | .keyInfo ch => Sys2Proof.Machine.execKeyInfo ch s
  | .digestRun ch => Sys2Proof.Machine.execDigestRun ch s
  | .dgstOpen core => Sys2Proof.Machine.execDgstOpen core s
  | .dgstFeed core c => Sys2Proof.Machine.execDgstFeed core c s
  | .dgstFinish core c => Sys2Proof.Machine.execDgstFinish core c s
  | .dgstClose core c => Sys2Proof.Machine.execDgstClose core c s
  | .digestDone c fault => Sys2Proof.Machine.execDigestDone c fault s
  | .fuseRead ch => Sys2Proof.Machine.execFuseRead ch s
  | .fuseShadowSet ch => Sys2Proof.Machine.execFuseShadowSet ch s
  | .fuseProgram ch => Sys2Proof.Machine.execFuseProgram ch s
  | .fuseLock ch => Sys2Proof.Machine.execFuseLock ch s
  | .lifecycleAdvance ch => Sys2Proof.Machine.execLifecycleAdvance ch s
  | .fuseProgramDone tight loose lockTight lockLoose => Sys2Proof.Machine.execFuseProgramDone tight loose lockTight lockLoose s
  | .fuseProgramEnv tight loose => Sys2Proof.Machine.execFuseProgramEnv tight loose s
  | .swap ch => Sys2Proof.Machine.execSwap ch s
  | .swapResult => Sys2Proof.Machine.execSwapResult s
  | .solo ch => Sys2Proof.Machine.execSolo ch s
  | .soloClear ch => Sys2Proof.Machine.execSoloClear ch s
  | .freezeRead ch => Sys2Proof.Machine.execFreezeRead ch s
  | .debugToken ch => Sys2Proof.Machine.execDebugToken ch s
  | .shankReleaseSeen aHigh bHigh => Sys2Proof.Machine.execShankReleaseSeen aHigh bHigh s
  | .claimStart aHigh bHigh => Sys2Proof.Machine.execClaimStart aHigh bHigh s
  | .claimSecondLine secondHigh => Sys2Proof.Machine.execClaimSecondLine secondHigh s
  | .claimConfirm low3 => Sys2Proof.Machine.execClaimConfirm low3 s
  | .shankDisagree aHigh bHigh => Sys2Proof.Machine.execShankDisagree aHigh bHigh s
  | .shankReadbackFault aHigh bHigh => Sys2Proof.Machine.execShankReadbackFault aHigh bHigh s
  | .heartbeatSend => Sys2Proof.Machine.execHeartbeatSend s
  | .heartbeat port frameOk payload => Sys2Proof.Machine.execHeartbeat port frameOk payload s
  | .lacePortLost port => Sys2Proof.Machine.execLacePortLost port s
  | .lacePortTrained port ok => Sys2Proof.Machine.execLacePortTrained port ok s
  | .portKey port key => Sys2Proof.Machine.execPortKey port key s
  | .state records => Sys2Proof.Machine.execStateMsg records s
  | .mirror seq isFlag index value => Sys2Proof.Machine.execMirror seq isFlag index value s
  | .mirrorAck seq => Sys2Proof.Machine.execMirrorAck seq s
  | .mirrorRepeat => Sys2Proof.Machine.execMirrorRepeat s
  | .mirrorTimeout => Sys2Proof.Machine.execMirrorTimeout s
  | .snapshot flags counters seq => Sys2Proof.Machine.execSnapshot flags counters seq s
  | .pageCheck last page readNo digest => Sys2Proof.Machine.execPageCheck last page readNo digest s
  | .answerCheck welt addr stitch ownCopyBad partnerCopyBad => Sys2Proof.Machine.execAnswerCheck welt addr stitch ownCopyBad partnerCopyBad s
  | .rejoin pages => Sys2Proof.Machine.execRejoin pages s
  | .drill stitch => Sys2Proof.Machine.execDrill stitch s
  | .keyXfer payload => Sys2Proof.Machine.execKeyXfer payload s
  | .domainState r role debug lead => Sys2Proof.Machine.execDomainState r role debug lead s
  | .domainStateSend => Sys2Proof.Machine.execDomainStateSend s
  | .memberReq r nonce mask certs => Sys2Proof.Machine.execMemberReq r nonce mask certs s
  | .memberResp r nonce status code statement => Sys2Proof.Machine.execMemberResp r nonce status code statement s
  | .sensorTrip sensor code => Sys2Proof.Machine.execSensorTrip sensor code s
  | .envExcursion sensor code => Sys2Proof.Machine.execEnvExcursion sensor code s
  | .scuttleFuseBlow tight loose lockTight lockLoose => Sys2Proof.Machine.execScuttleFuseBlow tight loose lockTight lockLoose s
  | .fatalFault cause => Sys2Proof.Machine.execFatalFault cause s
  | .freezeRequest => Sys2Proof.Machine.execFreezeRequest s
  | .mainpgFall => Sys2Proof.Machine.execMainpgFall s
  | .mainpgRise => Sys2Proof.Machine.execMainpgRise s
  | .wake cause => Sys2Proof.Machine.execWake cause s
  | .mainPowerTimeout => Sys2Proof.Machine.execMainPowerTimeout s
  | .registerWrite core addr value => Sys2Proof.Machine.execRegisterWrite core addr value s
  | .vampLaneLock lane => Sys2Proof.Machine.execVampLaneLock lane s
  | .updatePointOperationDone ident => Sys2Proof.Machine.execUpdatePointOperationDone ident s
  | .jtagInstruction op => Sys2Proof.Machine.execJtagInstruction op s
  | .domainMemberSilent unit => Sys2Proof.Machine.execDomainMemberSilent unit s

end Sys2Proof.Machine
end

