-- ==== Sys2Proof/Safety.lean ====
section
/-!
DEFINITION. What a safe run is, in the terms the statements use: the relations between the states before and after a command
that the spec promises for every command, and the invariants that every step keeps.
-/
namespace Sys2Proof.Safety
open Sys2Proof Sys2Proof.Machine

/-- A step from `s` that answers a next state `t`. -/
def Steps (s t : State) : Prop := step s = .next t

/-- Every memory of the block is in its canonical form: core SRAM and MRAM, pattern memory, the sole's DRAM and the key store. -/
def MemoriesWf (s : State) : Prop :=
  Memory.wf 0 s.mem = true ∧ Memory.wf 0xFF s.pm = true ∧ Memory.wf 0 s.sole.raw = true ∧
  Memory.wf 0 s.keys.store = true

/-- No fuse bit that reads blown in `s` at either margin reads intact in `t` (R410, R429). -/
def FusesOnlyBlow (s t : State) : Prop :=
  ∀ w b, ((tget {} s.fuse.otp w).loose.testBit b = true → (tget {} t.fuse.otp w).loose.testBit b = true) ∧
    ((tget {} s.fuse.otp w).tight.testBit b = true → (tget {} t.fuse.otp w).tight.testBit b = true)

/-- A platform that is held in `s` and released in `t`. -/
def Releases (s t : State) (p : Nat) : Prop := (s.plat p).hold = true ∧ (t.plat p).hold = false

end Sys2Proof.Safety
end

