-- ==== Sys2Proof/Certificates/Slice0/Obligations.lean ====
section
/-!
DEFINITION. The statements for the provers, after the names they share.
-/
set_option linter.unusedVariables false

namespace Sys2Proof.Claims
open Sys2Proof Sys2Proof.Machine Sys2Proof.Safety

/-- A complete host command that its welt decodes, decoded as `d` (R96, R97, R101). -/
def Takes (s : State) (h : HostCmd) (d : Decoded) : Prop :=
  s.decodes h = true ∧ h.complete = true ∧ s.decodeHost h = some d

/-- What a host command on its welt first makes of the state: the Larir's own reads there are cut (R139; log entry 69). -/
def cut (s : State) (h : HostCmd) : State := s.cutReads h.welt.val

/-- In `t` presented device `k` has the emulated registers `p`, and every other one has those it had in `s`. -/
def PdBecomes (s t : State) (k : Nat) (p : PdSt) : Prop := t.pd k = p ∧ ∀ j, j ≠ k → t.pd j = s.pd j

/-- The command answers `bytes` on the host port, and changes nothing else but the arming of 0x66 and the reads it cuts. -/
def Answers (s : State) (h : HostCmd) (d : Decoded) (i : Instr) (bytes : Bytes) : Prop :=
  ∃ t, exec i s = .next t ∧ t.out = s.out ++ [.host h.welt.val bytes] ∧
    PdBecomes s t d.pd { s.pd d.pd with armed := false } ∧ { t with pds := s.pds, out := s.out } = cut s h

/-- The command makes the emulated registers of its presented device `p` and changes nothing else but the reads it cuts. -/
def OnlyEmulated (s : State) (h : HostCmd) (d : Decoded) (i : Instr) (p : PdSt) : Prop :=
  ∃ t, exec i s = .next t ∧ PdBecomes s t d.pd p ∧ { t with pds := s.pds } = cut s h

/-- The host reads and writes, with the opcodes their rows give them. -/
def ReadRow (h : HostCmd) (r : ReadArgs) (i : Instr) : Prop :=
  (i = .read h r ∧ h.opcode.toNat ∈ [0x03, 0x13]) ∨
  (i = .fastRead h r ∧ h.opcode.toNat ∈ [0x0B, 0x0C, 0x6B, 0x6C, 0xEB, 0xEC, 0xCB, 0xCC, 0xEE])

/-- The read needs no more than one page. -/
def OnePage (d : Decoded) (len : Nat) : Prop := 0 < len ∧ d.addr % 4096 + len ≤ 4096

/-- The three erase rows, with their opcodes, the opcode forwarded and the kind of operation. -/
def EraseRow (h : HostCmd) (i : Instr) (op : Byte) (kind : FwdKind) : Prop :=
  (i = .erase4K h ∧ h.opcode.toNat ∈ [0x20, 0x21] ∧ op = 0x21 ∧ kind = .erase4K) ∨
  (i = .erase32K h ∧ h.opcode.toNat ∈ [0x52, 0x5C] ∧ op = 0x5C ∧ kind = .erase32K) ∨
  (i = .erase64K h ∧ h.opcode.toNat ∈ [0xD8, 0xDC] ∧ op = 0xDC ∧ kind = .erase64K)

/-- The rows whose denial is a program, erase or security write completed quietly (R171). -/
def QuietRow (h : HostCmd) (w : WriteArgs) (i : Instr) : Prop :=
  (i = .program h w ∧ h.opcode.toNat ∈ [0x02, 0x12, 0x32, 0x34, 0x8E]) ∨
  (i = .erase4K h ∧ h.opcode.toNat ∈ [0x20, 0x21]) ∨ (i = .erase32K h ∧ h.opcode.toNat ∈ [0x52, 0x5C]) ∨
  (i = .erase64K h ∧ h.opcode.toNat ∈ [0xD8, 0xDC]) ∨ (i = .eraseChip h ∧ h.opcode.toNat ∈ [0x60, 0xC7]) ∨
  (i = .securityRegProgram h w ∧ h.opcode.toNat = 0x42) ∨ (i = .securityRegErase h ∧ h.opcode.toNat = 0x44)

/-- What a state has sent since another: the outputs after the first `n`. -/
def sentSince (s t : State) : List Output := t.out.drop s.out.length

/-- An output that leaves on the flash side. -/
def isFlash : Output → Bool
  | .flash _ _ _ _ => true
  | .flashReset _ _ => true
  | _ => false

/-- A RESUME of presented device `k` goes to eyelet `e`: an operation of it is suspended there, and the eyelet is free, not
ID_BAD and not retired (R134, R136). -/
def resumesAt (s : State) (k e : Nat) : Bool :=
  e / 8 = k / 2 && (s.eye e).busy.isNone && !s.eyeBad e && (s.eye e).suspended.any (fun o => o.pd = k)

/-- Where an allowed VENDOR command goes (R153, R159): the flash address of its window's target, or BARE_EYELET without one. -/
def VendorTarget (s : State) (h : HostCmd) (d : Decoded) (e : Nat) (addr : Option Nat) : Prop :=
  (∃ w x fp, s.judge d = .allow (some (w, x)) ∧ s.writeTarget d.pd d.page x = some (e, fp) ∧
    addr = some (fp * 4096 + d.addr % 4096)) ∨
  (∃ b, s.judge d = .allow none ∧ (tget {} s.click.dirA d.pd).bareEyelet = some b ∧ e = 8 * h.welt.val + b ∧ addr = none)

/-- Every sector of every VALID page opens: no copy of the sole fails its tag. -/
def SoleOpens (s : State) : Prop := ∀ m k, k < 16 → s.pageState m = .valid → (s.sectorPlain m k).isSome = true

/-- The lines of a welt's tread partition that hold sectors of mirror page `m` hold what `data` has there. -/
def LinesAgree (s : State) (n m : Nat) (data : Bytes) : Prop :=
  ∀ k l, k < 16 → s.treadLine n (16 * m + k) = some l → l = bytesAt data (256 * k) 256

/-- What a denial leaves of the state: only the emulated registers, the clicker's counts, the event FIFO and the outputs may
differ. -/
def OnlyDenial (s t : State) : Prop := { t with pds := s.pds, click := s.click, log := s.log, out := s.out } = s

/-- The emulated registers of R102 to R105 that the host sees, without the clicker's own counts. -/
def emulated (p : PdSt) : Nat × Bool × Bool × Nat × Bool × Bool × Bool × Bool × Bool × Bool :=
  (p.mode, p.addr4, p.wel, p.bp, p.srwd, p.prot, p.pfail, p.efail, p.psusp, p.esusp)

/-- The five commands of class WRITE_STATUS, with their opcodes. -/
def WriteStatusRow (h : HostCmd) (v : Byte) (i : Instr) : Prop :=
  (i = .writeStatus h v ∧ h.opcode.toNat = 0x01) ∨ (i = .writeConfiguration h v ∧ h.opcode.toNat = 0x72) ∨
  (i = .enter4ByteAddress h ∧ h.opcode.toNat = 0xB7) ∨ (i = .exit4ByteAddress h ∧ h.opcode.toNat = 0xE9) ∨
  (i = .clearFlagStatus h ∧ h.opcode.toNat = 0x50)

/-- The commands whose denial has no effect on the emulated registers: 0x06, 0x04, 0x66, 0x99, 0x75, 0x7A. -/
def BareRow (h : HostCmd) (i : Instr) : Prop :=
  (i = .writeEnable h ∧ h.opcode.toNat = 0x06) ∨ (i = .writeDisable h ∧ h.opcode.toNat = 0x04) ∨
  (i = .resetEnable h ∧ h.opcode.toNat = 0x66) ∨ (i = .reset h ∧ h.opcode.toNat = 0x99) ∨
  (i = .suspend h ∧ h.opcode.toNat = 0x75) ∨ (i = .resume h ∧ h.opcode.toNat = 0x7A)

/-- What an aperture read of `len` bytes at an offset in mirror page `m` returns (R44, R200, R226): the sector's plaintext of a
VALID page that opens, all-ones otherwise. -/
def apertureBytes (s : State) (m off len : Nat) (bad : Bool) : Bytes :=
  if s.pageExists m = true ∧ s.pageState m = .valid ∧ bad = false then
    match s.sectorPlain m (off / 256 % 16) with
    | some b => bytesAt b (off % 256) len
    | none => List.replicate len 0xFF
  else List.replicate len 0xFF

/-- Firmware runs, the heel ring has room and no work waits for it (R703). -/
def RingFree (s : State) : Prop := s.fw = true ∧ s.ringRoom = true ∧ s.heel.waiting = []

/-- One request has been posted at the old TAIL, with its code and arguments (R477, R478). -/
def Posts (s t : State) (req : Nat) (args : Bytes) : Prop :=
  t.heel.tail = (s.heel.tail + 1) % 64 ∧ (tget {} t.heel.ring s.heel.tail).state = 1 ∧
  (tget {} t.heel.ring s.heel.tail).req = req ∧ (tget {} t.heel.ring s.heel.tail).args = fit 16 0 args

/-- A well-formed mailbox command `b` of code `cmd`, captured from presented device `k`, is at the head of platform `p`'s queue and
firmware can run it (R283, R285). -/
def MailboxHead (s : State) (p cmd k : Nat) (b : Bytes) (q : List (Nat × Bytes)) : Prop :=
  s.live = true ∧ s.sys.mgmtUp = true ∧ s.platOk p = true ∧ (s.plat p).mboxQueue = (k, b) :: q ∧ blkOk b = true ∧
  blkCmd b = cmd ∧ s.activating p = false

/-- The status block of platform `p` stands at 0x040 of the mailbox page of presented device `k` (R282, R287; log entry 83). -/
def StatusStands (t : State) (p k cmd seq code : Nat) (done : Bool) : Prop :=
  Memory.readN 0xFF (t.pd k).mailbox 0x40 64 = t.statusBlock p cmd seq code done

/-- Nothing but the status block of presented device `k`'s mailbox page has changed of the presented devices. -/
def OnlyStatusWritten (s t : State) (k : Nat) : Prop :=
  (∀ j, j ≠ k → t.pd j = s.pd j) ∧ t.pd k = { s.pd k with mailbox := (t.pd k).mailbox } ∧
  ∀ a, a < 0x40 ∨ 0x80 ≤ a → Memory.read 0xFF (t.pd k).mailbox a = Memory.read 0xFF (s.pd k).mailbox a

/-- The other platforms are as they were. -/
def OtherPlats (s t : State) (p : Nat) : Prop := ∀ j, j ≠ p → t.plat j = s.plat j

/-- The platform's queue has lost its head, and nothing but this platform's record and the status block may differ. -/
def MailboxDone (s t : State) (p k : Nat) (q : List (Nat × Bytes)) : Prop :=
  (t.plat p).mboxQueue = q ∧ OtherPlats s t p ∧ OnlyStatusWritten s t k ∧ { t with plats := s.plats, pds := s.pds } = s

/-- The platform's fill job is at the header of entry `e`, whose eyelets and grant let the read run (R66, R242, R449, R702). -/
def HeaderDue (s : State) (l : Nat) (x : LastEntry) (f : FillJob) : Prop :=
  s.fw = true ∧ s.lastEntry? l = some x ∧ (s.plat (l / 16)).fill = some f ∧ f.expects (l % 16) = true ∧
  s.weltChanUp (x.pd / 2) = true ∧ (∀ e ∈ s.fillEyelets (l / 16) x, s.eyeBad e = false ∧ s.eyeReady e = true) ∧
  384 ≤ (s.welt (x.pd / 2)).credit

/-- A cobbler job `j` of platform `p` runs for the last entry `x`, in a held platform of a unit that drives its welts (R140). -/
def CobJobAt (s : State) (p : Nat) (j : CobJob) (x : LastEntry) : Prop :=
  s.fw = true ∧ s.drives = true ∧ (s.plat p).hold = true ∧ (s.plat p).cob = some j ∧
  s.lastEntry? (16 * p + j.entry) = some x

/-- The job's journal record stands in MRAM as job `j` leaves it (R305). -/
def Journalled (s t : State) (p : Nat) (j : CobJob) (x : LastEntry) : Prop :=
  Memory.readN 0 t.mem (cobJournalAddr p) 32 = cobRecord p j (s.cobTargetEye p j x).1 s.now

/-- The source of a repair job is still to be verified, its eyelets are good, the last area's is ready, and the stitch is the
job's (R69, R301, R702). -/
def SourceOpen (s : State) (p : Nat) (j : CobJob) (x : LastEntry) : Prop :=
  j.writeback = false ∧ j.verified = false ∧ j.checking = false ∧ j.waiting = none ∧ j.source < 2 ∧
  s.cobTurnOf p x = true ∧ s.eyeReady (8 * (x.pd / 2) + x.lastEyelet) = true ∧
  s.eyeBad (8 * (x.pd / 2) + x.lastEyelet) = false ∧
  s.eyeBad (8 * (x.pd / 2) + (sourceEyelet x (s.lastSegment x) (s.cobSource p j j.source)).1) = false

/-- The global eyelet of the job's present source. -/
def cobFrom (s : State) (p : Nat) (j : CobJob) (x : LastEntry) : Nat :=
  8 * (x.pd / 2) + (sourceEyelet x (s.lastSegment x) (s.cobSource p j j.source)).1

/-- The heel may take the entry `e` at HEAD, which posts request `req` with ARGS that are zero from byte `used` on and was not
posted for a VAMP command that still waits (R477, R479). -/
def AtHeadAny (s : State) (req used : Nat) (e : RingEntry) : Prop :=
  s.live = true ∧ s.heel.head ≠ s.heel.tail ∧ s.heel.taken < 8 ∧ s.ringAt s.heel.head = e ∧ e.state = 1 ∧ e.req = req ∧
  e.origin = none ∧ allZero (e.args.drop used) = true
/-- The same for an entry that carries out no UPDATE_OPEN (R288). -/
def AtHead (s : State) (req used : Nat) (e : RingEntry) : Prop := AtHeadAny s req used e ∧ e.lease = 0

/-- The HEEL block after the entry at HEAD has been answered: STATE 2 or 3, STATUS and STITCH written, HEAD past it. -/
def answered (s : State) (ok : Bool) (status stitch : Nat) : HeelSt := {
  s.heel with
  ring := tmod {} s.heel.ring s.heel.head (fun e => { e with state := if ok then 2 else 3, status := status, stitch := stitch })
  head := (s.heel.head + 1) % 64
  taken := s.heel.taken + 1 }

/-- The request at HEAD is accepted, leaves `d` to the next boundary, and does nothing else now (R479). -/
def Accepts (s : State) (c : Instr) (d : Deferred) : Prop :=
  exec c s = .next { s with heel := answered s true Code.ok (s.now + 1), deferred := s.deferred ++ [d] }

/-- The request at HEAD is refused with `code` and does nothing (R479, R481). -/
def Refuses (s : State) (c : Instr) (code : Nat) : Prop :=
  exec c s = .next { s with heel := answered s false code 0 }

/-- The platform that a request names. -/
def argPlat (e : RingEntry) : Nat := fieldAt e.args 0 1
/-- The second argument: a reason, a phase, an entry. -/
def argTwo (e : RingEntry) : Nat := fieldAt e.args 1 1
/-- The number of a RETIRE. -/
def argNum (e : RingEntry) : Nat := fieldAt e.args 1 4

/-- The row of R480 that PHASE follows: the change of a running platform that it asks for. -/
def phaseRow (c : Custody) (ph : Phase) (n : Nat) : Bool :=
  c = .running && ((ph = .boot && n = 2) || (ph = .runtime && n = 3) || (ph = .update && n = 2))
/-- The lease is free, or held by the host under the number that the entry bears (R288, R480). -/
def leaseOpen (s : State) (p : Nat) (e : RingEntry) : Bool :=
  match (s.plat p).lease with | none => true | some l => decide (l.holder = .host ∧ l.number = e.lease)

/-- A platform's account at the start of a device: held in state and phase HELD, nothing running, and no lease but a
session's whose bundle is lost (R276, R307). -/
def StartHeld (t : State) (p : Nat) : Prop :=
  (t.plat p).hold = true ∧ (t.plat p).state = .held ∧ (t.plat p).phase = .held ∧ (t.plat p).fill = none ∧
  (t.plat p).cob = none ∧ (t.plat p).act = none ∧
  ∀ l, (t.plat p).lease = some l → l.holder ≠ .host ∧ l.received = []

/-- The request `m` is at the front of the inbox of channel `ch`, with opcode `op`. -/
def ReqAt (s : State) (ch op : Nat) (m : Bytes) (ms : List Bytes) : Prop :=
  (s.vchan ch).inbox = m :: ms ∧ fieldAt m 0 2 = op

/-- The request `m` has left the inbox and has been answered with `code` and `body`; the response leaves when the link and the
session let it, and outside the link and what has left nothing differs but BUSY_COUNT, which counts a BUSY (R91). -/
def VAnswers (s t : State) (ch : Nat) (m : Bytes) (ms : List Bytes) (code : Nat) (body : Bytes) : Prop :=
  (t.vchan ch).inbox = ms ∧
  t.out = s.out ++ (if s.canSend ch = true then [.response ch (fieldAt m 2 2) (fieldAt m 0 2) code body] else []) ∧
  { t with vamp := s.vamp, out := s.out } = s.busyCounted code

/-- Frame `f` is the oldest received and not yet taken, and the link runs. -/
def FrameAt (s : State) (type : Nat) (f : RxFrame) (fs : List RxFrame) : Prop :=
  s.linkOn = true ∧ s.vamp.rxq = f :: fs ∧ f.type = type

/-- The ring header `r` comes in on a trained and keyed ring port of a running, paired unit, from another unit, for the first
time (R540). -/
def RingNew (s : State) (r : RingHdr) : Prop :=
  s.live = true ∧ s.paired = true ∧ (r.port = 1 ∨ r.port = 2) ∧ (s.port r.port.val).trained = true ∧
  (s.port r.port.val).keyed = true ∧ r.src.val ≠ s.pair.unitId ∧ s.pair.seen.contains (r.src.val, r.seq) = false
/-- It is addressed to this unit. -/
def RingFor (s : State) (r : RingHdr) : Prop := RingNew s r ∧ r.dst = s.pair.unitId
/-- What a ring frame of that type and payload makes the unit forward: the frame with HOPS one lower on its other ring port, where
HOPS is above 0 and that port is trained and not retired (R540). -/
def forwarded (s : State) (r : RingHdr) (type : Nat) (payload : Bytes) : List Output :=
  if 0 < r.hops ∧ (s.port (otherRing r.port.val)).trained = true ∧ (s.port (otherRing r.port.val)).retired = false then
    [.lace (otherRing r.port.val) type
      (natBE 1 (r.hops - 1) ++ natBE 1 r.src.val ++ natBE 1 r.dst ++ natBE 4 r.seq ++ payload)]
  else []

/-- No schedule is in force and no point engine is placed beyond the present stitch (R77, R602). -/
def EnginesFree (s : State) (ends : List Nat) : Prop := s.stitch.active.rows = [] ∧ ∀ e, ends.getD e 0 ≤ s.now

/-- The lowest free digest context is `c` (R318). -/
def FirstFree (s : State) (c : Nat) : Prop := c < 64 ∧ (s.ctx c).state = 0 ∧ ∀ j, j < c → (s.ctx j).state ≠ 0

/-- DGST_RESP of `core` reads `code` and, where a context was taken, its number; nothing outside the digest engine differs (R342). -/
def DgstSays (s t : State) (core code : Nat) (c : Nat) : Prop :=
  tget 0 t.dgst.resp core = BitVec.ofNat 32 (code + 65536 * c) ∧ { t with dgst := s.dgst } = s

/-- The bundle of mask `mask` fits the staging frames of every welt of platform `p` (R297). -/
def StagingFits (s : State) (p mask : Nat) : Prop :=
  ∀ x ∈ s.maskEntries p mask, s.bundleOn p mask (x.pd / 2) ≤ (s.stagingFrames p (x.pd / 2)).length

/-- The request names a platform lease `l` of platform `p`, held by the session of channel `ch` and not being verified. -/
def PlatLeaseAt (s : State) (ch : Nat) (m : Bytes) (p : Nat) (l : Lease) : Prop :=
  s.platLease (fieldAt (m.drop 12) 0 4) = some (p, l) ∧ s.targetOf (fieldAt (m.drop 12) 0 4) = none ∧ p < 64 ∧
  (s.plat p).lease = some l ∧ s.ownsLease ch l = true ∧ l.verifying = false

/-- The request names the lease `l` of target `k` (1 firmware, 2 pattern, 3 certificates), held by the adapter of channel `ch`, open
and not being closed. -/
def TargetAt (s : State) (ch : Nat) (m : Bytes) (k : Nat) (l : TargetLease) : Prop :=
  s.platLease (fieldAt (m.drop 12) 0 4) = none ∧ s.targetOf (fieldAt (m.drop 12) 0 4) = some (k, l) ∧ s.target k = some l ∧
  l.key = s.chanKey ch ∧ l.closing = none ∧ l.opening = none

/-- Firmware may take the next step of a copy: no request of it is with the heel, and the ring has room (R474, R479). -/
def CopyReady (s : State) : Prop := RingFree s ∧ s.heelAsked = false

/-- The pattern lease `l` is being closed, at step `c` of its copy into the inactive slot. -/
def PatternAt (s : State) (l : TargetLease) (c : CopyStep) : Prop :=
  CopyReady s ∧ s.boot.pat = some l ∧ l.closing ≠ none ∧ l.step = c

/-- The next step posts one request and makes the pattern lease's step `c`; pattern memory becomes that of `u`. -/
def CopyPosts (s u : State) (l : TargetLease) (c : CopyStep) (req : Nat) (args : Bytes) : Prop :=
  Posts s s.copyStep req args ∧ s.copyStep.boot.pat = some { l with step := c } ∧ s.copyStep.pm = u.pm ∧
  s.copyStep.pat = s.pat ∧ s.copyStep.plats = s.plats

/-- The ring has room for the request of one more command, and firmware can post it now (R703). -/
def MayPost (s : State) : Prop := RingFree s ∧ s.ringSpare = true

/-- A PLATFORM_CTL of action `a` on platform `p` of the variant (R309). -/
def CtlAt (s : State) (ch a p : Nat) (m : Bytes) (ms : List Bytes) : Prop :=
  ReqAt s ch 0x0050 m ms ∧ fieldAt (m.drop 12) 2 1 = a ∧ fieldAt (m.drop 12) 3 1 = p ∧ p < s.weltCount

/-- What leaves is the interim answer, and then the final one. -/
def TwoAnswers (s t : State) (ch : Nat) (m body : Bytes) (code : Nat) : Prop :=
  t.out = s.out ++ (if s.canSend ch = true then [.response ch (fieldAt m 2 2) (fieldAt m 0 2) Code.ok body,
    .response ch (fieldAt m 2 2) (fieldAt m 0 2) code []] else [])

/-- What leaves is one answer on the channel. -/
def OneAnswer (s t : State) (ch : Nat) (m : Bytes) (code : Nat) (body : Bytes) : Prop :=
  t.out = s.out ++ (if s.canSend ch = true then [.response ch (fieldAt m 2 2) (fieldAt m 0 2) code body] else [])

/-- The record an accepted key blob `b` makes, with parent generation `pg` and generation `g` (R350, R364, R367). -/
def blobRec (b : Bytes) (material pg g : Nat) : KeyRec := {
  material := BitVec.ofNat 256 material
  type := fieldAt b 1 1
  usage := fieldAt b 2 1
  exp := (fieldAt b 3 1).testBit 0
  parent := fieldAt b 4 2
  parentGen := pg
  ownGen := g }

/-- A KEY_IMPORT or KEY_REPLACE message of a PLAIN blob for volatile slot `slot` that passes the checks of R362 to R366 and is no
SM2 key: its material is `v`. -/
def PlainBlob (s : State) (replace : Bool) (m : Bytes) (slot : Nat) (v : Bytes) : Prop :=
  fieldAt (m.drop 12) 2 2 = slot ∧ 1024 ≤ slot ∧ slot ≤ 1279 ∧ s.keyRefuses replace slot (m.drop 16) = none ∧
  fieldAt (m.drop 16) 0 1 = 0 ∧ fieldAt (m.drop 16) 1 1 ≠ 4 ∧ s.unwrapBlob none (m.drop 16) = .ok v ∧
  checkValue (fieldAt (m.drop 16) 1 1) (BitVec.ofNat 256 (beNat v)) = bytesAt (m.drop 16) 8 8

/-- The key `slot` reads as `f`, every other volatile slot and the persistent store are as they were, and nothing outside the key
store and the link differs but what has left. -/
def VolatileKey (s t : State) (slot : Nat) (f : Found) : Prop :=
  t.keyRec slot = f ∧ (∀ k, k ≠ slot → tfind t.keys.vol k = tfind s.keys.vol k) ∧ t.keys.store = s.keys.store ∧
  t.keys.volGen = s.keys.volGen + 1 ∧ { t with keys := s.keys, vamp := s.vamp, out := s.out } = s

/-- Fuse word `w` reads `o` at its two margins and every other fuse as before. -/
def Blown (s t : State) (w : Nat) (o : OtpWord) : Prop :=
  tget {} t.fuse.otp w = o ∧ ∀ k, k ≠ w → tget {} t.fuse.otp k = tget {} s.fuse.otp k

/-- Word `w` after pulses on `bits` that read `tight` and `loose`: bits are only gained (R429), in both fuses of each (log
entry 90). -/
def afterPulses (s : State) (w bits tight loose : Nat) : OtpWord := {
  firmA := (tget {} s.fuse.otp w).firmA ||| (tight &&& bits)
  firmB := (tget {} s.fuse.otp w).firmB ||| (tight &&& bits)
  weakA := (tget {} s.fuse.otp w).weakA ||| (loose &&& bits)
  weakB := (tget {} s.fuse.otp w).weakB ||| (loose &&& bits) }

/-- A running standby of a pair. -/
def Standby (s : State) : Prop := s.live = true ∧ s.pair.role = .standby

/-- Slots 0 to 4 and the unwrapped root are zero, and no volatile key is left (R373, R614). -/
def SecretsGone (t : State) : Prop :=
  t.keys.root = none ∧ t.keys.slot0 = none ∧ t.keys.slot1 = none ∧ t.keys.slot2 = none ∧ t.keys.slot3 = none ∧
  t.keys.slot4 = none ∧ t.keys.vol = [] ∧ t.keys.kept = [] ∧ t.sole.epochKey = [] ∧
  t.sole.wrapped = []

end Sys2Proof.Claims

open Sys2Proof Sys2Proof.Machine Sys2Proof.Safety Sys2Proof.Claims

/-- The queue is served first in, first out: a step of a state whose queue has `c` in front is `exec` of `c` on the state with
the queue's rest, and on an empty queue the block idles (model's own queue, log entry 41). -/
def Obligations.StepRunsFront : Prop :=
  (∀ (c : Instr) (rest : List Instr) (s : State),
    step { s with pending := c :: rest } = exec c { s with pending := rest }) ∧
  ∀ s : State, s.pending = [] → step s = .next s

/-- READ_STATUS answers the status register on every byte of the burst, 0x70 the flag status register, 0x71 the configuration
register, READ_ID the pattern's ID bytes followed by 0xFF; nothing else changes but the arming of 0x66 and the reads of the
Larir on the welt, which are cut (R139, log entry 69; R99, R102, R103, R105,
R107, R114). The status register holds WIP, WEL, BP and SRWD in bits 0, 1, 5:2 and 7; the flag register ADDR4, PROT, PSUSP,
PFAIL, EFAIL, ESUSP and READY in bits 0, 1, 2, 4, 5, 6 and 7. -/
def Obligations.HostRegisterReads : Prop :=
  (∀ (s : State) (h : HostCmd) (d : Decoded) (len : Nat), Takes s h d → s.drives = true →
    (h.opcode = 0x05 → Answers s h d (.readStatus h len) (List.replicate len (s.statusReg d.pd))) ∧
    (h.opcode = 0x70 → Answers s h d (.readFlagStatus h len) (List.replicate len (s.flagReg d.pd))) ∧
    (h.opcode = 0x71 → Answers s h d (.readConfiguration h len) (List.replicate len (s.configReg d.pd))) ∧
    (h.opcode = 0x9F → Answers s h d (.readId h len)
      ((s.pdRec d.pd).id.take len ++ List.replicate (len - (s.pdRec d.pd).id.length) 0xFF))) ∧
  ∀ (s : State) (k : Nat),
    (s.statusReg k).getLsbD 0 = s.wip k ∧ (s.statusReg k).getLsbD 1 = (s.pd k).wel ∧
    ((s.pd k).bp < 16 → ((s.statusReg k).toNat / 4) % 16 = (s.pd k).bp) ∧ (s.statusReg k).getLsbD 6 = false ∧
    (s.statusReg k).getLsbD 7 = (s.pd k).srwd ∧
    (s.flagReg k).getLsbD 0 = (s.pd k).addr4 ∧ (s.flagReg k).getLsbD 1 = (s.pd k).prot ∧
    (s.flagReg k).getLsbD 2 = (s.pd k).psusp ∧ (s.flagReg k).getLsbD 3 = false ∧
    (s.flagReg k).getLsbD 4 = (s.pd k).pfail ∧ (s.flagReg k).getLsbD 5 = (s.pd k).efail ∧
    (s.flagReg k).getLsbD 6 = (s.pd k).esusp ∧ (s.flagReg k).getLsbD 7 = !s.wip k ∧
    (s.configReg k).toNat = (s.pd k).mode % 4

/-- READ_SFDP that BARE_MASK allows, at a host clock that its 8 dummy cycles cover, answers the bytes of the SFDP space from its
address; the first four are the signature. Once MODE is an octal mode the address has four bytes. A security register read is
denied with reason 9 and answered with all-ones (R98, R154, R165 step 3, R171). -/
def Obligations.HostSfdpAndSecurityReads : Prop :=
  (∀ (s : State) (h : HostCmd) (d : Decoded) (len : Nat) (w : Option (Nat × WindowWord)), Takes s h d → s.drives = true →
    h.opcode = 0x5A → s.judge d = .allow w → isLate 40 1 8 h.clockMHz (decide ((s.pd d.pd).mode = 3)) = false →
    Answers s h d (.readSfdp h len) ((List.range len).map (fun i =>
      s.sfdpByte d.pd ((if 2 ≤ (s.pd d.pd).mode then h.addr.toNat else h.addr.toNat % 2 ^ 24) + i)))) ∧
  (∀ (s : State) (k : Nat), (List.range 4).map (s.sfdpByte k) = [0x53, 0x46, 0x44, 0x50] ∧ s.sfdpByte k 7 = 0xFF ∧
    ∀ a, 0xF8 ≤ a → s.sfdpByte k a = 0xFF) ∧
  ∀ (s : State) (h : HostCmd) (d : Decoded) (len : Nat), Takes s h d → s.drives = true → h.opcode = 0x48 →
    ∃ t, exec (.securityRegRead h len) s = .next t ∧ s.judge d = .deny 9 none ∧
      t.out = s.out ++ [.host h.welt.val (List.replicate len 0xFF)] ∧
      (t.pd d.pd).defaultDeny = satInc 0xFFFF (s.pd d.pd).defaultDeny ∧ (t.pd d.pd).prot = (s.pd d.pd).prot

/-- A READ or FAST_READ within one page, allowed under a window whose source is the sole, of a page that is VALID and not
excluded, with no copy failing, the welt's tread lines of the page agreeing with it and its first data in time, completes with
exactly the bytes of the mirror page from the byte address on, and leaves the sole's store and descriptors, the flash side, MRAM
and the presented device's registers alone (0x66 is disarmed). The page's bytes are those its sixteen sectors open to. -/
def Obligations.HostReadsFromSole : Prop :=
  ∀ (s : State) (h : HostCmd) (r : ReadArgs) (d : Decoded) (i : Instr) (w m : Nat) (x : WindowWord)
    (data : Bytes), Takes s h d → s.drives = true → ReadRow h r i → s.judge d = .allow (some (w, x)) →
    s.readSrc d.pd d.page x = .sole → s.soleServes d.pd d.page = true → s.mirrorOf d.pd d.page = some m →
    SoleOpens s → s.pagePlain m = some data → LinesAgree s h.welt.val m data →
    OnePage d r.len → r.badSectors = [] → r.badLines = [] → r.overrun = false →
    (∀ q ∈ [40, 180], lateBy r.ready q 1 d.dummy h.clockMHz (decide ((s.pd d.pd).mode = 3)) = false) →
    ∃ t, exec i s = .next t ∧
      t.out = s.out ++ [.host h.welt.val (bytesAt data (d.addr % 4096) r.len)] ∧
      t.sole.raw = s.sole.raw ∧ t.sole.pages = s.sole.pages ∧ t.eyes = s.eyes ∧ t.mem = s.mem ∧
      PdBecomes s t d.pd { s.pd d.pd with armed := false }

/-- A READ or FAST_READ within one page that is not excluded, allowed under a PASS window, whose eyelet is neither bad nor busy
and whose first data is in time (450 ns and the flash's dummy cycles bound it, R118), sends one read to that eyelet at the byte address its segment maps the page to, and passes on the bytes the
flash drives. The opcode of that read is an open value (log entry 42). -/
def Obligations.HostReadsFromFlash : Prop :=
  ∀ (s : State) (h : HostCmd) (r : ReadArgs) (d : Decoded) (i : Instr) (w e : Nat) (x : WindowWord) (g : Segment),
    Takes s h d → s.drives = true → ReadRow h r i → s.judge d = .allow (some (w, x)) →
    s.readSrc d.pd d.page x = .eyelet e → (s.pdRec d.pd).segmentOf d.page = some g →
    s.pageExcluded d.pd d.page = false →
    s.eyeBad e = false → s.eyeBusy e = false → OnePage d r.len → r.flash.length = r.len →
    lateBy r.ready (45 * (s.eyeRec e).clock + 1000 * (s.eyeRec e).flashDummy) (s.eyeRec e).clock d.dummy h.clockMHz
      (decide ((s.pd d.pd).mode = 3)) = false →
    ∃ t, exec i s = .next t ∧
      t.out = s.out ++ [.flash e (Config.flashReadOp (s.eyeRec e).mode)
          (some ((g.flashPageA + (d.page - g.pdStart)) * 4096 + d.addr % 4096)) [],
        .host h.welt.val r.flash] ∧ e = 8 * (d.pd / 2) + g.eyeletA ∧
      t.eyes = s.eyes ∧ t.sole = (cut s h).sole ∧ t.mem = s.mem

/-- A denied READ or FAST_READ is answered with all-ones for the whole burst. A denied program, erase or security write is
completed quietly: WEL clears, PROT sets; a program that ended off a byte boundary also counts in DISCARDED (R126). A denied WRITE_STATUS sets PROT, clears WEL for 0x01 and 0x72, and leaves the other
registers. A denied WRITE_ENABLE, RESET, SUSPEND or RESUME leaves the registers. None of them reaches the flash side or changes
anything beyond the counts and the record of the denial and the reads the command cuts (R139).
ERASE_CHIP and SECURITY_REG are denied with reason 9 in every phase and under every pattern; one that is taken is completed
quietly, never reaches a flash device, counts in the presented device's denials, and under BARE_LOG leaves a record unless one
was left in this stitch or the event FIFO is full. -/
def Obligations.HostDenials : Prop :=
  (∀ (s : State) (h : HostCmd) (d : Decoded) (reason : Nat) (win : Option (Nat × WindowWord)) (i : Instr),
    Takes s h d → s.drives = true → s.judge d = .deny reason win →
    (∀ r, ReadRow h r i → ∃ t, exec i s = .next t ∧ OnlyDenial (cut s h) t ∧
      t.out = s.out ++ [.host h.welt.val (List.replicate r.len 0xFF)] ∧ emulated (t.pd d.pd) = emulated (s.pd d.pd)) ∧
    (∀ w, QuietRow h w i → ∃ t, exec i s = .next t ∧ OnlyDenial (cut s h) { t with welts := (cut s h).welts } ∧
      t.out = s.out ∧
      t.welts = (if w.byteAligned = false ∧ h.opcode.toNat ∈ [0x02, 0x12, 0x32, 0x34, 0x8E] then
        (cut s h).countDiscarded h.welt.val else cut s h).welts ∧
      emulated (t.pd d.pd) = emulated { s.pd d.pd with wel := false, prot := true }) ∧
    (∀ v, WriteStatusRow h v i → ∃ t, exec i s = .next t ∧ OnlyDenial (cut s h) t ∧ t.out = s.out ∧
      emulated (t.pd d.pd) = emulated { s.pd d.pd with wel := (s.pd d.pd).wel && !d.needsWel, prot := true }) ∧
    (BareRow h i → ∃ t, exec i s = .next t ∧ OnlyDenial (cut s h) t ∧ t.out = s.out ∧
      emulated (t.pd d.pd) = emulated (s.pd d.pd))) ∧
  ∀ (s : State) (h : HostCmd) (d : Decoded) (a : WriteArgs) (i : Instr), Takes s h d → s.drives = true →
    (s.pd d.pd).wel = true →
    ((i = .eraseChip h ∧ h.opcode.toNat ∈ [0x60, 0xC7]) ∨ (i = .securityRegProgram h a ∧ h.opcode.toNat = 0x42) ∨
      (i = .securityRegErase h ∧ h.opcode.toNat = 0x44)) →
    s.judge d = .deny 9 none ∧ ∃ t, exec i s = .next t ∧ OnlyDenial (cut s h) t ∧ t.out = s.out ∧ t.eyes = s.eyes ∧
      emulated (t.pd d.pd) = emulated { s.pd d.pd with wel := false, prot := true } ∧
      (t.pd d.pd).defaultDeny = satInc 0xFFFF (s.pd d.pd).defaultDeny ∧
      ((tget {} s.click.dirA d.pd).bareLog = true → (s.pd d.pd).lastRec ≠ some s.now → s.log.fifo.length < 4096 →
        t.log.fifo.length = s.log.fifo.length + 1)

/-- A PROGRAM or ERASE allowed under a window other than MAILBOX, whose eyelet is neither bad nor busy, sends write enable and
then the command to the eyelet and flash page of the write's target (the last 256 bytes of a program, in its 256-byte page);
the eyelet is busy with the operation from this stitch on, and WEL is clear. Every other eyelet and presented device is as
before.
An allowed VENDOR command whose eyelet is neither bad nor busy is forwarded there with its own opcode: with DIR 2, first data in
time, and an addressed one within one page that is not excluded, the host gets the flash's bytes up to MAXLEN and all-ones beyond; with DIR 1 at most MAXLEN bytes of the host's data go in;
with DIR 0 none. Write enable goes first where WEL_REQ is set, and WEL clears. The eyelet of a DIR 0 or DIR 1 command is busy
with it. What a read returns beyond MAXLEN is log entry 20, write enable log entry 42: the model's choices. -/
def Obligations.HostWritesForwarded : Prop :=
  (∀ (s : State) (h : HostCmd) (d : Decoded) (w e fp : Nat) (x : WindowWord), Takes s h d → s.drives = true →
    s.judge d = .allow (some (w, x)) → winAction x ≠ .mailbox → s.eyeBad e = false → s.eyeBusy e = false →
    (∀ a : WriteArgs, h.opcode.toNat ∈ [0x02, 0x12, 0x32, 0x34, 0x8E] → a.byteAligned = true → a.data ≠ [] →
      s.writeTarget d.pd d.page x = some (e, fp) →
      ∃ t, exec (.program h a) s = .next t ∧
        t.out = s.out ++ [.flash e 0x06 none [], .flash e 0x12 (some (fp * 4096 + d.addr % 4096 / 256 * 256 +
          (d.addr % 256 + (a.data.length - 256)) % 256)) (a.data.drop (a.data.length - 256))] ∧
        (t.eye e).busy = some { kind := .program, pd := d.pd, start := s.now } ∧ (t.pd d.pd).wel = false ∧
        (∀ j, j ≠ e → t.eye j = s.eye j) ∧ (∀ j, j ≠ d.pd → t.pd j = s.pd j) ∧ t.sole = (cut s h).sole ∧ t.mem = s.mem) ∧
    (∀ (i : Instr) (op : Byte) (kind : FwdKind), EraseRow h i op kind →
      (s.pdRec d.pd).segmentOf (d.page - d.page % eraseBlock d.cls) =
        (s.pdRec d.pd).segmentOf (d.page - d.page % eraseBlock d.cls + eraseBlock d.cls - 1) →
      s.writeTarget d.pd (d.page - d.page % eraseBlock d.cls) x = some (e, fp) →
      ∃ t, exec i s = .next t ∧ t.out = s.out ++ [.flash e 0x06 none [], .flash e op (some (fp * 4096)) []] ∧
        (t.eye e).busy = some { kind := kind, pd := d.pd, start := s.now } ∧ (t.pd d.pd).wel = false ∧
        (∀ j, j ≠ e → t.eye j = s.eye j) ∧ (∀ j, j ≠ d.pd → t.pd j = s.pd j) ∧ t.sole = (cut s h).sole ∧
        t.mem = s.mem)) ∧
  ∀ (s : State) (h : HostCmd) (d : Decoded) (a : WriteArgs) (r : ReadArgs) (e : Nat) (addr : Option Nat),
    Takes s h d → s.drives = true → opRow h.opcode.toNat = none → VendorTarget s h d e addr →
    s.eyeBad e = false → s.eyeBusy e = false →
    (omDir d.word = 2 →
      lateBy r.ready (45 * (s.eyeRec e).clock + 1000 * (s.eyeRec e).flashDummy) (s.eyeRec e).clock d.dummy h.clockMHz
        (decide ((s.pd d.pd).mode = 3)) = false →
      (addr.isSome = true → OnePage d (min (omMaxLen d.word) r.len) ∧ s.pageExcluded d.pd d.page = false) →
      ∃ t, exec (.vendor h a r) s = .next t ∧
        t.out = s.out ++ [.flash e h.opcode addr [], .host h.welt.val (vendorOut (omMaxLen d.word) r.len r.flash)] ∧
        (t.pd d.pd).wel = ((s.pd d.pd).wel && !omWelReq d.word) ∧ t.eyes = s.eyes ∧ t.sole = (cut s h).sole ∧
        t.mem = s.mem) ∧
    (omDir d.word ≠ 2 → ∃ t, exec (.vendor h a r) s = .next t ∧
      t.out = s.out ++ (if omWelReq d.word then [.flash e 0x06 none []] else []) ++
        [.flash e h.opcode addr (if omDir d.word = 1 then a.data.take (omMaxLen d.word) else [])] ∧
      (t.eye e).busy = some { kind := .vendor, pd := d.pd, start := s.now } ∧ (∀ j, j ≠ e → t.eye j = s.eye j) ∧
      (t.pd d.pd).wel = ((s.pd d.pd).wel && !omWelReq d.word) ∧ t.sole = (cut s h).sole ∧ t.mem = s.mem)

/-- Allowed outside phase HELD, 0x01 stores BP and SRWD, 0x72 stores MODE where the pattern permits it and otherwise sets PROT,
0xB7 and 0xE9 choose 4-byte and 3-byte addressing, 0x50 clears PROT, PFAIL and EFAIL; 0x01 and 0x72 clear WEL. In phase HELD
each completes quietly. Nothing but the emulated registers of the presented device changes. -/
def Obligations.HostWriteStatus : Prop :=
  ∀ (s : State) (h : HostCmd) (d : Decoded) (v : Byte) (w : Option (Nat × WindowWord)), Takes s h d →
    s.judge d = .allow w →
    (s.pdPhase d.pd ≠ .held →
      (h.opcode = 0x01 → OnlyEmulated s h d (.writeStatus h v)
        { s.pd d.pd with armed := false, wel := false, bp := bitsOf v.toNat 5 2, srwd := v.getLsbD 7 }) ∧
      (h.opcode = 0x72 → (s.pdRec d.pd).modes.testBit (v.toNat % 4) = true → OnlyEmulated s h d (.writeConfiguration h v)
        { s.pd d.pd with armed := false, wel := false, mode := v.toNat % 4 }) ∧
      (h.opcode = 0x72 → (s.pdRec d.pd).modes.testBit (v.toNat % 4) = false → OnlyEmulated s h d (.writeConfiguration h v)
        { s.pd d.pd with armed := false, wel := false, prot := true }) ∧
      (h.opcode = 0xB7 → OnlyEmulated s h d (.enter4ByteAddress h) { s.pd d.pd with armed := false, addr4 := true }) ∧
      (h.opcode = 0xE9 → OnlyEmulated s h d (.exit4ByteAddress h) { s.pd d.pd with armed := false, addr4 := false }) ∧
      (h.opcode = 0x50 → OnlyEmulated s h d (.clearFlagStatus h)
        { s.pd d.pd with armed := false, prot := false, pfail := false, efail := false })) ∧
    (s.pdPhase d.pd = .held → ∀ i, WriteStatusRow h v i → OnlyEmulated s h d i
      { s.pd d.pd with armed := false, wel := (s.pd d.pd).wel && !d.needsWel, prot := true })

/-- 0x06 sets WEL and 0x04 clears it; 0x66 arms a following 0x99; 0x99 directly after 0x66 returns the emulated registers to the
pattern's values, and otherwise does nothing; SUSPEND is forwarded to every eyelet busy with an operation of the presented
device that is not ID_BAD nor retired, and to no other (R134, R136); RESUME is forwarded to every such eyelet that the presented
device suspended and that is free, whose latest suspended operation goes on and holds it busy again, and to no other; with
nothing suspended it changes nothing but PSUSP and ESUSP, which read 0. Other presented devices keep their registers. -/
def Obligations.HostBareCommands : Prop :=
  ∀ (s : State) (h : HostCmd) (d : Decoded) (w : Option (Nat × WindowWord)), Takes s h d → s.judge d = .allow w →
    (h.opcode = 0x06 → OnlyEmulated s h d (.writeEnable h) { s.pd d.pd with armed := false, wel := true }) ∧
    (h.opcode = 0x04 → OnlyEmulated s h d (.writeDisable h) { s.pd d.pd with armed := false, wel := false }) ∧
    (h.opcode = 0x66 → OnlyEmulated s h d (.resetEnable h) { s.pd d.pd with armed := true }) ∧
    (h.opcode = 0x99 → (s.pd d.pd).armed = true → OnlyEmulated s h d (.reset h)
      { s.pd d.pd with armed := false, mode := (s.pdRec d.pd).powerupMode, addr4 := (s.pdRec d.pd).powerupAddr4, wel := false
                       bp := 0, srwd := false, prot := false, pfail := false, efail := false, psusp := false
                       esusp := false }) ∧
    (h.opcode = 0x99 → (s.pd d.pd).armed = false → OnlyEmulated s h d (.reset h) { s.pd d.pd with armed := false }) ∧
    (h.opcode = 0x75 → s.drives = true → ∃ t, exec (.suspend h) s = .next t ∧
      (∀ e, (t.eye e).busy = (if e / 8 = d.pd / 2 ∧ s.eyeBad e = false then (s.eye e).busy.map (fun o =>
        if o.pd = d.pd then { o with suspendSent := true } else o) else (s.eye e).busy)) ∧
      (∀ e, .flash e 0x75 none [] ∈ sentSince s t ↔
        e / 8 = d.pd / 2 ∧ s.eyeBad e = false ∧ ∃ o, (s.eye e).busy = some o ∧ o.pd = d.pd)) ∧
    (h.opcode = 0x7A → s.drives = true → ∃ t, exec (.resume h) s = .next t ∧
      (∀ e, t.eye e = (if resumesAt s d.pd e then (s.eye e).resumeOp d.pd else s.eye e)) ∧
      (∀ e o, resumesAt s d.pd e = true → (s.eye e).suspended = [o] →
        (t.eye e).busy = some { o with suspendSent := false } ∧ (t.eye e).suspended = []) ∧
      (∀ e, .flash e 0x7A none [] ∈ sentSince s t ↔ resumesAt s d.pd e = true) ∧ t.mem = s.mem ∧ t.sole = (cut s h).sole) ∧
    (h.opcode = 0x7A → (∀ e, e / 8 = d.pd / 2 → ∀ o ∈ (s.eye e).suspended, o.pd ≠ d.pd) →
      ∃ t, exec (.resume h) s = .next t ∧ t.out = s.out ∧ t.eyes = s.eyes ∧
        (t.pd d.pd).psusp = false ∧ (t.pd d.pd).esusp = false)

/-- While Wn_HRST_N is low the Larir ignores both host chip selects of the welt: every host command on it leaves the state as it
is. When Wn_HRST_N rises, both presented devices are reset as RESET does (R106), and commands are decoded again. -/
def Obligations.HostResetPin : Prop :=
  (∀ (s : State) (n : Fin 64), n.val < s.weltCount →
    ∃ t, exec (.hrstLow n) s = .next t ∧ (t.welt n.val).hrstLow = true ∧ (∀ j, j ≠ n.val → t.welt j = s.welt j) ∧
      { t with welts := s.welts } = s) ∧
  (∀ (s : State) (h : HostCmd) (i : Instr) (a : WriteArgs) (r : ReadArgs) (v : Byte) (len : Nat),
    (s.welt h.welt.val).hrstLow = true →
    (ReadRow h r i ∨ QuietRow h a i ∨ WriteStatusRow h v i ∨ BareRow h i ∨ i = .vendor h a r ∨ i = .readStatus h len ∨
      i = .readFlagStatus h len ∨ i = .readConfiguration h len ∨ i = .readId h len ∨ i = .readSfdp h len ∨
      i = .securityRegRead h len) →
    exec i s = .next s) ∧
  ∀ (s : State) (n : Fin 64), n.val < s.weltCount → (s.welt n.val).hrstLow = true →
    ∃ t, exec (.hrstRise n) s = .next t ∧ (t.welt n.val).hrstLow = false ∧ (∀ j, j ≠ n.val → t.welt j = s.welt j) ∧
      (∀ k, k / 2 = n.val → emulated (t.pd k) = ((s.pdRec k).powerupMode, (s.pdRec k).powerupAddr4, false, 0, false, false,
        false, false, false, false)) ∧
      (∀ k, k / 2 ≠ n.val → t.pd k = s.pd k) ∧ { t with welts := s.welts, pds := s.pds } = s

/-- Opcode 0x50, allowed outside phase HELD, clears PROT, PFAIL and EFAIL, and so do a RESET, a rising Wn_HRST_N and a platform
hold: bits 1, 4 and 5 of the flag status register read 0 afterwards. -/
def Obligations.ClearsFlagBits : Prop :=
  (∀ (s : State) (h : HostCmd) (d : Decoded) (w : Option (Nat × WindowWord)), Takes s h d → s.judge d = .allow w →
    ((h.opcode = 0x50 ∧ s.pdPhase d.pd ≠ .held) ∨ (h.opcode = 0x99 ∧ (s.pd d.pd).armed = true)) →
    ∃ t, exec (if h.opcode = 0x50 then .clearFlagStatus h else .reset h) s = .next t ∧
      (t.flagReg d.pd).getLsbD 1 = false ∧ (t.flagReg d.pd).getLsbD 4 = false ∧ (t.flagReg d.pd).getLsbD 5 = false) ∧
  (∀ (s : State) (n : Fin 64) (k : Nat), n.val < s.weltCount → (s.welt n.val).hrstLow = true → k / 2 = n.val →
    ∃ t, exec (.hrstRise n) s = .next t ∧
      (t.flagReg k).getLsbD 1 = false ∧ (t.flagReg k).getLsbD 4 = false ∧ (t.flagReg k).getLsbD 5 = false) ∧
  ∀ (s : State) (p k c : Nat) (next : Custody), k / 2 ∈ (s.platRec p).welts →
    (((s.holdNow p next c)).flagReg k).getLsbD 1 = false ∧ (((s.holdNow p next c)).flagReg k).getLsbD 4 = false ∧
    (((s.holdNow p next c)).flagReg k).getLsbD 5 = false

/-- A status poll of a busy eyelet, once per stitch, reads its status with the pattern's status opcode: one that shows it not busy
leaves the clearing of WIP and the fail bits to the next boundary; one that reports a suspension after SUSPEND moves the
operation to the suspended ones, and an eyelet that waits for its reset is taken at the next boundary. After its recovery wait an eyelet gets the pattern's initialisation sequence, its ID is read and
compared, and it is ready. -/
def Obligations.EyeletService : Prop :=
  (∀ (s : State) (e : Nat) (st : Byte) (sus : Bool) (o : FwdOp), s.live = true → s.drives = true →
    (s.eye e).busy = some o → (s.eye e).polled ≠ some s.now → (o.suspendSent = false ∨ sus = false) →
    st.getLsbD (s.eyeRec e).busyBit = false →
    ∃ t, exec (.statusPoll e st sus) s = .next t ∧ t.out = s.out ++ [.flash e (s.eyeRec e).statusOp none []] ∧
      (t.eye e).busy = some o ∧ (t.eye e).polled = some s.now ∧
      t.deferred = s.deferred ++ [.eyeletIdle e ((s.eyeRec e).pfailBit.elim false (fun b => st.getLsbD b))
        ((s.eyeRec e).efailBit.elim false (fun b => st.getLsbD b))] ∧ t.pds = s.pds ∧ t.sole = s.sole) ∧
  (∀ (s : State) (e : Nat) (st : Byte) (o : FwdOp), s.live = true → s.drives = true →
    (s.eye e).busy = some o → (s.eye e).polled ≠ some s.now → o.suspendSent = true →
    ∃ t, exec (.statusPoll e st true) s = .next t ∧ (t.eye e).busy = none ∧
      (t.eye e).suspended = (s.eye e).suspended ++ [{ o with suspendSent := false }] ∧
      t.deferred = s.deferred ++ (if (s.eye e).resetWhenIdle = true then [.eyeletIdle e false false] else [])) ∧
  (∀ (s : State) (e : Nat) (pf ef : Bool) (o : FwdOp), (s.eye e).busy = some o →
    ((s.eyeletIdleNow e pf ef).eye e).busy = none ∧
    ((s.eyeletIdleNow e pf ef).pd o.pd).pfail = ((s.pd o.pd).pfail || (pf && decide (o.kind = .program ∨ o.kind = .vendor))) ∧
    ((s.eyeletIdleNow e pf ef).pd o.pd).efail =
      ((s.pd o.pd).efail || (ef && !decide (o.kind = .program ∨ o.kind = .vendor)))) ∧
  ∀ (s : State) (e at_ : Nat) (id : Bytes) (r : EyeletRec), s.live = true → s.drives = true →
    s.eyeRec? e = some r → (s.eye e).phase = .recovery at_ → at_ ≤ s.now → s.eyeBusy e = false →
    s.pair.role ≠ .active →
    ∃ t, exec (.eyeletInit e id) s = .next t ∧
      t.out = s.out ++ r.init.map (fun c => .flash e (c.headD 0) none (c.drop 1)) ++ [.flash e 0x9F none []] ∧
      t.eye e = { s.eye e with phase := .ready, idRead := true, idBad := decide (fit r.idLen 0xFF id ≠ r.id) } ∧
      ∀ j, j ≠ e → t.eye j = s.eye j

/-- The refill sequencer takes the next queued page once its source eyelet can be read. The read's page digest decides, once the
digest sector has given the page's entry: a match seals the page's plaintext into its frame, where it opens again, and leaves the
page to become VALID once written out; a mismatch makes the page LOST at the next boundary and leaves the sole's store alone. A
suspect entry goes 1,000,000 stitches after its failure, and not before. A
crossing of 85 °C changes the refresh rate, one stitch later. -/
def Obligations.SoleRefill : Prop :=
  (∀ (s : State) (c : Fin 8) (m e pg : Nat) (q : List Nat), s.live = true → (s.chan c.val).running = none →
    (s.chan c.val).queue = m :: q → s.refillSource m = some (e, pg) → s.eyeBad e = false → s.eyeBusy e = false →
    ∃ t, exec (.refillStart c) s = .next t ∧ (t.chan c.val).queue = q ∧
      (t.chan c.val).running = some { page := m, welt := e / 8 } ∧ (∀ j, j ≠ c.val → t.chan j = s.chan j) ∧
      { t with sole := s.sole } = s ∧ t.sole.raw = s.sole.raw ∧ t.sole.pages = s.sole.pages) ∧
  (∀ (s : State) (c : Fin 8) (data : Bytes) (f : Refill) (want : Digest) (e pg : Nat), s.live = true →
    (s.chan c.val).running = some f → f.digest = some want → s.refillSource f.page = some (e, pg) →
    s.eyeBad e = false → s.eyeBusy e = false → f.matched = false → 4096 ≤ f.credit → data.length = 4096 →
    (sm3 data = want → ∃ t, exec (.refillDone c data false) s = .next t ∧
      (∀ p key, s.pageBound f.page = some p → s.epochKeyOf p = some key → t.pagePlain f.page = some data) ∧
      (t.chan c.val).running = some { f with matched := true } ∧ t.deferred = s.deferred ∧ t.sole.pages = s.sole.pages) ∧
    (sm3 data ≠ want → ∃ t, exec (.refillDone c data false) s = .next t ∧
      (t.chan c.val).running = none ∧ t.sole.raw = s.sole.raw ∧ t.deferred = s.deferred ++ [.page f.page .lost])) ∧
  (∀ (s : State) (c : Fin 8) (m : Nat), ∃ t, exec (.suspectExpiry c m) s = .next t ∧
    (t.chan c.val).suspects = (s.chan c.val).suspects.filter (fun x => x.1 ≠ m || s.now < x.2 + 1000000) ∧
    { t with sole := s.sole } = s) ∧
  ∀ (s : State) (v : Nat), ∃ t, exec (.hotRefreshChange v) s = .next t ∧ t.sole.hotNext = some (decide (2384 < v)) ∧
    { t with sole := s.sole } = s

/-- The self-test of an untested channel ends, and what it found takes effect at the next boundary: the frames of the persistent
list and those that failed are retired; the channel is up if it trained and its spares cover its retired mirror frames, and DOWN
otherwise. A core that reads the aperture gets the plaintext of a VALID page and all-ones of any other page, or of one whose copy
fails; the read starts no refill and changes no page. A second read of a channel in one stitch is not taken (log entry 75). -/
def Obligations.SoleTestAndAperture : Prop :=
  (∀ (s : State) (c : Fin 8) (ok : Bool) (failing : List Nat), s.live = true → c.val < s.chanCount →
    (s.chan c.val).tested = false →
    ∃ t, exec (.soleSelfTestDone c ok failing) s = .next t ∧ (t.chan c.val).tested = true ∧
      t.deferred = s.deferred ++ [.selfTest c.val ok failing] ∧ (∀ j, j ≠ c.val → t.chan j = s.chan j) ∧
      { t with sole := s.sole, deferred := s.deferred } = s) ∧
  (∀ (s : State) (c : Nat) (ok : Bool) (failing : List Nat), (s.chan c).kept = false →
    ((s.selfTestNow c ok failing).chan c).down = !((s.selfTestNow c ok failing).chan c).up ∧
    (ok = false → ((s.selfTestNow c ok failing).chan c).down = true) ∧
    (∀ f ∈ s.persistFrames c, f ∈ ((s.selfTestNow c ok failing).chan c).retired) ∧
    (∀ f ∈ failing, f < 704512 → f ∈ ((s.selfTestNow c ok failing).chan c).retired) ∧
    (ok = true → failing = [] → s.persistFrames c = [] → ((s.selfTestNow c ok failing).chan c).up = true)) ∧
  (∀ (s : State) (core len m : Nat) (off : BitVec 28) (bad : Bool), s.live = true → core ≤ 4 → 0 < len →
    off.toNat % 256 + len ≤ 256 → m = (tget 0 s.sel 0 % 64 * 2 ^ 28 + off.toNat) / 4096 →
    (s.chan (pageChan m)).aperUsed = false →
    ∃ t, exec (.soleApertureRead core off len bad) s = .next t ∧
      t.out = s.out ++ [.coreRead (apertureBytes s m off.toNat len bad)] ∧
      t.sole.raw = s.sole.raw ∧ t.sole.pages = s.sole.pages ∧ t.deferred = s.deferred ∧
      (∀ c, (t.chan c).queue = (s.chan c).queue) ∧ (bad = false → s.pageExists m = false → { t with out := s.out } = s)) ∧
  ∀ (s : State) (core len m : Nat) (off : BitVec 28) (bad : Bool), s.live = true → core ≤ 4 → 0 < len →
    off.toNat % 256 + len ≤ 256 → m = (tget 0 s.sel 0 % 64 * 2 ^ 28 + off.toNat) / 4096 → s.pageExists m = true →
    (s.chan (pageChan m)).aperUsed = true → exec (.soleApertureRead core off len bad) s = .next s

/-- PLATFORM_RELEASE of a platform that meets R278 asks for the release and changes no hold: the platform is still held, and the
release waits for the boundary. Carried out there, a VERIFIED platform becomes RELEASED in phase BOOT with its hold released and
its RELEASES count one higher; one that is no longer VERIFIED stays as it is. -/
def Obligations.ReleaseOnlyAtBoundary : Prop :=
  (∀ (s : State) (p : Nat), s.live = true → s.releasable p = true → (s.plat p).releaseDue = false →
    ∃ t, exec (.platformRelease p) s = .next t ∧ t.deferred = s.deferred ++ [.release p] ∧
      t.plat p = { s.plat p with releaseDue := true } ∧ OtherPlats s t p ∧
      { t with plats := s.plats, deferred := s.deferred } = s) ∧
  (∀ (s : State) (p : Nat), (s.plat p).state = .verified →
    ((s.releaseNow p).plat p).hold = false ∧ ((s.releaseNow p).plat p).state = .released ∧
    ((s.releaseNow p).plat p).phase = .boot ∧
    ((s.releaseNow p).plat p).releases = satInc 0xFFFFFFFF (s.plat p).releases ∧ OtherPlats s (s.releaseNow p) p) ∧
  (∀ (s : State) (p : Nat), (s.plat p).state ≠ .verified → s.releaseNow p = s) ∧
  ∀ (s : State) (p : Nat), s.releasable p = true → s.env.cleared = false ∧ (s.plat p).state = .verified ∧
    ∀ x ∈ s.bootSet p, (s.latch (16 * p + x.entry)).latched = true ∨ (s.plat p).excluded.testBit x.entry = true

/-- Two high samples of Pn_PWRGD set the level. Two low ones clear it and, with PWRGD_USE 1 on a released, running, filling or
verified platform whose level was high, ask for a hold with cause 5 at the next boundary. A rise of Pn_DONE in phase BOOT with
DONE_USE 1, and the end of the boot timer in phase BOOT, are latched, and firmware posts the PHASE request for RUNTIME. Nothing
else changes. -/
def Obligations.PlatformInputs : Prop :=
  (∀ (s : State) (p : Nat), s.live = true → s.platOk p = true →
    ∃ t, exec (.pwrgdHigh p) s = .next t ∧ t.plat p = { s.plat p with pwrgd := true } ∧ OtherPlats s t p ∧
      { t with plats := s.plats } = s) ∧
  (∀ (s : State) (p : Nat), s.live = true → s.platOk p = true →
    ∃ t, exec (.pwrgdLow p) s = .next t ∧ t.plat p = { s.plat p with pwrgd := false } ∧ OtherPlats s t p ∧
      { t with plats := s.plats, deferred := s.deferred } = s ∧
      t.deferred = s.deferred ++ (if (s.plat p).pwrgd = true ∧ s.drives = true ∧ (s.platRec p).pwrgdUse = true ∧
        (s.ahead p).1 ∈ [.released, .running, .filling, .verified] then [.hold p .held 5] else [])) ∧
  (∀ (s : State) (p : Nat), s.fw = true → s.platOk p = true → s.drives = true → (s.platRec p).doneUse = true →
    (s.plat p).state = .running → (s.plat p).phase = .boot → (s.plat p).doneSeen = false → (s.plat p).phaseAsked = false →
    RingFree s →
    ∃ t, exec (.doneRise p) s = .next t ∧ Posts s t 0x03 [BitVec.ofNat 8 p, 2] ∧
      t.plat p = { s.plat p with doneSeen := true, doneIn := true, phaseAsked := true } ∧ OtherPlats s t p ∧
      { t with plats := s.plats, heel := s.heel } = s) ∧
  ∀ (s : State) (p b : Nat), s.fw = true → s.drives = true → (s.plat p).state = .running → (s.plat p).phase = .boot →
    (s.plat p).timerSeen = false → (s.plat p).phaseAsked = false → (s.plat p).bootStart = some b →
    (s.platRec p).bootTimer ≠ 0xFFFFFFFF → b + (s.platRec p).bootTimer ≤ s.now → RingFree s →
    ∃ t, exec (.bootTimerExpiry p) s = .next t ∧ Posts s t 0x03 [BitVec.ofNat 8 p, 2] ∧
      t.plat p = { s.plat p with timerSeen := true, phaseAsked := true } ∧ OtherPlats s t p ∧
      { t with plats := s.plats, heel := s.heel } = s

/-- A mailbox command at the head of its platform's queue is taken off it and answered with OK and DONE 1 in the status block of the
mailbox page it was captured from.
BOOT_DONE in phase BOOT is latched and posts the PHASE request when the ring has room; in RUNTIME and UPDATE it has no effect.
STATUS has none in any phase. MEASURE_EXTEND in phase BOOT or RUNTIME makes MEASURE the SM3 of MEASURE followed by the first LEN
bytes of that page's data area. Outside their phases BOOT_DONE and MEASURE_EXTEND are answered with PHASE_REFUSED, and a block that breaks
R283 with MAILBOX_FORMAT_BAD, and nothing else happens. -/
def Obligations.MailboxCommands : Prop :=
  (∀ (s : State) (p k : Nat) (b : Bytes) (q : List (Nat × Bytes)), MailboxHead s p 1 k b q →
    ((s.plat p).phase = .boot → (s.plat p).state = .running → (s.plat p).phaseAsked = false → RingFree s →
      ∃ t, exec (.bootDone p) s = .next t ∧ Posts s t 0x03 [BitVec.ofNat 8 p, 2] ∧ (t.plat p).bootDoneSeen = true ∧
        (t.plat p).mboxQueue = q ∧ StatusStands t p k 1 (blkSeq b) Code.ok true ∧ OtherPlats s t p ∧ OnlyStatusWritten s t k ∧
        { t with plats := s.plats, pds := s.pds, heel := s.heel } = s) ∧
    ((s.plat p).phase = .runtime ∨ (s.plat p).phase = .update → ∃ t, exec (.bootDone p) s = .next t ∧
      MailboxDone s t p k q ∧ StatusStands t p k 1 (blkSeq b) Code.ok true) ∧
    ((s.plat p).phase = .held → ∃ t, exec (.bootDone p) s = .next t ∧
      MailboxDone s t p k q ∧ StatusStands t p k 1 (blkSeq b) Code.phaseRefused true)) ∧
  (∀ (s : State) (p k : Nat) (b : Bytes) (q : List (Nat × Bytes)), MailboxHead s p 3 k b q →
    ∃ t, exec (.mailboxStatus p) s = .next t ∧ MailboxDone s t p k q ∧ StatusStands t p k 3 (blkSeq b) Code.ok true ∧
      (t.plat p).measure = (s.plat p).measure) ∧
  (∀ (s : State) (p k : Nat) (b : Bytes) (q : List (Nat × Bytes)), MailboxHead s p 4 k b q →
    ((s.plat p).phase = .boot ∨ (s.plat p).phase = .runtime → ∃ t, exec (.measureExtend p) s = .next t ∧
      MailboxDone s t p k q ∧ StatusStands t p k 4 (blkSeq b) Code.ok true ∧
      (t.plat p).measure = sm3 (digestBytes (s.plat p).measure ++ Memory.readN 0xFF (s.pd k).mailbox 0x80 (blkLen b))) ∧
    ((s.plat p).phase = .held ∨ (s.plat p).phase = .update → ∃ t, exec (.measureExtend p) s = .next t ∧
      MailboxDone s t p k q ∧ StatusStands t p k 4 (blkSeq b) Code.phaseRefused true ∧
      (t.plat p).measure = (s.plat p).measure)) ∧
  ∀ (s : State) (p k : Nat) (b : Bytes) (q : List (Nat × Bytes)), s.live = true → s.sys.mgmtUp = true → s.platOk p = true →
    (s.plat p).mboxQueue = (k, b) :: q → blkOk b = false → blkCmd b = 3 →
    ∃ t, exec (.mailboxStatus p) s = .next t ∧ MailboxDone s t p k q ∧
      StatusStands t p k 3 (blkSeq b) Code.mailboxFormatBad true

/-- ACTIVATE_REQUEST in phase UPDATE with the host's lease, a deadline and no flip pending begins the activation: DONE 0 in the
status block, every slotted entry's header to check, the deadline stitch set. Once every slotted last has verified, an unpaired
unit's commit flips ACTIVE of the journal flag, raises GEN by one, raises the anti-rollback counters to the activated versions,
clears RAISE_PENDING and ends the activation with OK. Past its deadline an activation that is not committed ends with
ACTIVATE_DEADLINE and the flag stays. The fresh value that the beginning draws is the key of the tables it keeps in the staging
area (log entry 75, the model's choice). -/
def Obligations.ActivationFlow : Prop :=
  (∀ (s : State) (p k d : Nat) (b : Bytes) (q : List (Nat × Bytes)), MailboxHead s p 2 k b q → (s.plat p).phase = .update →
    s.hostLease p = true → s.activateDeadline p = some d → flagActive (s.flag p) = (s.plat p).map →
    flagRaise (s.flag p) = false →
    ∃ t, exec (.activateRequest p) s = .next t ∧ MailboxDone s { t with fresh := s.fresh } p k q ∧ t.fresh = s.fresh + 1 ∧
      StatusStands t p k 2 (blkSeq b) Code.ok false ∧
      ∃ a, (t.plat p).act = some a ∧ a.pd = k ∧ a.deadline = s.now + d ∧ a.headers = (s.slottedLasts p).map (·.entry) ∧
        a.committed = false) ∧
  (∀ (s : State) (p : Nat) (a : Activation), p < 64 → s.fw = true → (s.plat p).act = some a → a.ready = true →
    a.committed = false → a.writeback = false → s.pair.role = .unpaired →
    s.pair.mirrors = [] → (∀ x ∈ a.tables, hdrClass x.2.1 < 1024) →
    ∃ t, exec (.activationCommit p) s = .next t ∧ (t.plat p).act = none ∧
      flagActive (t.flag p) = !flagActive (s.flag p) ∧ flagRaise (t.flag p) = false ∧
      flagGen (t.flag p) = (flagGen (s.flag p) + 1) % 65536 ∧
      (∀ x ∈ a.tables, hdrVersion x.2.1 ≤ t.classCounter (hdrClass x.2.1)) ∧
      (∀ k, k < 1024 → s.classCounter k ≤ t.classCounter k) ∧ StatusStands t p a.pd 2 a.seq Code.ok true ∧
      OnlyStatusWritten s t a.pd) ∧
  ∀ (s : State) (p : Nat) (a : Activation), s.fw = true → (s.plat p).act = some a → a.writeback = false →
    a.committed = false → a.deadline ≤ s.now →
    ∃ t, exec (.activateDeadline p) s = .next t ∧ (t.plat p).act = none ∧ t.mem = s.mem ∧ OnlyStatusWritten s t a.pd ∧
      StatusStands t p a.pd 2 a.seq Code.activateDeadline true

/-- A fill job that may start raises the persistent epoch counter by one, draws an epoch key (an open value, log entry 2) and leaves
the start of the epoch to the next boundary, where the platform's pages become EMPTY, its latch records are cleared and the
epoch bears the new number and key. Every RAISE_PENDING flag whose raises are owed is cleared first (R296, log entry 43). With the counter at its end the job does not start and the platform's account stays. -/
def Obligations.FillJobStart : Prop :=
  (∀ (s : State) (p : Nat), s.mayFill p = true → s.epochCounter < epochMax →
    ∃ t, exec (.fillJobStart p) s = .next t ∧ t.epochCounter = s.epochCounter + 1 ∧ t.fresh = s.fresh + 1 ∧
      t.deferred = s.deferred ++ [.epoch p (s.epochCounter + 1) ((Config.free s.fresh).setWidth 128) (if (s.plat p).state = .recovering then 10 else 0)] ∧
      t.sole = s.sole ∧
      ∀ q, t.plat q = (if q < 64 ∧ s.raiseWaits q = true then { s.plat q with raiseOwed := false, raised := 0, raising := none } else s.plat q) ∧
        (q < 64 → s.raiseWaits q = true → flagRaise (t.flag q) = false)) ∧
  (∀ (s : State) (p : Nat), s.mayFill p = true → epochMax ≤ s.epochCounter → (∀ q < 64, s.raiseWaits q = false) →
    ∃ t, exec (.fillJobStart p) s = .next t ∧ t.mem = s.mem ∧ t.plats = s.plats ∧ t.deferred = s.deferred) ∧
  ∀ (s : State) (p n : Nat) (key : BitVec 128),
    tget 0 (s.startEpoch p n key).sole.epoch p = n ∧ tget none (s.startEpoch p n key).sole.epochKey p = some key ∧
    (∀ m, inRuns (s.platRuns p) m = true → ((s.startEpoch p n key).page m).state = .empty) ∧
    (∀ l, l / 16 = p → (s.startEpoch p n key).latch l = {}) ∧
    (∀ l, l / 16 ≠ p → (s.startEpoch p n key).latch l = s.latch l)

/-- The header of the entry a fill job is at is stored in the latch record, which is at its header from then on. Judged at the
boundary, the code of the first check that fails ends
the verification with stage FAILED, and passing starts the signature's point-engine operation. Once that has run, a signer that
the platform anchors and a good signature take the last to its table, and otherwise it fails with that check's code; where the
operation was that of an owed raise, a good header raises the counter of its class and a bad one raises nothing (R296). A table whose
digest matches TABLE_DIGEST takes it to its pages, and it counts as read in the epoch whether it matches or not. -/
def Obligations.LastVerification : Prop :=
  (∀ (s : State) (l : Nat) (h : Bytes) (x : LastEntry) (f : FillJob), HeaderDue s l x f → h.length = 384 →
    ∃ t, exec (.lastHeaderRead l h) s = .next t ∧ (t.latch l).stage = .header ∧ (t.latch l).header = h ∧
      (t.latch l).source = s.fillSource (l / 16) x ∧ (t.latch l).latched = false ∧ (t.latch l).verdict = false ∧
      (∀ k, k ≠ l → t.latch k = s.latch k) ∧ (t.plat (l / 16)).fill.map (·.cur) = some (some (l % 16)) ∧ t.point = s.point ∧
      (t.welt (x.pd / 2)).credit = (s.welt (x.pd / 2)).credit - 384 ∧ t.sole = s.sole ∧ t.mem = s.mem) ∧
  (∀ (s : State) (l : Nat) (x : LastEntry), s.lastEntry? l = some x →
    (∀ c, s.headerChecks x (sourceEyelet x (s.lastSegment x) (s.latch l).source) (s.latch l).header = some c →
      ((s.headerJudged l).latch l).stage = .failed ∧ ((s.headerJudged l).latch l).code = c ∧
      (s.headerJudged l).point = s.point) ∧
    (s.headerChecks x (sourceEyelet x (s.lastSegment x) (s.latch l).source) (s.latch l).header = none →
      ((s.headerJudged l).latch l).stage = .signature ∧ ((s.headerJudged l).latch l).header = (s.latch l).header ∧
      (s.headerJudged l).point.ops =
        s.point.ops ++ [{ owner := 1, ident := l, op := 1, steps := 167, total := 167, engine := none, start := 0 }])) ∧
  (∀ (s : State) (l : Nat) (h : Bytes), s.live = true → s.opDone 1 l = true → (s.plat (l / 16)).raising = some (l % 16, h) →
    ∃ t, exec (.lastHeaderVerified l) s = .next t ∧ t.latches = s.latches ∧
      (t.plat (l / 16)).raising = none ∧ (t.plat (l / 16)).raised.testBit (l % 16) = true ∧ OtherPlats s t (l / 16) ∧
      (s.signerChecks (l / 16) h = none → hdrClass h < 1024 → hdrVersion h ≤ t.classCounter (hdrClass h)) ∧
      (s.signerChecks (l / 16) h ≠ none → ∀ k, t.classCounter k = s.classCounter k)) ∧
  (∀ (s : State) (l : Nat), s.live = true → s.opDone 1 l = true → (s.plat (l / 16)).raising = none →
    (s.latch l).stage = .signature →
    (s.signerChecks (l / 16) (s.latch l).header = none → ∃ t, exec (.lastHeaderVerified l) s = .next t ∧
      t.latch l = { s.latch l with stage := .table, verdict := true }) ∧
    (∀ c, s.signerChecks (l / 16) (s.latch l).header = some c → ∃ t, exec (.lastHeaderVerified l) s = .next t ∧
      t.latch l = { s.latch l with stage := .failed, code := c })) ∧
  ∀ (s : State) (l : Nat) (x : LastEntry) (f : FillJob) (tb : Bytes), s.live = true → s.lastEntry? l = some x →
    (s.plat (l / 16)).fill = some f → f.cur = some (l % 16) → f.stopped = false → (s.latch l).stage = .table →
    s.eyeBad (8 * (x.pd / 2) + x.lastEyelet) = false → s.eyeReady (8 * (x.pd / 2) + x.lastEyelet) = true →
    tb.length = 32 * hdrPages (s.latch l).header → tb.length ≤ (s.welt (x.pd / 2)).credit →
    (sm3 tb = hdrTable (s.latch l).header → ∃ t, exec (.tableStreamDone l tb false) s = .next t ∧
      t.latch l = { s.latch l with tableRead := true, stage := .pages, tableOk := some true }) ∧
    (sm3 tb ≠ hdrTable (s.latch l).header → ∃ t, exec (.tableStreamDone l tb false) s = .next t ∧
      t.latch l = { s.latch l with tableRead := true, stage := .failed, tableOk := some false, code := Code.tableDigestMismatch })

/-- A page read of a fill whose SM3 is the digest entry that the sequencer holds for the page marks the page matched and puts it into
the welt's buffer. When the last sector of the oldest buffered page is written in the stitch now running, the page's sealed
sectors open to its bytes, the latch record notes the page written and the page becomes VALID at the next boundary. A page sealed
under a platform's epoch key, and the eight entries of a digest sector, open to what was sealed. A last is LATCHED only when its verdict, its table and every page stand, and its
version is not below the counter. -/
def Obligations.PageJudgement : Prop :=
  (∀ (s : State) (l j : Nat) (x : LastEntry) (f : FillJob) (js : List Nat) (data : Bytes), s.live = true →
    s.lastEntry? l = some x → (s.plat (l / 16)).fill = some f → f.cur = some (l % 16) → f.stopped = false →
    f.pages = j :: js → f.reads = [] → data.length = 4096 →
    s.eyeBad (8 * (x.pd / 2) + (sourceEyelet x (s.lastSegment x) (s.latch l).source).1) = false →
    s.eyeReady (8 * (x.pd / 2) + (sourceEyelet x (s.lastSegment x) (s.latch l).source).1) = true →
    4096 ≤ (s.welt (x.pd / 2)).credit → (s.welt (x.pd / 2)).buf.length < 2 →
    s.heldDigest (x.pd / 2) ((s.lastSegment x).solePage.getD 0 + j) = some (sm3 data) →
    (s.page ((s.lastSegment x).solePage.getD 0 + j)).noFrame = false →
    ∃ t, exec (.pageReadDone (.fill l) data false) s = .next t ∧ tget false (t.latch l).matched j = true ∧
      (t.welt (x.pd / 2)).buf = (s.welt (x.pd / 2)).buf ++
        [{ last := l, page := j, mirror := (s.lastSegment x).solePage.getD 0 + j, data := data }] ∧
      (t.welt (x.pd / 2)).credit = (s.welt (x.pd / 2)).credit - 4096 ∧ t.sole.raw = s.sole.raw) ∧
  (∀ (s : State) (w : Fin 64) (b : BufPage), s.live = true → (s.welt w.val).unsealed = some b →
    ((s.soleWrites (fun _ => [])).welt w.val).unsealed.map (·.left) = some 0 → b.data.length = 4096 →
    ∃ t, exec (.pageSealed w) s = .next t ∧ (∀ y ∈ (t.welt w.val).buf, y ∈ takeSealed (s.welt w.val).buf) ∧
      (∀ p key, s.pageBound b.mirror = some p → s.epochKeyOf p = some key → t.pagePlain b.mirror = some b.data) ∧
      tget false (t.latch b.last).written b.page = true ∧
      .page b.mirror .valid ∈ t.deferred) ∧
  (∀ (s : State) (m p : Nat) (key : BitVec 128) (data : Bytes), s.pageBound m = some p → s.epochKeyOf p = some key →
    (data.length = 4096 → (s.writePage m data).pagePlain m = some data) ∧
    (data.length = 256 → ∀ n, n / 8 = m / 8 → s.pageBound n = some p →
      (s.sealDigests m data).pageDigest n = some (digestEntry n data))) ∧
  ∀ (s : State) (l : Nat), (s.latch l).latched = false → ((s.tryLatch l).latch l).latched = true →
    (s.latch l).verdict = true ∧ (s.latch l).tableOk = some true ∧
    s.classCounter (hdrClass (s.latch l).header) ≤ hdrVersion (s.latch l).header ∧
    ∀ j, j < hdrPages (s.latch l).header → tget false (s.latch l).matched j = true ∧ tget false (s.latch l).written j = true

/-- COBBLER_JOB_START takes the next failing entry of a RECOVERING platform. A target eyelet that is ID_BAD or retired leaves the
entry without a source; otherwise a slotted entry whose other slot's eyelet is good is tried from that slot first, with an open
journal record. RECOVERY_WAIT_EXPIRY at the staged order ends the job and notes the entry for
NO_SOURCE. A source's header is read in the job's stitch; the boundary judges checks 1 to 7 and starts the signature's 167 steps,
after which checks 8 and 9 are made, and only then its table is read. A source that passes its checks gives a page repair of the listed pages, or a whole-image repair of the area and every
page, whose table's sectors wait for S8 slots where the staging area has room for them; one that fails is not verified, nor is a
whole-image repair begun at the end of the epoch counter (R193). A rewritten area is checked in the same way from what was read
back. WRITEBACK_START opens a write-back job from the bundle. Other
platforms stay as they are. -/
def Obligations.CobblerJobs : Prop :=
  (∀ (s : State) (p e : Nat) (rest : List Nat) (x : LastEntry), s.fw = true → s.drives = true → s.env.cleared = false →
    (s.plat p).state = .recovering → (s.plat p).cob = none → (s.platRec p).cobblerEn = true →
    (s.plat p).cobQueue = e :: rest → s.lastEntry? (16 * p + e) = some x →
    (s.eyeBad (s.cobTargetEye p { entry := e } x).1 = true →
      ∃ t, exec (.cobblerJobStart p) s = .next t ∧ (t.plat p).cob = none ∧ (t.plat p).noSource.testBit e = true ∧
        (t.plat p).cobQueue = rest ∧ t.out = s.out ∧ t.eyes = s.eyes ∧ OtherPlats s t p) ∧
    (s.eyeBad (s.cobTargetEye p { entry := e } x).1 = false → s.journalled p e = none → s.opOf 2 p = none →
      s.cobHas p { entry := e } x 0 = true →
      ∃ t, exec (.cobblerJobStart p) s = .next t ∧
        (t.plat p).cob = some (s.cobPlan p x { entry := e, started := s.now, seq := s.cobSeq }) ∧ (t.plat p).cobQueue = rest ∧
        Journalled s t p (s.cobPlan p x { entry := e, started := s.now, seq := s.cobSeq }) x ∧ OtherPlats s t p ∧
        { t with plats := s.plats, mem := s.mem, eyes := s.eyes, out := s.out, cobSeq := s.cobSeq } = s)) ∧
  (∀ (s : State) (p : Nat) (j : CobJob) (x : LastEntry) (t0 : Nat), CobJobAt s p j x → j.waiting = some t0 →
    t0 + (s.platRec p).recoveryWait ≤ s.now → j.orders = [2] →
    ∃ t, exec (.recoveryWaitExpiry p) s = .next t ∧ (t.plat p).cob = none ∧
      (t.plat p).noSource.testBit j.entry = true ∧ OtherPlats s t p) ∧
  (∀ (s : State) (p : Nat) (j : CobJob) (x : LastEntry) (h : Bytes), CobJobAt s p j x → SourceOpen s p j x → j.header = [] →
    h.length = 384 → 384 ≤ j.credit →
    ∃ t, exec (.cobblerSourceVerified p h [] false) s = .next t ∧ OtherPlats s t p ∧
      (t.plat p).cob = some { j with header := h, credit := j.credit - 384 } ∧
      t.out = s.out ++ [.flash (8 * (x.pd / 2) + x.lastEyelet) (Config.flashReadOp (s.eyeRec (8 * (x.pd / 2) + x.lastEyelet)).mode)
        (some (4096 * x.areaPage (s.cobSource p j j.source))) []] ∧
      { t with plats := s.plats, out := s.out, cobLatest := s.cobLatest } = s) ∧
  (∀ (s : State) (p : Nat) (j : CobJob) (x : LastEntry), CobJobAt s p j x → j.header ≠ [] → j.signed = false →
    j.verified = false → j.checking = false → s.opOf 2 p = none →
    (s.headerChecks x (sourceEyelet x (s.lastSegment x) (s.cobSource p j j.source)) j.header = none →
      (s.cobVerify p).plats = s.plats ∧
      (∃ o, o ∈ (s.cobVerify p).point.ops ∧ o.owner = 2 ∧ o.ident = p ∧ o.steps = 167 ∧ o.total = 167) ∧
      (s.cobVerify p).point.ops.length = s.point.ops.length + 1) ∧
    (s.headerChecks x (sourceEyelet x (s.lastSegment x) (s.cobSource p j j.source)) j.header ≠ none →
      OtherPlats s (s.cobVerify p) p ∧
      ∀ k, ((s.cobVerify p).plat p).cob = some k → k.verified = false ∧ k.header = [])) ∧
  (∀ (s : State) (p : Nat) (j : CobJob) (x : LastEntry) (h tb : Bytes), CobJobAt s p j x → SourceOpen s p j x → j.header ≠ [] →
    j.signed = false → s.opDone 2 p = true →
    (s.signerChecks p j.header = none → ∃ t, exec (.cobblerSourceVerified p h tb false) s = .next t ∧ OtherPlats s t p ∧
      (t.plat p).cob = some { j with signed := true } ∧ { t with plats := s.plats, point := s.point } = s) ∧
    (s.signerChecks p j.header ≠ none → ∃ t, exec (.cobblerSourceVerified p h tb false) s = .next t ∧ OtherPlats s t p ∧
      ∀ k, (t.plat p).cob = some k → k.verified = false ∧ k.signed = false)) ∧
  (∀ (s : State) (p : Nat) (j : CobJob) (x : LastEntry) (h tb : Bytes), CobJobAt s p j x → SourceOpen s p j x → j.header ≠ [] →
    j.signed = true → j.resume = none → tb.length = 32 * hdrPages j.header → tb.length ≤ j.credit →
    (sm3 tb = hdrTable j.header →
      (s.pageRepair (16 * p + j.entry) j.header = false → epochMax ≤ s.epochCounter →
        ∃ t, exec (.cobblerSourceVerified p h tb false) s = .next t ∧ OtherPlats s t p ∧ (t.plat p).cob = none) ∧
      (s.pageRepair (16 * p + j.entry) j.header = true → s.againPages p j.entry ≠ [] →
        ∃ t, exec (.cobblerSourceVerified p h tb false) s = .next t ∧ OtherPlats s t p ∧ t.sole = s.sole ∧
          (t.plat p).cob = some { j with
            verified := true, table := tb, credit := 0, step := .read, reads := [],
            areaBack := [], whole := false, area := [], pages := s.againPages p j.entry }) ∧
      (s.pageRepair (16 * p + j.entry) j.header = false → s.epochCounter < epochMax →
        ∃ t, exec (.cobblerSourceVerified p h tb false) s = .next t ∧ OtherPlats s t p ∧
          (t.plat p).cob = some { j with
            left := if (s.tableFrame p (x.pd / 2) 0).isSome then ceilDiv tb.length 256 else 0, verified := true, table := tb,
            credit := 0, step := .read, reads := [], key := (Config.free s.fresh).setWidth 128,
            areaBack := [], whole := true, area := List.range (1 + ceilDiv (hdrPages j.header) 128),
            pages := List.range (hdrPages j.header) })) ∧
    (sm3 tb ≠ hdrTable j.header →
      ∃ t, exec (.cobblerSourceVerified p h tb false) s = .next t ∧ OtherPlats s t p ∧
        ∀ k, (t.plat p).cob = some k → k.verified = false)) ∧
  (∀ (s : State) (p : Nat) (j : CobJob) (x : LastEntry) (h tb : Bytes) (k : Nat) (ks : List Nat), CobJobAt s p j x →
    j.waiting = none → j.checking = true → j.pages = k :: ks → s.opDone 2 p = true →
    (s.signerChecks p j.backHeader = none → sm3 j.backTable = hdrTable j.backHeader →
      ∃ t, exec (.cobblerSourceVerified p h tb false) s = .next t ∧ OtherPlats s t p ∧
        (t.plat p).cob = some { j with checking := false, areaBack := [] }) ∧
    (s.signerChecks p j.backHeader ≠ none ∨ sm3 j.backTable ≠ hdrTable j.backHeader →
      ∃ t, exec (.cobblerSourceVerified p h tb false) s = .next t ∧ OtherPlats s t p ∧
        ∀ k, (t.plat p).cob = some k → k.verified = false ∧ k.checking = false)) ∧
  ∀ (s : State) (p : Nat) (b : Bundle) (x : LastEntry) (rest : List LastEntry), s.fw = true → s.drives = true →
    s.env.cleared = false → (s.plat p).state = .held → (s.plat p).cob = none → (s.plat p).act = none →
    (s.plat p).fill = none → (s.plat p).waitingLost = [] → (s.plat p).map = flagActive (s.flag p) → (s.plat p).writeback = some b →
    s.maskEntries p b.mask = x :: rest →
    ∃ t, exec (.writebackStart p) s = .next t ∧ OtherPlats s t p ∧
      (t.plat p).cob = some {
        entry := x.entry, more := rest.map (·.entry), source := 2, verified := true, whole := true,
        writeback := true, started := s.now, seq := s.cobSeq, area := List.range x.areaPages,
        pages := List.range (s.lastSegment x).pageCount } ∧
      { t with plats := s.plats, mem := s.mem, eyes := s.eyes, out := s.out, cobSeq := s.cobSeq } = s

/-- A source page whose SM3 is the wanted digest is read from the source's eyelet (opcode: log entry 42) and kept, with its SM3, and
the job goes to ERASE. COBBLER_ERASE sends write enable
and a 4 KiB erase of the target page, and COBBLER_PROGRAM, once the poll shows ready, write enable and the next of sixteen 256-byte
programs of the kept page; the sixteenth takes the job to CHECK. A CHECK whose digest agrees goes on with the next page. The first
CHECK that fails goes back to ERASE, the second posts the retirement of the target eyelet to the heel. Each command leaves the other
platforms as they are, and each new step but a program between two others is in the journal. -/
def Obligations.CobblerSteps : Prop :=
  (∀ (s : State) (p : Nat) (j : CobJob) (x : LastEntry) (k : Nat) (ks : List Nat) (d : Bytes), CobJobAt s p j x →
    s.cobTurnOf p x = true → j.verified = true → j.checking = false → j.step = .read → j.source < 2 → j.writeback = false →
    j.area = [] → j.left = 0 → j.pages = k :: ks → j.reads = [] → d.length = 4096 → 4096 ≤ j.credit → s.eyeBad (cobFrom s p j x) = false →
    s.eyeReady (cobFrom s p j x) = true → sm3 d = s.cobWant p x j k →
    ∃ t, exec (.cobblerRead p d false) s = .next t ∧ OtherPlats s t p ∧
      (t.plat p).cob = some { j with
        data := d, want := sm3 d, step := .erase, reads := [], programs := 0, retried := false,
        credit := j.credit - 4096 } ∧
      t.out = s.out ++ [.flash (cobFrom s p j x) (Config.flashReadOp (s.eyeRec (cobFrom s p j x)).mode)
        (some (4096 * ((sourceEyelet x (s.lastSegment x) (s.cobSource p j j.source)).2 + k))) []] ∧
      t.sole = s.sole ∧ t.latches = s.latches) ∧
  (∀ (s : State) (p : Nat) (j : CobJob) (x : LastEntry), CobJobAt s p j x → s.cobTurnOf p x = true → j.step = .erase →
    j.resume = none → x.mayWrite (s.cobPlace p j x).1 = true → s.eyeBusy (s.cobPlace p j x).1 = false → s.eyeBad (s.cobPlace p j x).1 = false →
    s.eyeReady (s.cobPlace p j x).1 = true →
    ∃ t, exec (.cobblerErase p) s = .next t ∧ OtherPlats s t p ∧
      t.out = s.out ++ [.flash (s.cobPlace p j x).1 0x06 none [],
        .flash (s.cobPlace p j x).1 0x21 (some ((s.cobPlace p j x).2 * 4096)) []] ∧
      (t.plat p).cob = some { j with step := .program, programs := 0, busySince := some s.now } ∧
      Journalled s t p { j with step := .program, programs := 0, busySince := some s.now } x ∧
      { t with plats := s.plats, mem := s.mem, out := s.out, cobLatest := s.cobLatest } = s) ∧
  (∀ (s : State) (p : Nat) (j : CobJob) (x : LastEntry), CobJobAt s p j x → s.cobTurnOf p x = true → j.step = .program →
    j.programs < 16 → s.eyeBusy (s.cobPlace p j x).1 = false → s.eyeBad (s.cobPlace p j x).1 = false →
    ∃ t, exec (.cobblerProgram p true) s = .next t ∧ OtherPlats s t p ∧
      t.out = s.out ++ [.flash (s.cobPlace p j x).1 (s.eyeRec (s.cobPlace p j x).1).statusOp none [],
        .flash (s.cobPlace p j x).1 0x06 none [],
        .flash (s.cobPlace p j x).1 0x12 (some ((s.cobPlace p j x).2 * 4096 + 256 * j.programs))
          (bytesAt j.data (256 * j.programs) 256)] ∧
      (t.plat p).cob = some { j with programs := j.programs + 1, busySince := some s.now
                                     step := if j.programs = 15 then .check else .program } ∧
      { t with plats := s.plats, mem := s.mem, out := s.out, cobLatest := s.cobLatest } = s) ∧
  ∀ (s : State) (p : Nat) (j : CobJob) (x : LastEntry) (k k' : Nat) (ks : List Nat) (d : Bytes), CobJobAt s p j x →
    s.cobTurnOf p x = true → j.step = .check → j.area = [] → j.pages = k :: k' :: ks →
    s.eyeBusy (s.cobPlace p j x).1 = false → s.eyeBad (s.cobPlace p j x).1 = false → 4096 ≤ j.credit → d.length = 4096 →
    (sm3 d = j.want → ∃ t, exec (.cobblerCheck p true d false) s = .next t ∧ OtherPlats s t p ∧
      (t.plat p).cob = some { j with credit := j.credit - 4096, busySince := none, pages := k' :: ks, step := .read }) ∧
    (sm3 d ≠ j.want → j.retried = false → ∃ t, exec (.cobblerCheck p true d false) s = .next t ∧ OtherPlats s t p ∧
      (t.plat p).cob = some { j with credit := j.credit - 4096, busySince := none, retried := true, step := .erase
                                     programs := 0 }) ∧
    (sm3 d ≠ j.want → j.retried = true → j.writeback = false → RingFree s →
      ∃ t, exec (.cobblerCheck p true d false) s = .next t ∧ OtherPlats s t p ∧ (t.plat p).cob = none ∧
        (t.plat p).noSource.testBit j.entry = true ∧
        Posts s t 0x08 (natBE 1 1 ++ natBE 4 (s.cobPlace p j x).1))

/-- A HOLD of a platform in the pattern is accepted for reason 1 with ADAPTER_HOLD, for reason 2 with RUNTIME_LOSS and a LOST page
of a released or running platform, and for reason 3 when the accepted pattern changes the platform, reasons 1 and 3 only while it is
not RETIRED; the hold waits for the next boundary. Without its evidence it is refused with HEEL_EVIDENCE_MISSING, where the pattern's
field or the custody state stands against it with PHASE_REFUSED, and with an argument out of range with HEEL_REQUEST_BAD.
RETIRE_PLATFORM is accepted for reason 1 with ADAPTER_HOLD and for reason 2 when every welt of the platform is retired, the
retirements taken before it counted; RETIRE for a
frame whose page has a permanent record, and for an eyelet, a welt or a lace port whose fault record is permanent; but of a welt whose
partner is fit it makes the fatal fault of cause 5 instead (R621). Their refusals follow the same rows. A refusal changes nothing but
the ring. -/
def Obligations.HeelHoldsAndRetires : Prop :=
  (∀ (s : State) (e : RingEntry), AtHead s 0x01 2 e →
    (s.platArg (argPlat e) = true →
      (argTwo e = 1 →
        ((s.platRec (argPlat e)).adapterHold = true → (s.ahead (argPlat e)).1 ≠ .retired →
          Accepts s .heelHold (.hold (argPlat e) .held 12)) ∧
        ((s.platRec (argPlat e)).adapterHold = false ∨ (s.ahead (argPlat e)).1 = .retired → Refuses s .heelHold Code.phaseRefused)) ∧
      (argTwo e = 2 →
        (s.hasLost (argPlat e) = false → Refuses s .heelHold Code.heelEvidenceMissing) ∧
        (s.hasLost (argPlat e) = true → (s.platRec (argPlat e)).runtimeLossHold = true →
          (s.ahead (argPlat e)).1 = .released ∨ (s.ahead (argPlat e)).1 = .running →
          Accepts s .heelHold (.hold (argPlat e) .recovering 9)) ∧
        (s.hasLost (argPlat e) = true → (s.platRec (argPlat e)).runtimeLossHold = false ∨
          ((s.ahead (argPlat e)).1 ≠ .released ∧ (s.ahead (argPlat e)).1 ≠ .running) → Refuses s .heelHold Code.phaseRefused)) ∧
      (argTwo e = 3 →
        (argPlat e ∉ s.changedPlats → Refuses s .heelHold Code.heelEvidenceMissing) ∧
        (argPlat e ∈ s.changedPlats → (s.ahead (argPlat e)).1 ≠ .retired → Accepts s .heelHold (.hold (argPlat e) .held 13)) ∧
        (argPlat e ∈ s.changedPlats → (s.ahead (argPlat e)).1 = .retired → Refuses s .heelHold Code.phaseRefused))) ∧
    (s.platArg (argPlat e) = false ∨ argTwo e = 0 ∨ 3 < argTwo e → Refuses s .heelHold Code.heelRequestBad)) ∧
  (∀ (s : State) (e : RingEntry), AtHead s 0x02 2 e →
    (s.platArg (argPlat e) = true →
      (argTwo e = 1 → (s.platRec (argPlat e)).adapterHold = true → Accepts s .retirePlatform (.hold (argPlat e) .retired 12)) ∧
      (argTwo e = 1 → (s.platRec (argPlat e)).adapterHold = false → Refuses s .retirePlatform Code.phaseRefused) ∧
      (argTwo e = 2 → (∀ n ∈ (s.platRec (argPlat e)).welts, (s.welt n).retired = true ∨ .retireWelt n ∈ s.deferred) →
        Accepts s .retirePlatform (.hold (argPlat e) .retired 14)) ∧
      (∀ n ∈ (s.platRec (argPlat e)).welts, argTwo e = 2 → (s.welt n).retired = false → .retireWelt n ∉ s.deferred →
        Refuses s .retirePlatform Code.heelEvidenceMissing)) ∧
    (s.platArg (argPlat e) = false ∨ argTwo e = 0 ∨ 2 < argTwo e → Refuses s .retirePlatform Code.heelRequestBad)) ∧
  ∀ (s : State) (e : RingEntry), AtHead s 0x08 5 e →
    (argPlat e = 0 → argNum e / 2 ^ 29 < s.chanCount → argNum e % 2 ^ 29 < 704512 →
      (∀ m, s.badFrame (argNum e) = some m → Accepts s .retire (.retireFrame m)) ∧
      (s.badFrame (argNum e) = none → Refuses s .retire Code.heelEvidenceMissing)) ∧
    (argPlat e = 1 → s.eyeRec? (argNum e) ≠ none →
      ((s.fault 0 (argNum e)).permanent = true → Accepts s .retire (.retireEyelet (argNum e))) ∧
      ((s.fault 0 (argNum e)).permanent = false → Refuses s .retire Code.heelEvidenceMissing)) ∧
    (argPlat e = 2 → s.weltBound (argNum e) = true →
      ((s.fault 1 (argNum e)).permanent = true → s.fitPartner = false → Accepts s .retire (.retireWelt (argNum e))) ∧
      ((s.fault 1 (argNum e)).permanent = true → s.fitPartner = true →
        exec .retire s = .next ({ s with heel := answered s true Code.ok (s.now + 1) }.fatalNow 5)) ∧
      ((s.fault 1 (argNum e)).permanent = false → Refuses s .retire Code.heelEvidenceMissing)) ∧
    (argPlat e = 3 → argNum e < 4 →
      ((s.fault 3 (argNum e)).permanent = true → Accepts s .retire (.retirePort (argNum e))) ∧
      ((s.fault 3 (argNum e)).permanent = false → Refuses s .retire Code.heelEvidenceMissing)) ∧
    (3 < argPlat e ∨ (argPlat e = 0 ∧ (s.chanCount ≤ argNum e / 2 ^ 29 ∨ 704512 ≤ argNum e % 2 ^ 29)) ∨
      (argPlat e = 1 ∧ s.eyeRec? (argNum e) = none) ∨ (argPlat e = 2 ∧ s.weltBound (argNum e) = false) ∨ (argPlat e = 3 ∧ 4 ≤ argNum e) → Refuses s .retire Code.heelRequestBad)

/-- Each of the four completes: under the conditions given here exec answers a next state in which the entry is accepted and its
effect waits for the next boundary, and the last four clauses say what that boundary makes of the platform: its new phase, MAP equal
to ACTIVE of the journal flag, the EXCLUDED bit, a fill job that reads the entry. PHASE takes a running platform from BOOT to RUNTIME when an event bit is set, from RUNTIME to UPDATE when UPDATE_EN allows and
the lease is free or the host's under the entry's number, and from UPDATE to RUNTIME always. Without the event it is refused with HEEL_EVIDENCE_MISSING;
without UPDATE_EN or a lease for the host, and for a platform or a phase that no row takes there, with PHASE_REFUSED. SLOT_MAP is
accepted while the hold is asserted as the changes that wait will leave it, and otherwise refused with PHASE_REFUSED. EXCLUDE of an entry of the platform is
accepted under R280: evidence of a failure, and of the cobbler's where COBBLER_EN is 1, else HEEL_EVIDENCE_MISSING; RUN_DEGRADED and
membership of the boot set, else PHASE_REFUSED. FILL_RUNNING of a VERIFIED, RELEASED or RUNNING platform is accepted when the entry's mirror pages are EMPTY, refused
with HEEL_EVIDENCE_MISSING when they are not, and with PHASE_REFUSED in another state (log entry 84, the model's choice). An argument
out of range is HEEL_REQUEST_BAD. A refusal changes nothing but the ring, and the lease of the UPDATE_OPEN that the entry carries out. -/
def Obligations.HeelCustodyRequests : Prop :=
  (∀ (s : State) (e : RingEntry), AtHead s 0x03 2 e →
    (s.platArg (argPlat e) = true →
      (s.ahead (argPlat e) = (.running, .boot) → argTwo e = 2 →
        ((s.plat (argPlat e)).eventSeen = true →
          Accepts s .phase (.phase (argPlat e) .runtime (s.plat (argPlat e)).runtimeCause)) ∧
        ((s.plat (argPlat e)).eventSeen = false → Refuses s .phase Code.heelEvidenceMissing)) ∧
      (s.ahead (argPlat e) = (.running, .runtime) → argTwo e = 3 →
        ((s.platRec (argPlat e)).updateEn = true → leaseOpen s (argPlat e) e = true →
          Accepts s .phase (.phase (argPlat e) .update 12)) ∧
        ((s.platRec (argPlat e)).updateEn = false ∨ leaseOpen s (argPlat e) e = false → Refuses s .phase Code.phaseRefused)) ∧
      (s.ahead (argPlat e) = (.running, .update) → argTwo e = 2 →
        Accepts s .phase (.phase (argPlat e) .runtime 17)) ∧
      (phaseRow (s.ahead (argPlat e)).1 (s.ahead (argPlat e)).2 (argTwo e) = false → 1 ≤ argTwo e → argTwo e ≤ 3 →
        Refuses s .phase Code.phaseRefused)) ∧
    (s.platArg (argPlat e) = false ∨ argTwo e = 0 ∨ 3 < argTwo e → Refuses s .phase Code.heelRequestBad)) ∧
  (∀ (s : State) (e : RingEntry) (n : Nat), AtHeadAny s 0x03 2 e → e.lease = n → n ≠ 0 →
    s.platArg (argPlat e) = true → s.ahead (argPlat e) = (.running, .runtime) → argTwo e = 3 →
    ((s.platRec (argPlat e)).updateEn = true → leaseOpen s (argPlat e) e = true →
      Accepts s .phase (.phase (argPlat e) .update 12)) ∧
    ((s.platRec (argPlat e)).updateEn = false →
      exec .phase s = .next (({ s with heel := answered s false Code.phaseRefused 0 } : State).leaseRefused (argPlat e) n))) ∧
  (∀ (s : State) (e : RingEntry), AtHead s 0x04 1 e →
    (s.platArg (argPlat e) = true →
      (s.holdAhead (argPlat e) = true → Accepts s .slotMap (.slotMap (argPlat e))) ∧
      (s.holdAhead (argPlat e) = false → Refuses s .slotMap Code.phaseRefused)) ∧
    (s.platArg (argPlat e) = false → Refuses s .slotMap Code.heelRequestBad)) ∧
  (∀ (s : State) (e : RingEntry), AtHead s 0x05 2 e →
    (s.platArg (argPlat e) = true → (s.platRec (argPlat e)).lasts.any (fun x => x.entry = argTwo e) = true →
      (s.entryFailed (argPlat e) (argTwo e) = false ∨
        ((s.platRec (argPlat e)).cobblerEn = true ∧ (s.plat (argPlat e)).noSource.testBit (argTwo e) = false) →
        Refuses s .exclude Code.heelEvidenceMissing) ∧
      (s.entryFailed (argPlat e) (argTwo e) = true →
        (s.platRec (argPlat e)).cobblerEn = false ∨ (s.plat (argPlat e)).noSource.testBit (argTwo e) = true →
        ((s.platRec (argPlat e)).runDegraded = true → (s.bootSet (argPlat e)).any (fun x => x.entry = argTwo e) = true →
          Accepts s .exclude (.exclude (argPlat e) (argTwo e))) ∧
        ((s.platRec (argPlat e)).runDegraded = false ∨ (s.bootSet (argPlat e)).any (fun x => x.entry = argTwo e) = false →
          Refuses s .exclude Code.phaseRefused))) ∧
    (s.platArg (argPlat e) = false ∨ (s.platRec (argPlat e)).lasts.any (fun x => x.entry = argTwo e) = false →
      Refuses s .exclude Code.heelRequestBad)) ∧
  (∀ (s : State) (e : RingEntry), AtHead s 0x06 2 e →
    (∀ x, s.platArg (argPlat e) = true → (s.platRec (argPlat e)).lasts.find? (fun y => y.entry = argTwo e) = some x →
      (s.entryEmpty x = true → (s.ahead (argPlat e)).1 ∈ [.verified, .released, .running] →
        Accepts s .fillRunning (.fillRunning (argPlat e) (argTwo e))) ∧
      (s.entryEmpty x = true → (s.ahead (argPlat e)).1 ∉ [.verified, .released, .running] →
        Refuses s .fillRunning Code.phaseRefused) ∧
      (s.entryEmpty x = false → Refuses s .fillRunning Code.heelEvidenceMissing)) ∧
    (s.platArg (argPlat e) = false ∨ (s.platRec (argPlat e)).lasts.find? (fun y => y.entry = argTwo e) = none →
      Refuses s .fillRunning Code.heelRequestBad)) ∧
  (∀ (s : State) (all : List Deferred) (p c : Nat) (ph : Phase), (s.plat p).hold = false →
    ((s.applyDeferred all (.phase p ph c)).plat p).phase = ph ∧
    ((s.applyDeferred all (.phase p ph c)).plat p).state = (s.plat p).state ∧ OtherPlats s (s.applyDeferred all (.phase p ph c)) p) ∧
  (∀ (s : State) (all : List Deferred) (p : Nat), (s.plat p).hold = true →
    (s.applyDeferred all (.slotMap p)).plat p = { s.plat p with map := flagActive (s.flag p) } ∧
    OtherPlats s (s.applyDeferred all (.slotMap p)) p) ∧
  (∀ (s : State) (all : List Deferred) (p e : Nat),
    (s.applyDeferred all (.exclude p e)).plat p = { s.plat p with excluded := (s.plat p).excluded ||| (1 <<< e) } ∧
    OtherPlats s (s.applyDeferred all (.exclude p e)) p) ∧
  ∀ (s : State) (all : List Deferred) (p e : Nat), (s.latch (16 * p + e)).tableRead = false → (s.plat p).fill = none →
    (s.applyDeferred all (.fillRunning p e)).plat p = { s.plat p with fill := some { todo := [e], onRunning := true } } ∧
    OtherPlats s (s.applyDeferred all (.fillRunning p e)) p

/-- MGMT_RESET is always accepted, DEVICE_RESET only where the heel grants it and otherwise refused with PHASE_REFUSED; both resets
wait for the next boundary. TABLE_SWITCH without an accepted pattern is refused with HEEL_EVIDENCE_MISSING; with one it is accepted,
SWITCH_PENDING is set, and the switch waits for the boundary, or, while requests the ledger admitted are outstanding, for
SCHEDULE_SWITCH; while one is asked for already it is refused with BUSY. Firmware on trial posts TRIAL_CONFIRM before its deadline,
once the committed settings are parsed or none are committed, a pattern is accepted or NO_PATTERN is set, and the self-test has ended
(whether a generation parses is an open value, log entry 86). TRIAL_CONFIRM in a trial before its deadline commits the trial slot and
clears TRIAL and the deadline in the stitch taken; outside a trial and from the deadline on it is refused with
HEEL_EVIDENCE_MISSING. -/
def Obligations.HeelResetsAndSwitch : Prop :=
  (∀ (s : State) (e : RingEntry), AtHead s 0x09 0 e → Accepts s .mgmtReset (.mgmtReset 2)) ∧
  (∀ (s : State) (e : RingEntry), AtHead s 0x0A 0 e →
    (s.mayDeviceReset = true → Accepts s .deviceReset .deviceReset) ∧
    (s.mayDeviceReset = false → Refuses s .deviceReset Code.phaseRefused)) ∧
  (∀ (s : State) (e : RingEntry), AtHead s 0x07 0 e →
    (s.patNext = none ∨ s.click.checkFailed = true ∨ s.stitch.checkFailed = true →
      Refuses s .tableSwitch Code.heelEvidenceMissing) ∧
    (s.patNext ≠ none → s.click.checkFailed = false → s.stitch.checkFailed = false → s.heel.switchAsked ≠ none →
      Refuses s .tableSwitch Code.busy) ∧
    (s.patNext ≠ none → s.click.checkFailed = false → s.stitch.checkFailed = false → s.heel.switchAsked = none →
      ∃ t, exec .tableSwitch s = .next t ∧ t.heel.switchAsked = some (((s.heel.head + 1) % 64 + 63) % 64) ∧
        t.click.switchPending = true ∧ t.stitch.switchPending = true ∧
        t.deferred = s.deferred ++ (if s.ledgerBusy = true then [] else [.tableSwitch]) ∧ t.pat = s.pat ∧ t.patNext = s.patNext ∧
        { t with heel := s.heel, click := s.click, stitch := s.stitch, deferred := s.deferred } = s)) ∧
  (∀ (s : State), s.live = true → s.heel.switchAsked ≠ none → s.ledgerBusy = false → .tableSwitch ∉ s.deferred →
    exec .scheduleSwitch s = .next { s with deferred := s.deferred ++ [.tableSwitch] }) ∧
  (∀ (s : State) (d : Nat), RingFree s → s.trial = true → s.boot.deadline = some d → s.now < d → s.settingsParsed = true →
    (s.pat ≠ none ∨ s.boot.noPattern = true) → s.selfTested = true → s.asked (fun e => e.req = 0x0B) = false →
    Posts s s.confirmStep 0x0B []) ∧
  ∀ (s : State) (e : RingEntry) (d : Nat), AtHead s 0x0B 0 e → s.boot.deadline = some d →
    (s.trial = true → s.now < d →
      ∃ t, exec .trialConfirm s = .next t ∧ t.heel = answered s true Code.ok s.now ∧ t.trial = false ∧
        bitsOf t.bootState 0 0 = trialSlot s.bootState ∧ t.boot.deadline = none ∧
        { t with heel := s.heel, mem := s.mem, boot := s.boot } = s) ∧
    (s.trial = false ∨ d ≤ s.now → Refuses s .trialConfirm Code.heelEvidenceMissing)

/-- Judged against the state as it will stand after the entries taken before: SETTINGS_COMMIT is accepted for an area that passes
R464 and otherwise refused with SETTINGS_REJECTED; STAGED_READY CLEAR always, and SET only with a whole, closed FIRMWARE lease;
PATTERN_FLAG when GEN is the old GEN + 1, ACTIVE changes only with FLOOR_PENDING and SET stays; COPY_JOURNAL advance when NEXT is the
old NEXT + 1 of an open copy, close of an open copy, and open refused with BUSY while one is open; PATTERN_PARAMS when the values are
those of the accepted pattern, within R483 and not below MIN_TAMPER, to take effect at the table switch; QUIESCE under R490, a second one before
its boundary being BUSY. Without
their evidence they are refused with HEEL_EVIDENCE_MISSING. Carried out at the boundary, PATTERN_FLAG writes the flag word and, outside
a trial, SETTINGS_COMMIT the area number. -/
def Obligations.HeelFirmwareRequests : Prop :=
  (∀ (s : State) (e : RingEntry), AtHead s 0x0C 1 e →
    (1 ≤ fieldAt e.args 0 1 → fieldAt e.args 0 1 ≤ 3 → s.aheadWork.settingsOk (fieldAt e.args 0 1) = true →
      Accepts s .settingsCommit (.heelWork 0x0C e.args)) ∧
    (1 ≤ fieldAt e.args 0 1 → fieldAt e.args 0 1 ≤ 3 → s.aheadWork.settingsOk (fieldAt e.args 0 1) = false →
      Refuses s .settingsCommit Code.settingsRejected)) ∧
  (∀ (s : State) (e : RingEntry), AtHead s 0x0D 1 e →
    (fieldAt e.args 0 1 = 0 → Accepts s .stagedReady (.heelWork 0x0D e.args)) ∧
    (fieldAt e.args 0 1 = 1 → (∃ l, s.aheadWork.boot.fw = some l ∧ l.closing ≠ none ∧ l.length ≤ l.next) →
      Accepts s .stagedReady (.heelWork 0x0D e.args)) ∧
    (fieldAt e.args 0 1 = 1 → (∀ l, s.aheadWork.boot.fw = some l → l.closing = none ∨ l.next < l.length) →
      Refuses s .stagedReady Code.heelEvidenceMissing)) ∧
  (∀ (s : State) (e : RingEntry), AtHead s 0x0E 4 e → bitsOf (fieldAt e.args 0 4) 15 3 = 0 →
    (bitsOf (fieldAt e.args 0 4) 31 16 = (bitsOf s.aheadWork.patFlag 31 16 + 1) % 65536 →
      ((fieldAt e.args 0 4).testBit 0 ≠ s.aheadWork.patFlag.testBit 0 → (fieldAt e.args 0 4).testBit 1 = true) →
      (s.aheadWork.patFlag.testBit 2 = true → (fieldAt e.args 0 4).testBit 2 = true) →
      Accepts s .patternFlag (.heelWork 0x0E e.args)) ∧
    (bitsOf (fieldAt e.args 0 4) 31 16 ≠ (bitsOf s.aheadWork.patFlag 31 16 + 1) % 65536 ∨
      ((fieldAt e.args 0 4).testBit 0 ≠ s.aheadWork.patFlag.testBit 0 ∧ (fieldAt e.args 0 4).testBit 1 = false) ∨
      (s.aheadWork.patFlag.testBit 2 = true ∧ (fieldAt e.args 0 4).testBit 2 = false) →
      Refuses s .patternFlag Code.heelEvidenceMissing)) ∧
  (∀ (s : State) (e : RingEntry), AtHead s 0x0F 16 e → fieldAt e.args 6 2 = 0 →
    (fieldAt e.args 0 1 = 0 → 2 ≤ fieldAt e.args 1 1 → fieldAt e.args 1 1 ≤ 4 → 1 ≤ fieldAt e.args 2 2 → fieldAt e.args 2 2 ≤ 128 →
      (s.aheadWork.copyOpen = false → Accepts s .copyJournal (.heelWork 0x0F e.args)) ∧
      (s.aheadWork.copyOpen = true → Refuses s .copyJournal Code.busy)) ∧
    (fieldAt e.args 0 1 = 1 → s.aheadWork.copyOpen = true → 2 ≤ s.aheadWork.copyTarget →
      (fieldAt e.args 4 2 = s.aheadWork.copyNext + 1 → Accepts s .copyJournal (.heelWork 0x0F e.args)) ∧
      (fieldAt e.args 4 2 ≠ s.aheadWork.copyNext + 1 → Refuses s .copyJournal Code.heelEvidenceMissing)) ∧
    (fieldAt e.args 0 1 = 2 → s.aheadWork.copyOpen = true → 2 ≤ s.aheadWork.copyTarget →
      Accepts s .copyJournal (.heelWork 0x0F e.args)) ∧
    (fieldAt e.args 0 1 = 1 ∨ fieldAt e.args 0 1 = 2 → s.aheadWork.copyOpen = false →
      Refuses s .copyJournal Code.heelEvidenceMissing) ∧
    (2 < fieldAt e.args 0 1 → Refuses s .copyJournal Code.heelRequestBad)) ∧
  (∀ (s : State) (e : RingEntry), AtHead s 0x11 14 e → s.patNext = none → fieldAt e.args 4 1 ∈ [0, 1, 3] →
    fieldAt e.args 5 1 ≤ 1 → Refuses s .patternParams Code.heelEvidenceMissing) ∧
  (∀ (s : State) (e : RingEntry) (g : Pattern), AtHead s 0x11 14 e → s.patNext = some g →
    fieldAt e.args 0 4 = g.device.heelPeriod → fieldAt e.args 4 1 = g.device.tamperLevel →
    fieldAt e.args 5 1 = b2n g.device.freezePermit →
    fieldAt e.args 6 8 = maskOf ((g.plats.filter (fun x => x.2.runBlind)).map Prod.fst) → fieldAt e.args 4 1 ∈ [0, 1, 3] →
    (1000 ≤ fieldAt e.args 0 4 → fieldAt e.args 0 4 ≤ s.periodMax → s.minTamper.code ≤ fieldAt e.args 4 1 →
      exec .patternParams s = .next { s with heel := { answered s true Code.ok (s.now + 1) with params := some {
        period := fieldAt e.args 0 4, level := fieldAt e.args 4 1, freezePermit := g.device.freezePermit
        runBlind := fieldAt e.args 6 8, entry := ((s.heel.head + 1) % 64 + 63) % 64 } } }) ∧
    (fieldAt e.args 0 4 < 1000 ∨ s.periodMax < fieldAt e.args 0 4 ∨ fieldAt e.args 4 1 < s.minTamper.code →
      Refuses s .patternParams Code.phaseRefused)) ∧
  (∀ (s : State) (e : RingEntry), AtHead s 0x13 8 e → fieldAt e.args 0 1 ≤ 1 → fieldAt e.args 1 3 = 0 →
    (s.quiesceOk (decide (fieldAt e.args 0 1 = 1)) (fieldAt e.args 4 4) = none → s.quiesceDue = true → Refuses s .quiesce Code.busy) ∧
    (s.quiesceOk (decide (fieldAt e.args 0 1 = 1)) (fieldAt e.args 4 4) = none → s.quiesceDue = false →
      Accepts s .quiesce (.quiesce (decide (fieldAt e.args 0 1 = 0)) (fieldAt e.args 4 4))) ∧
    (∀ c, s.quiesceOk (decide (fieldAt e.args 0 1 = 1)) (fieldAt e.args 4 4) = some c → Refuses s .quiesce c)) ∧
  (∀ (s : State) (a : Bytes), (s.heelWorkNow 0x0E a).patFlag = fieldAt a 0 4 % 2 ^ 32) ∧
  ∀ (s : State) (a : Bytes), s.trial = false → setCommitted (s.heelWorkNow 0x0C a).bootState = fieldAt a 0 1 % 4

/-- A core's write of (TAIL + 1) mod 64 posts the entry at TAIL, stamped with the core's CORE_ID, unless that would make TAIL equal
HEAD: then it is ignored and counted in FULL. Any other value is ignored. From a TAIL write until the heel has answered the entry, a
core's write to a word of the entry is ignored; before, a word write stores there. Nothing else of the ring changes. -/
def Obligations.HeelRing : Prop :=
  (∀ (s : State) (core : Nat) (v : Word), s.live = true → v.toNat = (s.heel.tail + 1) % 64 →
    v.toNat ≠ s.heel.head →
    exec (.heelRingTailWrite core v) s = .next { s with heel := {
      s.heel with
      ring := tmod {} s.heel.ring s.heel.tail (fun e => { e with core := core })
      tail := (s.heel.tail + 1) % 64 } }) ∧
  (∀ (s : State) (core : Nat) (v : Word), s.live = true → v.toNat = (s.heel.tail + 1) % 64 → v.toNat = s.heel.head →
    exec (.heelRingTailWrite core v) s = .next { s with heel := { s.heel with full := satInc 0xFFFF s.heel.full } }) ∧
  (∀ (s : State) (core : Nat) (v : Word), v.toNat ≠ (s.heel.tail + 1) % 64 →
    exec (.heelRingTailWrite core v) s = .next s) ∧
  ∀ (s : State) (core i k : Nat) (v : Word), i < 64 → k < 8 → core < 4 → s.fw = true →
    (s.ringPosted i = true → exec (.registerWrite core (BitVec.ofNat 32 (0x200E1000 + 32 * i + 4 * k)) ⟨v, 4⟩) s = .next s) ∧
    (s.ringPosted i = false → exec (.registerWrite core (BitVec.ofNat 32 (0x200E1000 + 32 * i + 4 * k)) ⟨v, 4⟩) s =
      .next { s with heel := { s.heel with ring := tmod {} s.heel.ring i (fun e => e.put k v.toNat) } })

/-- The complement of the challenge written within the window, the first write of the stitch, is accepted. A value that is not the
complement is HEEL_SERVICE_BAD; one before the window, or a second in the stitch, HEEL_SERVICE_EARLY; the end of the period without
an accepted service HEEL_TIMER_EXPIRED, which the end of the stitch itself makes where no command has. A write past offset P - 1 does
nothing. Each is an expiry, counted once in its stitch, whose action waits for the boundary after it, or for the end of a fuse
command (R494): before the first hand-over it resets the
device, as a first expiry it resets the management cores, which arms the second from the stitch of the expiry, and within 10 × P stitches
of the first it releases the shank and resets the device. ARMED_SECOND clears past 10 × P. -/
def Obligations.HeelTimer : Prop :=
  (∀ (s : State) (core : Nat) (v : Word), s.live = true → s.heel.expired = none → v = ~~~ s.heel.chal →
    s.heel.serviced = false → s.windowOpen = true →
    exec (.heelTimerSvcWrite core v) s = .next { s with heel := { s.heel with serviced := true } }) ∧
  (∀ (s : State) (core : Nat) (v : Word), s.live = true → s.heel.expired = none → s.heel.began ≤ s.now →
    (v ≠ ~~~ s.heel.chal → exec (.heelTimerSvcWrite core v) s = .next (s.heelExpiry Code.heelServiceBad)) ∧
    (v = ~~~ s.heel.chal → s.heel.serviced = true ∨ s.heelOffset < s.heelOpen →
      exec (.heelTimerSvcWrite core v) s = .next (s.heelExpiry Code.heelServiceEarly)) ∧
    (v = ~~~ s.heel.chal → s.heel.serviced = false → s.heel.period ≤ s.heelOffset → s.heelOpen ≤ s.heelOffset →
      exec (.heelTimerSvcWrite core v) s = .next s)) ∧
  (∀ (s : State), s.live = true → s.heel.expired = none → s.heel.serviced = false → s.heel.began ≤ s.now →
    s.heelOffset + 1 = s.heel.period →
    exec .heelTimerExpiry s = .next (s.heelExpiry Code.heelTimerExpired) ∧ s.heelEnd = s.heelExpiry Code.heelTimerExpired) ∧
  (∀ (s : State) (c : Nat), s.heel.handedOver = false → s.fuse.job = none →
    (s.heelExpiry c).deferred = s.deferred ++ [.deviceReset] ∧ (s.heelExpiry c).heel.expired = some c) ∧
  (∀ (s : State) (c : Nat), s.fuse.job ≠ none → s.heel.owed = none →
    (s.heelExpiry c).deferred = s.deferred ∧ (s.heelExpiry c).heel.owed = some s.expiryAction ∧
    (s.heelExpiry c).heel.expired = some c) ∧
  (∀ (s : State), (s.mgmtResetNow 1).heel.armed = some s.heel.expiredAt) ∧
  (∀ (s : State) (c : Nat), s.heel.handedOver = true → s.fuse.job = none →
    (s.heel.armed = none ∨ (∃ f, s.heel.armed = some f ∧ f + 10 * s.heel.period < s.now) →
      (s.heelExpiry c).deferred = s.deferred ++ [.mgmtReset 1] ∧ (s.heelExpiry c).heel.armed = s.heel.armed ∧
      (s.heelExpiry c).heel.expiredAt = s.now) ∧
    (∀ f, s.heel.armed = some f → s.now ≤ f + 10 * s.heel.period →
      (s.heelExpiry c).deferred = s.deferred ++ [.shankRelease true, .deviceReset])) ∧
  (∀ (s : State) (c : Nat), (s.heelExpiry c).plats = s.plats ∧ (s.heelExpiry c).stitch = s.stitch ∧ (s.heelExpiry c).pat = s.pat ∧
    (s.heelExpiry c).heel.expiries = satInc 255 s.heel.expiries) ∧
  ∀ (s : State) (f : Nat), s.live = true → s.heel.armed = some f → f + 10 * s.heel.period < s.now →
    exec .armedSecondClear s = .next { s with heel := { s.heel with armed := none } }

/-- MANAGEMENT_RESET leaves a management reset with cause 3 to the next boundary. There the cores stop: MGMT_UP is 0, the count and
the cause of SYS_MGMT are written, sessions and digest contexts are gone, fills stop once what they have in progress is judged, activations end, and without a pending
switch the loading tables are discarded. Holds, custody states, phases, latch records, the sole, the tables in force, the
emulated registers and the mailbox pages stay. WARM_HAND_OVER, once the running slot's image passes, sets MGMT_UP again and records the reset; an image
that fails makes the ROM ask the heel for a device reset. -/
def Obligations.ManagementReset : Prop :=
  (∀ (s : State), s.live = true → s.boot.stage = .running →
    exec .managementReset s = .next { s with deferred := s.deferred ++ [.mgmtReset 3] }) ∧
  (∀ (s : State) (c : Nat), (s.mgmtResetNow c).sys.mgmtUp = false ∧ (s.mgmtResetNow c).sys.lastCause = c ∧
    (s.mgmtResetNow c).sys.mgmtResets = satInc 255 s.sys.mgmtResets ∧ (s.mgmtResetNow c).dgst.ctxs = [] ∧ (s.mgmtResetNow c).vamp.sessions = [] ∧
    (s.mgmtResetNow c).latches = s.latches ∧ (s.mgmtResetNow c).sole = s.sole ∧ (s.mgmtResetNow c).pds = s.pds ∧
    (s.mgmtResetNow c).pat = s.pat ∧ (s.mgmtResetNow c).stitch.active = s.stitch.active ∧
    (s.mgmtResetNow c).click.dirA = s.click.dirA ∧ (s.mgmtResetNow c).click.mapA = s.click.mapA ∧
    (s.mgmtResetNow c).click.winA = s.click.winA ∧ (s.mgmtResetNow c).eyes = s.eyes ∧ (s.mgmtResetNow c).welts = s.welts) ∧
  (∀ (s : State) (c p : Nat),
    (s.mgmtResetNow c).plat p = ({ s.plat p with refills := [] } : PlatSt).onReset (s.fillInProgress p)) ∧
  (∀ (x : PlatSt) (b : Bool), (x.onReset b).hold = x.hold ∧ (x.onReset b).state = x.state ∧ (x.onReset b).phase = x.phase ∧
    (x.onReset b).measure = x.measure ∧ (x.onReset b).excluded = x.excluded ∧ (x.onReset b).map = x.map ∧
    (x.onReset b).act = none ∧ ∀ f, (x.onReset b).fill = some f → f.stopped = true ∧ f.finishing = b) ∧
  (∀ (s : State) (c : Nat), s.heel.switchAsked = none → (s.mgmtResetNow c).patNext = none ∧
    (s.mgmtResetNow c).click.winL = [] ∧ (s.mgmtResetNow c).click.dirL = [] ∧ (s.mgmtResetNow c).click.mapL = [] ∧
    (s.mgmtResetNow c).stitch.loading = {}) ∧
  (∀ (s : State) (t0 : Nat), s.live = true → s.boot.stage = .warm → s.sys.resetOwed = some t0 →
    s.imageFails (fwSlotBase s.boot.slot) = none → s.log.fifo.length < 4096 →
    ∃ t, exec .warmHandOver s = .next t ∧ t.sys.mgmtUp = true ∧ t.boot.stage = .running ∧ t.boot.warm = true ∧
      t.sys.resetOwed = none ∧ (∀ p, (t.plat p).hold = (s.plat p).hold ∧ (t.plat p).state = (s.plat p).state) ∧
      (t.log.fifo.map (·.bytes)) = (s.log.fifo.map (·.bytes)) ++
        [mkRecord 0x0E .device Code.ok 0 (natBE 1 s.sys.lastCause ++ natBE 8 s.now) t0]) ∧
  ∀ (s : State) (c : Nat), s.live = true → s.boot.stage = .warm → s.imageFails (fwSlotBase s.boot.slot) = some c →
    s.heel.ring = [] → s.ringRoom = true → ∃ t, exec .warmHandOver s = .next t ∧ Posts s t 0x0A [] ∧ t.sys = s.sys ∧ t.boot = s.boot

/-- After COLD_POWER_ON every platform is HELD, no pattern is in force, the sole, its epoch keys and the latch records are empty,
the stitch counter is 0, MGMT_UP is 0 and the start-up period of the heel timer is in force; the fuses and the key store stay. A
device reset does the same but for the stitch counter and the RELEASES counts, which go on. DEV_RST completes: exec answers a next state
that leaves the reset to the boundaries. At the first an unpaired unit stops driving, a paired one lets the shank go, and the reset
waits for the second, where the device is as after a device reset; a boundary of a frozen unit carries it out in the same way. In a
quiescent mode it waits for the wake. -/
def Obligations.DeviceStarts : Prop :=
  (∀ (s : State) (x : Straps), ∃ t, exec (.coldPowerOn x) s = .next t ∧ (∀ p, StartHeld t p ∧ (t.plat p).releases = 0) ∧
    t.pat = none ∧ t.sole.raw = [] ∧ t.sole.epochKey = [] ∧ t.latches = [] ∧ t.stitch.count = 0 ∧ t.sys.mgmtUp = false ∧
    t.heel.startup = true ∧ t.heel.period = 1000000 ∧ (s.fuse.job = none → t.fuse.otp = s.fuse.otp) ∧ t.keys.store = s.keys.store ∧
    t.pending = s.pending) ∧
  (∀ (s : State), (∀ p, StartHeld s.deviceResetNow p ∧ (s.deviceResetNow.plat p).releases = (s.plat p).releases) ∧
    s.deviceResetNow.heel.period = 1000000 ∧ s.deviceResetNow.pat = none ∧ s.deviceResetNow.sole.raw = [] ∧
    s.deviceResetNow.sole.epochKey = [] ∧ s.deviceResetNow.latches = [] ∧ s.deviceResetNow.stitch.count = s.stitch.count ∧
    s.deviceResetNow.sys.mgmtUp = false ∧ s.deviceResetNow.heel.startup = true ∧
    (s.fuse.job = none → s.deviceResetNow.fuse.otp = s.fuse.otp) ∧ s.deviceResetNow.keys.store = s.keys.store) ∧
  (∀ (s : State), s.heel.mode = .on → s.pwr.mainDown = false → (∀ b, .devRst b ∉ s.deferred) →
    ∃ t, exec .devRst s = .next t ∧ t = { s with deferred := s.deferred ++ [.devRst false] } ∧
      .devRst true ∈ (t.applyDeferred t.deferred (.devRst false)).deferred ∧
      (t.applyDeferred t.deferred (.devRst false)).drives = false ∧
      (∀ p, StartHeld (t.applyDeferred t.deferred (.devRst false)).deviceResetNow p) ∧
      (t.applyDeferred t.deferred (.devRst false)).deviceResetNow.pat = none) ∧
  (∀ (s : State) (f : StitchFacts), s.live = false → .devRst true ∈ s.deferred →
    ∃ u : State, exec (.stitchBoundary f) s = .next u.deviceResetNow ∧ u.now = (s.now + 1) % 2 ^ 64) ∧
  (∀ (s : State), s.heel.mode ≠ .on → exec .devRst s = .next { s with pwr := { s.pwr with rstAsked := true } }) ∧
  ∀ (s : State), s.pair.role = .unpaired → s.devRstNow.drives = false ∧ s.devRstNow.deferred = s.deferred ++ [.devRst true]

/-- ROOT_UNWRAP with a root that passes ROOT_CHECK marks the root done, and one that fails stops the start. FIRMWARE_COPY_UNIT
copies one 64 KiB unit from staging to the target slot and advances NEXT, leaving the rest of pattern memory. HAND_OVER with the root
done sets MGMT_UP and the hand-over of the heel; firmware that is not the confirmed one goes on trial with its deadline set.
TRIAL_DEADLINE at the deadline clears TRIAL and leaves a device reset to the next boundary. FLOOR_RAISE, once every bit up to FLOOR
reads blown, clears FLOOR_PENDING. -/
def Obligations.FirmwareStart : Prop :=
  (∀ (s : State), s.live = true → s.boot.rootDone = false → s.boot.stage = .chosen → s.scuttlePending = false →
    s.env.cleared = false →
    (s.rootChecks s.rootCodeNow = true → ∃ t, exec .rootUnwrap s = .next t ∧ t.boot = { s.boot with rootDone := true } ∧
      t.plats = s.plats ∧ t.mem = s.mem ∧ t.fuse = s.fuse) ∧
    (s.rootChecks s.rootCodeNow = false → ∃ t, exec .rootUnwrap s = .next t ∧ t.boot = { s.boot with stage := .stopped } ∧
      t.keys = s.keys ∧ t.plats = s.plats)) ∧
  (∀ (s : State), s.live = true → s.boot.stage = .copying → s.copyOpen = true → s.copyTarget < 2 →
    s.copyNext + 1 < s.copyUnits →
    ∃ t, exec .firmwareCopyUnit s = .next t ∧ t.copyNext = s.copyNext + 1 ∧ t.boot = s.boot ∧
      (∀ i, i < 65536 → Memory.read 0xFF t.pm (fwSlotBase s.copyTarget + 65536 * s.copyNext + i) =
        Memory.read 0xFF s.pm (fwStaging + 65536 * s.copyNext + i)) ∧
      (∀ a, a < fwSlotBase s.copyTarget + 65536 * s.copyNext ∨ fwSlotBase s.copyTarget + 65536 * s.copyNext + 65536 ≤ a →
        Memory.read 0xFF t.pm a = Memory.read 0xFF s.pm a)) ∧
  (∀ (s : State), s.live = true → s.boot.stage = .chosen → s.boot.rootDone = true → s.env.fatalRepeat = false →
    s.boot.woke = false →
    ∃ t, exec .handOver s = .next t ∧ t.sys.mgmtUp = true ∧ t.boot.stage = .running ∧ t.heel.handedOver = true ∧
      t.bootLoad = false ∧ (∀ p, (t.plat p).hold = (s.plat p).hold) ∧
      (confSlot s.bootState ≠ s.boot.slot ∨ confValid s.bootState = false → s.boot.slot < 2 → t.trial = true ∧ trialSlot t.bootState = s.boot.slot ∧
        t.boot.deadline = some (s.now + min (max 2000000 (fieldAt s.boot.header 36 4)) s.trialMax))) ∧
  (∀ (s : State) (d : Nat), s.live = true → s.trial = true → s.boot.deadline = some d → d ≤ s.now →
    ∃ t, exec .trialDeadline s = .next t ∧ t.trial = false ∧ t.boot.deadline = none ∧
      t.deferred = s.deferred ++ [.deviceReset] ∧ t.plats = s.plats) ∧
  ∀ (s : State) (ws : List (Nat × Nat)), s.live = true → s.boot.stage ≠ .stopped → s.bootState.testBit 7 = true →
    s.fuseEnvOk = true → s.fuse.job = none → s.fuseLocked 4 = false → s.confFloor = some s.arbCount →
    ∃ t, exec (.floorRaise ws) s = .next t ∧ t.bootState.testBit 7 = false ∧ ∀ w, tget {} t.fuse.otp w = tget {} s.fuse.otp w

/-- PATTERN_CHOICE with SET 1 and FLOOR_PENDING 0 chooses the ACTIVE slot when its image verifies and is not below
PATTERN_FLOOR; with SET 0 it chooses the slot R466 gives and asks the heel to write SET, ACTIVE and FLOOR_PENDING; with no slot
that verifies it notes NO_PATTERN. Once the flag is settled, a chosen image that passes every check of R599 becomes the pattern
that waits, with PATTERN_PARAMS and TABLE_SWITCH posted; one that fails leaves no pattern waiting. Neither command changes
custody, holds or the pattern in force. -/
def Obligations.PatternComesIn : Prop :=
  (∀ (s : State), s.live = true → s.sys.mgmtUp = true → s.pat = none → s.patNext = none → s.boot.patChosen = false →
    s.boot.noPattern = false →
    (s.patFlag.testBit 2 = true → s.patFlag.testBit 1 = false → s.slotVerifies (s.patFlag % 2) = true →
      s.patFloor ≤ s.slotSequence (s.patFlag % 2) →
      exec .patternChoice s = .next { s with boot := { s.boot with patChosen := true, patSlot := s.patFlag % 2 } }) ∧
    (∀ k, s.patFlag.testBit 2 = false → s.patternSlot = some k → s.heel.ring = [] → s.deferred = [] → RingFree s →
      ∃ t, exec .patternChoice s = .next t ∧ t.boot = { s.boot with patChosen := true, patSlot := k } ∧
        Posts s t 0x0E (natBE 4 (mkPatFlag k true true (bitsOf s.patFlag 31 16 + 1))) ∧ t.plats = s.plats ∧ t.mem = s.mem) ∧
    (s.patternSlot = none → ∃ t, exec .patternChoice s = .next t ∧ t.boot = { s.boot with noPattern := true } ∧
      t.plats = s.plats ∧ t.pat = none ∧ t.patNext = none ∧ t.mem = s.mem)) ∧
  ∀ (s : State), s.live = true → s.sys.mgmtUp = true → s.boot.patChosen = true → s.pat = none → s.patNext = none →
    s.patFlagSettled = true →
    (s.judgePattern (s.imageAt (patSlotBase s.boot.patSlot)) (fun n => n ≤ 8388608) = none →
      s.heel.tail = s.heel.head → s.heel.waiting = [] → s.heel.tail < 64 → s.fuse.job = none →
      ∃ t g, exec .patternLoad s = .next t ∧ t.patNext = some g ∧ g.slot = s.boot.patSlot ∧ t.pat = none ∧ t.plats = s.plats ∧
        t.heel.tail = (s.heel.tail + 2) % 64 ∧ (t.ringAt s.heel.tail).req = 0x11 ∧
        (t.ringAt ((s.heel.tail + 1) % 64)).req = 0x07) ∧
    (∀ f, s.judgePattern (s.imageAt (patSlotBase s.boot.patSlot)) (fun n => n ≤ 8388608) = some f →
      ∃ t, exec .patternLoad s = .next t ∧ t.patNext = none ∧ t.pat = none ∧ t.plats = s.plats ∧ t.heel = s.heel ∧
        t.patLoad.failed = true ∧ t.patLoad.code = f.code)

/-- A frame on the VAMP link that passes R554 waits for its own command; one with a bad CRC is counted and NAKed, and any other
is counted. ACK frees the frames it covers and takes its CREDITS. NAK is counted and has a frame kept sent again with its SEQ; with the
oldest frame replayed three times it loses the link. A valid TRAIN sets both sequence numbers to 0, discards the frames kept and grants CREDITS. DATA in sequence is accepted and advances
RX_SEQ, a repeat is acknowledged again and changes no message, and one out of sequence is answered with a NAK of FRAME_SEQ_GAP. A frame
that a lace port drops counts for that port only. -/
def Obligations.LinkFrames : Prop :=
  (∀ (s : State) (b : Bytes) (ended bad : Bool), s.linkOn = true → s.vamp.locked = 3 → s.vamp.lostAt = none →
    (∀ f, checkFrame b ended bad = .ok f → exec (.frameReceived none b ended bad) s =
      .next { s with vamp := { s.vamp with rxq := s.vamp.rxq ++ [f], lastRx := s.now } }) ∧
    (checkFrame b ended bad = .error .crc → exec (.frameReceived none b ended bad) s =
      .next { s with vamp := { s.vamp with crcDrops := satInc 0xFFFF s.vamp.crcDrops, ctl := s.vamp.ctl ++ [Code.frameCrcBad] } }) ∧
    (∀ n, checkFrame b ended bad = .error (.other n) → exec (.frameReceived none b ended bad) s =
      .next { s with vamp := { s.vamp with otherDrops := satInc 0xFFFF s.vamp.otherDrops, ctl := s.vamp.ctl ++ n.toList } })) ∧
  (∀ (s : State) (k : Fin 4) (b : Bytes) (ended bad : Bool) (c : Nat), s.live = true → s.paired = true →
    (s.port k.val).trained = true → (s.port k.val).retired = false → laceFrameOk b ended bad = some c →
    ∃ t, exec (.frameReceived (some k) b ended bad) s = .next t ∧ t.vamp = s.vamp ∧ t.plats = s.plats ∧
      (t.port k.val).crcErrors = satInc 0xFFFF (s.port k.val).crcErrors ∧
      (t.fault 3 k.val).consecutive = (s.fault 3 k.val).consecutive + 1) ∧
  (∀ (s : State) (f : RxFrame) (fs : List RxFrame), FrameAt s 2 f fs →
    (f.ack + 65536 - s.vamp.peerAck) % 65536 ≤ s.vamp.outstanding →
    ∃ t, exec .ack s = .next t ∧ t.vamp.rxq = fs ∧ t.vamp.peerAck = f.ack ∧ t.vamp.credits = f.credits ∧
      t.vamp.trained = s.vamp.trainRx ∧ t.vamp.tx = s.vamp.tx.filter (fun g =>
        !(g.sent.isSome && decide ((f.ack + 65536 - g.seq) % 65536 < 32768))) ∧
      { t with vamp := s.vamp, log := s.log } = s) ∧
  (∀ (s : State) (f : RxFrame) (fs : List RxFrame) (g : TxFrame) (t0 : Nat), FrameAt s 3 f fs →
    s.vamp.outstanding < (f.ack + 65536 - s.vamp.peerAck) % 65536 → s.vamp.tx = [g] → g.sent = some t0 → g.replays < 3 →
    g.incident ≠ 0 → g.tag = none →
    ∃ t, exec .nak s = .next t ∧ t.vamp.naks = satInc 0xFFFF s.vamp.naks ∧ t.vamp.rxq = fs ∧
      t.vamp.tx = [{ g with replays := g.replays + 1, sent := some s.now }] ∧
      t.vamp.replays = satInc 0xFFFF s.vamp.replays ∧ (∃ b, t.out = s.out ++ [.link 1 g.seq b]) ∧
      { t with vamp := s.vamp, out := s.out } = s) ∧
  (∀ (s : State) (f : RxFrame) (fs : List RxFrame) (g : TxFrame) (gs : List TxFrame), FrameAt s 3 f fs →
    s.vamp.outstanding < (f.ack + 65536 - s.vamp.peerAck) % 65536 → s.vamp.tx = g :: gs → g.sent ≠ none → 3 ≤ g.replays →
    ∃ t, exec .nak s = .next t ∧ t.vamp.naks = satInc 0xFFFF s.vamp.naks ∧ t.vamp.trained = false ∧ t.vamp.tx = [] ∧
      t.vamp.lostAt = some s.now ∧ t.vamp.sessions = s.vamp.sessions ∧ t.plats = s.plats) ∧
  (∀ (s : State) (f : RxFrame) (fs : List RxFrame), FrameAt s 4 f fs → fieldAt f.payload 0 2 = 1 → fieldAt f.payload 2 1 = 0 →
    fieldAt f.payload 3 1 = 0 → fieldAt f.payload 8 1 = 0 → allZero (bytesAt f.payload 9 7) = true →
    ∃ t, exec .train s = .next t ∧ t.vamp.rxSeq = 0 ∧ t.vamp.txSeq = 0 ∧ t.vamp.peerAck = 0 ∧
      t.vamp.credits = fieldAt f.payload 4 2 ∧ t.vamp.tx = [] ∧ t.vamp.rxq = [] ∧ t.vamp.trainRx = true ∧
      t.vamp.sessions = s.vamp.sessions ∧ { t with vamp := s.vamp, log := s.log } = s) ∧
  ∀ (s : State) (f : RxFrame) (fs : List RxFrame), FrameAt s 1 f fs → s.vamp.trainRx = true →
    s.vamp.outstanding < (f.ack + 65536 - s.vamp.peerAck) % 65536 → s.vamp.rxSeq < 65536 → f.seq < 65536 →
    (f.seq = (s.vamp.rxSeq + 1) % 65536 → f.channel = 0 → f.more = true → (s.vchan 0).tooLong = false →
      ((s.vchan 0).rx ++ f.payload).length ≤ 65612 →
      ∃ t, exec .data s = .next t ∧ t.vamp.rxSeq = f.seq ∧ t.vamp.ackDue = true ∧ t.vamp.rxq = fs ∧
        (t.vchan 0).rx = (s.vchan 0).rx ++ f.payload ∧ { t with vamp := s.vamp } = s) ∧
    (f.seq = s.vamp.rxSeq → ∃ t, exec .data s = .next t ∧ t.vamp.rxSeq = s.vamp.rxSeq ∧ t.vamp.ackDue = true ∧
      t.vamp.chans = s.vamp.chans ∧ { t with vamp := s.vamp } = s) ∧
    (f.seq = (s.vamp.rxSeq + 2) % 65536 → ∃ t, exec .data s = .next t ∧ t.vamp.rxSeq = s.vamp.rxSeq ∧
      t.vamp.ctl = s.vamp.ctl ++ [Code.frameSeqGap] ∧ t.vamp.chans = s.vamp.chans ∧ { t with vamp := s.vamp } = s)

/-- A lane's lock is noted, and with both lanes locked on a link that is neither up nor lost the Larir trains. A frame whose
acknowledgement is 11 stitches late is sent again with its SEQ. 500 stitches without a valid frame, or a fourth lateness, lose the
link: the frames kept and those received and not yet taken go, the loss is counted, sessions stay, and 10 stitches later LINK_RETRAIN trains
again unless REFCLK_FALLBACK is set. LINK_KEEPALIVE sends an ACK after 50 stitches of silence. -/
def Obligations.LinkTrainingAndLoss : Prop :=
  (∀ (s : State) (n : Fin 2), s.linkOn = true → ∃ t, exec (.vampLaneLock n) s = .next t ∧
      t.vamp.locked = s.vamp.locked ||| (1 <<< n.val) ∧ { t with vamp := s.vamp } = s ∧
      (s.vamp.locked ||| (1 <<< n.val) = 3 → s.vamp.trained = false → s.vamp.trainRx = false → s.vamp.lostAt = none →
        t.vamp.training = true)) ∧
  (∀ (s : State) (t0 : Nat), s.linkOn = true → s.vamp.lostAt = some t0 → t0 + 10 ≤ s.now →
    (s.env.refclkFallback = false → s.vamp.locked = 3 → s.vamp.trained = false → s.vamp.trainRx = false →
      exec .linkRetrain s = .next { s with vamp := { s.vamp with lostAt := none, training := true } }) ∧
    (s.env.refclkFallback = true → exec .linkRetrain s = .next s)) ∧
  (∀ (s : State), s.linkOn = true → s.vamp.trained = true →
    s.vamp.lastRx + 500 ≤ s.now ∨ (∃ f, s.ackLate = some f ∧ 3 ≤ f.replays) →
    ∃ t, exec .linkLoss s = .next t ∧ t.vamp.trained = false ∧ t.vamp.up = false ∧ t.vamp.tx = [] ∧ t.vamp.rxq = [] ∧
      t.vamp.lostAt = some s.now ∧ t.vamp.losses = satInc 0xFFFF s.vamp.losses ∧ t.vamp.sessions = s.vamp.sessions ∧
      t.plats = s.plats ∧ t.keys = s.keys ∧ t.latches = s.latches) ∧
  (∀ (s : State), s.linkOn = true → s.vamp.trained = true → s.vamp.lastTx + 50 ≤ s.now →
    exec .linkKeepalive s = .next { s with
      out := s.out ++ [.link 2 0 (s.ctlBytes 2 [])]
      vamp := { s.vamp with ackDue := false, lastTx := s.now } }) ∧
  ∀ (s : State) (f : TxFrame) (t0 : Nat), s.linkOn = true → s.vamp.trained = true → s.vamp.tx = [f] → f.sent = some t0 →
    t0 + 11 ≤ s.now → f.replays < 3 → f.incident ≠ 0 → f.tag = none →
    ∃ t, exec .replayTimeout s = .next t ∧
      t.vamp.tx = [{ f with replays := f.replays + 1, sent := some s.now }] ∧
      t.vamp.replays = satInc 0xFFFF s.vamp.replays ∧ (∃ b, t.out = s.out ++ [.link 1 f.seq b]) ∧
      { t with vamp := s.vamp, out := s.out } = s

/-- A message on a channel is answered at once with FREEZE_ACTIVE in freeze, VAMP_OPCODE_UNKNOWN for an opcode of no command,
SESSION_REQUIRED on channel 0 for a command that needs a session, VAMP_BODY_BAD for a malformed body, and VAMP_TAG_IN_USE while its TAG
runs; the command table and the inboxes stay. One that passes on a unit whose firmware runs is entered in the command table as running
and waits. -/
def Obligations.VampAdmission : Prop :=
  (∀ (s : State) (ch : Nat) (m : Bytes) (c : Nat), s.canSend ch = true →
    ((s.frz.frozen = true ∧ fieldAt m 0 2 ≠ 0x00A0 ∧ c = Code.freezeActive) ∨
     (s.frz.frozen = false ∧ fieldAt m 0 2 ∉ vampOpcodes ∧ c = Code.vampOpcodeUnknown) ∨
     (s.frz.frozen = false ∧ fieldAt m 0 2 ∈ vampOpcodes ∧ ch = 0 ∧ fieldAt m 0 2 ∉ plainOpcodes ∧ c = Code.sessionRequired) ∨
     (s.frz.frozen = false ∧ fieldAt m 0 2 ∈ plainOpcodes ∧ ch = 0 ∧ bodyOk (fieldAt m 0 2) (m.drop 12) = false ∧
       c = Code.vampBodyBad) ∨
     (s.frz.frozen = false ∧ fieldAt m 0 2 ∈ plainOpcodes ∧ ch = 0 ∧ bodyOk (fieldAt m 0 2) (m.drop 12) = true ∧ 12 ≤ m.length ∧
       fieldAt m 4 4 = 0 ∧ s.running? ch (fieldAt m 2 2) ≠ none ∧ c = Code.vampTagInUse)) →
    (s.request ch m).out = s.out ++ [.response ch (fieldAt m 2 2) (fieldAt m 0 2) c []] ∧
    (s.request ch m).vamp.chans = s.vamp.chans ∧ { s.request ch m with vamp := s.vamp, out := s.out } = s) ∧
  ∀ (s : State) (ch : Nat) (m : Bytes), s.frz.frozen = false → fieldAt m 0 2 ∈ vampOpcodes →
    (ch = 0 → fieldAt m 0 2 ∈ plainOpcodes) → (ch ≠ 0 → fieldAt m 0 2 ∉ zeroOnly) → 12 ≤ m.length → fieldAt m 4 4 = 0 →
    bodyOk (fieldAt m 0 2) (m.drop 12) = true → s.running? ch (fieldAt m 2 2) = none →
    ((s.vchan ch).cmds.filter (fun c => c.state = 1)).length < 16 → s.boot.stage = .running →
    ((s.request ch m).vchan ch).inbox = (s.vchan ch).inbox ++ [m] ∧
    (∃ x ∈ ((s.request ch m).vchan ch).cmds, x.tag = fieldAt m 2 2 ∧ x.opcode = fieldAt m 0 2 ∧ x.state = 1 ∧ x.accepted = s.now) ∧
    { s.request ch m with vamp := s.vamp } = s

/-- STATUS_GET answers OK with the device's status or the command's. REG_READ answers with the register's value as the session reads
it; of STITCH_COUNT_LO that is the counter's lower half. REG_WRITE of a selector in PROVISION writes the session's own copy and
answers what it now reads; outside PROVISION, and on any other register, it is refused with VAMP_REG_DENIED. LOG_DRAIN answers the
records from FROM on that the log holds, at most MAX. FREEZE_READ outside freeze is refused with FREEZE_NOT_ACTIVE, and in freeze it
answers the bytes of a chain that may be read and refuses the others. Custody, keys, fuses and memories stay. -/
def Obligations.VampReads : Prop :=
  (∀ (s : State) (ch : Nat) (m : Bytes) (ms : List Bytes), ReqAt s ch 0x0010 m ms → fieldAt (m.drop 12) 3 1 = 0 →
    ∃ t, exec (.statusGetDevice ch) s = .next t ∧ VAnswers s t ch m ms Code.ok s.deviceStatus) ∧
  (∀ (s : State) (ch : Nat) (m : Bytes) (ms : List Bytes), ReqAt s ch 0x0010 m ms → fieldAt (m.drop 12) 3 1 = 1 →
    ∃ t, exec (.statusGetCommand ch) s = .next t ∧ VAnswers s t ch m ms Code.ok (s.commandStatus ch (fieldAt (m.drop 12) 0 2))) ∧
  (∀ (s : State) (ch : Nat) (m : Bytes) (ms : List Bytes), ReqAt s ch 0x0011 m ms → fieldAt (m.drop 12) 4 4 = 1 →
    ∃ (t u : State), exec (.regRead ch) s = .next t ∧ (t.vchan ch).inbox = ms ∧ u = { s with vamp := u.vamp } ∧
      t.out = s.out ++ (if s.canSend ch = true then [.response ch (fieldAt m 2 2) 0x0011 Code.ok
        (natBE 4 (u.regRead (8 + ch) (fieldAt (m.drop 12) 0 4)).1.toNat)] else [])) ∧
  (∀ (s : State) (ch : Nat) (m : Bytes) (ms : List Bytes), ReqAt s ch 0x0011 m ms → fieldAt (m.drop 12) 4 4 = 1 →
    fieldAt (m.drop 12) 0 4 = 0x20010000 →
    ∃ t, exec (.regRead ch) s = .next t ∧ (t.vchan ch).inbox = ms ∧
      t.out = s.out ++ (if s.canSend ch = true then
        [.response ch (fieldAt m 2 2) 0x0011 Code.ok (natBE 4 (s.now % 2 ^ 32))] else []) ∧
      t.plats = s.plats ∧ t.keys = s.keys ∧ t.fuse = s.fuse ∧ t.mem = s.mem) ∧
  (∀ (s : State) (ch : Nat) (m : Bytes) (ms : List Bytes), ReqAt s ch 0x0012 m ms → s.lifecycle ≠ 1 →
    ∃ t, exec (.regWrite ch) s = .next t ∧ VAnswers s t ch m ms Code.vampRegDenied []) ∧
  (∀ (s : State) (ch : Nat) (m : Bytes) (ms : List Bytes), ReqAt s ch 0x0012 m ms →
    selector (fieldAt (m.drop 12) 0 4) = none →
    ∃ t, exec (.regWrite ch) s = .next t ∧ VAnswers s t ch m ms Code.vampRegDenied []) ∧
  (∀ (s : State) (ch i w : Nat) (m : Bytes) (ms : List Bytes), ReqAt s ch 0x0012 m ms → s.lifecycle = 1 →
    selector (fieldAt (m.drop 12) 0 4) = some (i, w) → i ≠ 0 →
    ∃ t, exec (.regWrite ch) s = .next t ∧ tget 0 t.sel (8 * ch + i) = fieldAt (m.drop 12) 4 4 % 2 ^ w ∧
      (∀ k, k ≠ 8 * ch + i → tget 0 t.sel k = tget 0 s.sel k) ∧
      t.out = s.out ++ (if s.canSend ch = true then
        [.response ch (fieldAt m 2 2) 0x0012 Code.ok (natBE 4 (fieldAt (m.drop 12) 4 4 % 2 ^ w))] else []) ∧
      { t with vamp := s.vamp, out := s.out, sel := s.sel } = s) ∧
  (∀ (s : State) (ch : Nat) (m : Bytes) (ms : List Bytes), ReqAt s ch 0x0020 m ms → s.logHead.1 ≤ logSize →
    1 ≤ fieldAt (m.drop 12) 0 8 →
    ∃ t, exec (.logDrain ch) s = .next t ∧ (t.vchan ch).inbox = ms ∧ t.log = s.log ∧ t.mem = s.mem ∧ t.plats = s.plats ∧
      (s.canSend ch = true → ∃ b, t.out = s.out ++ [.response ch (fieldAt m 2 2) 0x0020 Code.ok b] ∧
        fieldAt b 0 8 = fieldAt (m.drop 12) 0 8 ∧
        fieldAt b 8 4 = min (fieldAt (m.drop 12) 8 4) (s.logHead.1 + 1 - fieldAt (m.drop 12) 0 8) ∧
        b.drop 48 = (List.range (min (fieldAt (m.drop 12) 8 4) (s.logHead.1 + 1 - fieldAt (m.drop 12) 0 8))).flatMap
          (fun i => s.bytes (logAddr (fieldAt (m.drop 12) 0 8 + i)) 32))) ∧
  (∀ (s : State) (ch : Nat) (m : Bytes) (ms : List Bytes), ReqAt s ch 0x00A0 m ms → s.frz.frozen = false →
    ∃ t, exec (.freezeRead ch) s = .next t ∧ VAnswers s t ch m ms Code.freezeNotActive []) ∧
  ∀ (s : State) (ch : Nat) (m : Bytes) (ms : List Bytes), ReqAt s ch 0x00A0 m ms → s.frz.frozen = true →
    fieldAt (m.drop 12) 0 4 ≤ 7 → 1 ≤ fieldAt (m.drop 12) 8 4 → fieldAt (m.drop 12) 8 4 ≤ 2048 →
    fieldAt (m.drop 12) 4 4 + fieldAt (m.drop 12) 8 4 ≤ chainBytes (fieldAt (m.drop 12) 0 4) →
    (s.chainOk false (fieldAt (m.drop 12) 0 4) = true → ∃ t, exec (.freezeRead ch) s = .next t ∧
      VAnswers s t ch m ms Code.ok (s.chainRead (fieldAt (m.drop 12) 0 4) (fieldAt (m.drop 12) 4 4) (fieldAt (m.drop 12) 8 4))) ∧
    (s.chainOk false (fieldAt (m.drop 12) 0 4) = false → ∃ t, exec (.freezeRead ch) s = .next t ∧
      VAnswers s t ch m ms Code.freezeChainDenied [])

/-- HELLO with a key that the unit does not know is answered HELLO_KEY_UNKNOWN, with eight sessions open BUSY; an accepted one is
placed on a point engine and, once its 167 steps are done, opens a session, on channel 1 when none is open, with the
adapter's key. SESSION_CLOSE answers OK and
ends the session of its channel; a session without a frame for 60,000,000 stitches expires. A DEBUG_TOKEN that
a check refuses is answered with that check's code; another goes to a point engine, and one whose signer is the unit's own then sets
the debug latch. -/
def Obligations.VampSessions : Prop :=
  (∀ (s : State) (ch : Nat) (m : Bytes) (ms : List Bytes), ReqAt s ch 0x0001 m ms → s.keysClosed = none →
    (s.adapterKnown (bytesAt (m.drop 12) 16 64) = false → ∃ t, exec (.hello ch) s = .next t ∧
      VAnswers s t ch m ms Code.helloKeyUnknown []) ∧
    (s.adapterKnown (bytesAt (m.drop 12) 16 64) = true → 8 ≤ s.vamp.sessions.length + s.hellos →
      ∃ t, exec (.hello ch) s = .next t ∧ VAnswers s t ch m ms Code.busy []) ∧
    (s.adapterKnown (bytesAt (m.drop 12) 16 64) = true → s.vamp.sessions.length + s.hellos < 8 → s.patNext = none →
      s.stitch.active.rows = [] → (∀ e, s.vamp.ledgerEnd.getD e 0 ≤ s.now) →
      ∃ t, exec (.hello ch) s = .next t ∧ (t.vchan ch).inbox = ms ∧
        t.vamp.jobs = s.vamp.jobs ++ [(s.vamp.nextJob, some ⟨ch, fieldAt m 2 2, 0x0001⟩, .hello (m.drop 12))] ∧
        t.point.ops.length = s.point.ops.length + 1 ∧ t.out = s.out ∧ t.plats = s.plats ∧ t.keys = s.keys)) ∧
  (∀ (s : State) (id : Nat) (o : Origin) (b : Bytes), s.live = true →
    s.vamp.jobs.find? (fun j => 4096 + j.1 = 4096 + id) = some (id, some o, .hello b) → s.opDone 4 (4096 + id) = true →
    s.vamp.sessions = [] → Config.sm2OnCurve (bytesAt b 16 64) = true → Config.sm2OnCurve (bytesAt b 80 64) = true →
    ∃ t x, exec (.updatePointOperationDone (4096 + id)) s = .next t ∧ t.session? 1 = some x ∧
      x.key = sm3 (bytesAt b 16 64) ∧ x.lastFrame = s.now ∧ t.fresh = s.fresh + 1 ∧ t.plats = s.plats ∧ t.keys = s.keys) ∧
  (∀ (s : State) (ch : Nat) (m : Bytes) (ms : List Bytes), ReqAt s ch 0x0002 m ms →
    ∃ t, exec (.sessionClose ch) s = .next t ∧ t.session? ch = none ∧ (t.vchan ch).inbox = [] ∧
      t.out = s.out ++ (if s.canSend ch = true then [.response ch (fieldAt m 2 2) 0x0002 Code.ok []] else []) ∧
      t.plats = s.plats ∧ t.keys = s.keys ∧ t.deferred = s.deferred) ∧
  (∀ (s : State) (ch : Nat) (x : Session), s.live = true → s.session? ch = some x → x.lastFrame + 60000000 ≤ s.now →
    ∃ t, exec (.sessionExpired ch) s = .next t ∧ t.session? ch = none ∧ t.plats = s.plats ∧ t.keys = s.keys) ∧
  (∀ (s : State) (ch : Nat) (m : Bytes) (ms : List Bytes) (c : Nat), ReqAt s ch 0x00F0 m ms →
    s.tokenRefuses (m.drop 12) = some c →
    ∃ t, exec (.debugToken ch) s = .next t ∧ VAnswers s t ch m ms c []) ∧
  (∀ (s : State) (ch : Nat) (m : Bytes) (ms : List Bytes), ReqAt s ch 0x00F0 m ms → s.tokenRefuses (m.drop 12) = none →
    s.patNext = none → s.stitch.active.rows = [] → (∀ e, s.vamp.ledgerEnd.getD e 0 ≤ s.now) →
    ∃ t, exec (.debugToken ch) s = .next t ∧ (t.vchan ch).inbox = ms ∧
      t.vamp.jobs = s.vamp.jobs ++ [(s.vamp.nextJob, some ⟨ch, fieldAt m 2 2, 0x00F0⟩, .token (m.drop 12))] ∧
      t.frz = s.frz ∧ t.out = s.out) ∧
  (∀ (s : State) (o : Origin) (b : Bytes), s.tokenRefuses b = none → s.tokenSignerBad b = false → s.lifecycle ≠ 0 →
    (s.tokenDone o b).frz.debug = true ∧ (s.debugOn = false → .rootSwitch ∈ (s.tokenDone o b).deferred)) ∧
  ∀ (s : State) (o : Origin) (b : Bytes), s.tokenRefuses b = none → s.tokenSignerBad b = true →
    (s.tokenDone o b).frz = s.frz ∧ (s.tokenDone o b).deferred = s.deferred

/-- An ATTEST that nothing refuses is admitted: the statement waits with its nonce, platforms and flag, its signature is placed
on a point engine, and no answer leaves yet. One that R395 refuses is answered with its code. The boundary fills every admitted statement
with the bytes before SIGNATURE, and the digest engine has their blocks to hash. STATEMENT_DONE of a statement of the adapter's whose
message is hashed and whose steps have run answers OK with those bytes
and a SIGNATURE element, and the statement is no longer outstanding. Keys, custody and records stay. The signature itself is an open
value (log entry 2). -/
def Obligations.AttestRequests : Prop :=
  (∀ (s : State) (ch : Nat) (m : Bytes) (ms : List Bytes), ReqAt s ch 0x0030 m ms →
    (s.attRefuses = none → EnginesFree s s.stitch.ledgerEnd → ∃ t, exec (.attest ch) s = .next t ∧ (t.vchan ch).inbox = ms ∧
      t.att.sts = s.att.sts ++ [⟨s.att.nextId, .adapter ⟨ch, fieldAt m 2 2, 0x0030⟩, (m.drop 12).take 32, fieldAt (m.drop 12) 32 8,
        (fieldAt (m.drop 12) 40 1).testBit 0, s.now, none⟩] ∧
      t.point.ops.length = s.point.ops.length + 1 ∧ t.out = s.out ∧ t.plats = s.plats ∧ t.keys = s.keys ∧ t.log = s.log) ∧
    (∀ c, s.attRefuses = some c → ∃ t, exec (.attest ch) s = .next t ∧ VAnswers s t ch m ms c [])) ∧
  (∀ (s : State) (x : Statement), x ∈ s.snapshots.att.sts → x.body ≠ none) ∧
  (∀ (s : State) (x : Statement), x ∈ s.att.sts → x.body = none →
    ∃ y ∈ s.snapshots.att.sts, y.id = x.id ∧ y.body = some (s.unitBody x.nonce x.mask x.certs)) ∧
  (∀ (s : State) (x : Statement), s.att.sts = [x] → x.body = none →
    tget 0 s.snapshots.att.hashes x.id = messageBlocks (s.unitBody x.nonce x.mask x.certs)) ∧
  ∀ (s : State) (id : Nat) (x : Statement) (b : Bytes) (o : Origin), s.live = true →
    s.att.sts.find? (fun y => y.id = id) = some x → x.body = some b → x.asker = .adapter o → s.statementDone id = true →
    ∃ t sig, exec (.statementDone id) s = .next t ∧ sig.length = 64 ∧
      t.out = s.out ++ (if s.canSend o.ch = true then [.response o.ch o.tag o.opcode Code.ok (b ++ element 0x00F0 sig)] else []) ∧
      t.att.sts = s.att.sts.filter (fun y => y.id ≠ id) ∧ t.fresh = s.fresh + 1 ∧ t.keys = s.keys ∧ t.plats = s.plats ∧
      t.log = s.log

/-- DOMAIN_ATTEST at a unit that is not the lead is refused with BUSY, which BUSY_COUNT counts; at the lead it admits a
domain statement and the lead's own unit statement. The boundary takes its snapshot; 3,000 stitches after its acceptance
DOMAIN_COLLECTION_END ends its collection, and the boundary fixes the bytes before SIGNATURE of one whose collection has ended, or
whose members have all answered, and gives the digest engine their blocks. A MEMBER_REQ addressed to this unit that R395 does not
refuse admits a unit statement for the lead, while firmware runs; either is forwarded round the ring while HOPS is above 0; a MEMBER_RESP is
recorded in every domain statement with its nonce that still collects and has no answer of that member yet. -/
def Obligations.DomainStatements : Prop :=
  (∀ (s : State) (ch : Nat) (m : Bytes) (ms : List Bytes), ReqAt s ch 0x0031 m ms → s.attRefuses = none →
    (s.paired = false ∨ s.pair.lead ≠ some s.pair.unitId → ∃ t, exec (.domainAttest ch) s = .next t ∧
      VAnswers s t ch m ms Code.busy []) ∧
    (s.paired = true → s.pair.lead = some s.pair.unitId → s.att.domains.length < 4 → s.att.outstanding < 255 →
      EnginesFree s s.stitch.ledgerEnd →
      ∃ t d, exec (.domainAttest ch) s = .next t ∧ (t.vchan ch).inbox = ms ∧ t.att.domains = s.att.domains ++ [d] ∧
        d.id = s.att.nextId + 1 ∧ d.origin = ⟨ch, fieldAt m 2 2, 0x0031⟩ ∧ d.nonce = (m.drop 12).take 32 ∧ d.accepted = s.now ∧
        d.body = none ∧ d.shot = none ∧ d.ending = false ∧ d.answers = [] ∧ t.att.sts.length = s.att.sts.length + 1 ∧
        t.point.ops.length = s.point.ops.length + 2 ∧ t.plats = s.plats ∧ t.keys = s.keys)) ∧
  (∀ (s : State) (job : Nat) (d : DomainJob), s.live = true → s.att.domains.find? (fun x => x.id = job) = some d →
    d.body = none → d.accepted + 3000 ≤ s.now →
    ∃ t, exec (.domainCollectionEnd job) s = .next t ∧ { t with att := s.att } = s ∧ t.att.sts = s.att.sts ∧
      { d with ending := true } ∈ t.att.domains) ∧
  (∀ (s : State) (d : DomainJob), s.att.domains = [d] →
    (d.shot = none → s.snapshots.att.domains = [{ d with shot := some (s.domainShot d) }]) ∧
    (d.body = none → (∀ k < s.domainUnits, tfind d.answers k ≠ none) ∨ d.accepted + 3000 ≤ s.now →
      s.collections.att.domains = [{ d with body := some (s.domainBody d) }] ∧
      tget 0 s.collections.att.hashes d.id = messageBlocks (s.domainBody d) ∧ { s.collections with att := s.att } = s) ∧
    (d.ending = false → (∃ k < s.domainUnits, tfind d.answers k = none) → s.now < d.accepted + 3000 → s.collections = s)) ∧
  (∀ (s : State) (r : RingHdr) (nonce : Bytes) (mask : Nat) (certs : Bool), RingFor s r → nonce.length = 32 →
    s.attRefuses = none → s.boot.stage = .running → EnginesFree s s.stitch.ledgerEnd →
    ∃ t, exec (.memberReq r nonce mask certs) s = .next t ∧
      t.out = s.out ++ forwarded s r 0x11 (nonce ++ natBE 8 mask ++ natBE 1 (if certs then 1 else 0)) ∧
      t.plats = s.plats ∧ t.keys = s.keys ∧
      t.att.domains = s.att.domains ∧
      t.att.sts = s.att.sts ++ [⟨s.att.nextId, .member r.src.val r.port.val, nonce, mask, certs, s.now, none⟩]) ∧
  (∀ (s : State) (r : RingHdr) (nonce : Bytes) (mask : Nat) (certs : Bool), RingFor s r → s.boot.stage ≠ .running →
    ∃ t, exec (.memberReq r nonce mask certs) s = .next t ∧ t.att = s.att ∧ t.point = s.point ∧ t.plats = s.plats) ∧
  ∀ (s : State) (r : RingHdr) (nonce : Bytes) (status code : Nat) (statement : Bytes), RingFor s r → nonce.length = 32 →
    ∃ t, exec (.memberResp r nonce status code statement) s = .next t ∧
      t.out = s.out ++ forwarded s r 0x12 (nonce ++ natBE 1 status ++ natBE 2 code ++ statement) ∧ t.att.sts = s.att.sts ∧
      t.plats = s.plats ∧ t.att.domains.length = s.att.domains.length ∧
      (∀ d ∈ s.att.domains, d.nonce = nonce → d.body = none → s.now ≤ d.accepted + 3000 → tfind d.answers r.src.val = none →
        ∃ x ∈ t.att.domains, x.id = d.id ∧ tfind x.answers r.src.val = some ⟨status, code, statement⟩) ∧
      ∀ d ∈ s.att.domains, d.nonce ≠ nonce → d ∈ t.att.domains

/-- An OPEN of a plain SM3 with RELEASE takes the lowest free context, with its length, queue and owner; with no context free it
is refused with DIGEST_BUSY and counted. A FEED of an owner's open context with fewer than eight FEEDs waiting and a range inside
one region is queued; one that leaves the regions is refused with DIGEST_SOURCE_BAD. FINISH marks the message ended, and short where
less than DECLARED was offered. CLOSE frees the context; of another owner's context it is refused with DIGEST_NOT_OWNER. Each is
answered in DGST_RESP, and nothing outside the digest engine changes. -/
def Obligations.DigestCommands : Prop :=
  (∀ (s : State) (core q c : Nat) (fault : Option Bool), s.dgstMay core = true → 1 ≤ q → q ≤ 5 → s.dgstArg core 0 = 8 * q → s.dgstArg core 2 = 0 →
    0 < s.dgstArg core 1 → FirstFree s c →
    ∃ t, exec (.dgstOpen ⟨core, fault⟩) s = .next t ∧ DgstSays s t core 0 c ∧
      t.ctx c = { state := 1, queue := q, declared := s.dgstArg core 1, owner := core, fresh := 1 } ∧ ∀ j, j ≠ c → t.ctx j = s.ctx j) ∧
  (∀ (s : State) (core q : Nat) (fault : Option Bool), s.dgstMay core = true → 1 ≤ q → q ≤ 5 → s.dgstArg core 0 = 8 * q → s.dgstArg core 2 = 0 →
    (∀ j, j < 64 → (s.ctx j).state ≠ 0) →
    ∃ t, exec (.dgstOpen ⟨core, fault⟩) s = .next t ∧ DgstSays s t core Code.digestBusy (bitsOf (tget 0 s.dgst.resp core).toNat 21 16) ∧
      t.dgst.busyRefusals = satInc 0xFFFF s.dgst.busyRefusals ∧ t.dgst.ctxs = s.dgst.ctxs) ∧
  (∀ (s : State) (core : Nat) (c : Fin 64), s.dgstMay core = true → (s.ctx c.val).state = 1 → (s.ctx c.val).owner = core →
    ((s.ctx c.val).hmac = true → (s.ctx c.val).declared ≠ 0) →
    (s.feedRange (s.dgstArg core 0) (s.dgstArg core 1) = true → (s.ctx c.val).feeds.length < 8 →
      ∃ t, exec (.dgstFeed core c) s = .next t ∧ DgstSays s t core 0 (bitsOf (tget 0 s.dgst.resp core).toNat 21 16) ∧
        t.ctx c.val = { s.ctx c.val with feeds := (s.ctx c.val).feeds ++ [.range (s.dgstArg core 0) (s.dgstArg core 1)],
                                         offered := (s.ctx c.val).offered + s.dgstArg core 1,
                                         fresh := (s.ctx c.val).fresh + 1 } ∧
        ∀ j, j ≠ c.val → t.ctx j = s.ctx j) ∧
    (s.feedRange (s.dgstArg core 0) (s.dgstArg core 1) = true → 8 ≤ (s.ctx c.val).feeds.length →
      ∃ t, exec (.dgstFeed core c) s = .next t ∧ t.dgst.ctxs = s.dgst.ctxs ∧
        DgstSays s t core Code.digestBusy (bitsOf (tget 0 s.dgst.resp core).toNat 21 16)) ∧
    (s.feedRange (s.dgstArg core 0) (s.dgstArg core 1) = false → s.dgstArg core 1 ≠ 0 →
      ∃ t, exec (.dgstFeed core c) s = .next t ∧ t.dgst.ctxs = s.dgst.ctxs ∧
        DgstSays s t core Code.digestSourceBad (bitsOf (tget 0 s.dgst.resp core).toNat 21 16))) ∧
  (∀ (s : State) (core : Nat) (c : Fin 64), s.dgstMay core = true → (s.ctx c.val).state = 1 → (s.ctx c.val).owner = core →
    (s.ctx c.val).finished = false →
    ∃ t, exec (.dgstFinish core c) s = .next t ∧ DgstSays s t core 0 (bitsOf (tget 0 s.dgst.resp core).toNat 21 16) ∧
      t.ctx c.val = { s.ctx c.val with finished := true,
                                       shortDue := decide ((s.ctx c.val).offered < (s.ctx c.val).declared) } ∧
      ∀ j, j ≠ c.val → t.ctx j = s.ctx j) ∧
  ∀ (s : State) (core : Nat) (c : Fin 64), s.dgstMay core = true → (s.ctx c.val).state ≠ 0 →
    ((s.ctx c.val).owner = core → ∃ t, exec (.dgstClose core c) s = .next t ∧
      DgstSays s t core 0 (bitsOf (tget 0 s.dgst.resp core).toNat 21 16) ∧ t.ctx c.val = {} ∧
      ∀ j, j ≠ c.val → t.ctx j = s.ctx j) ∧
    ((s.ctx c.val).owner ≠ core → ∃ t, exec (.dgstClose core c) s = .next t ∧ t.dgst.ctxs = s.dgst.ctxs ∧
      DgstSays s t core Code.digestNotOwner (bitsOf (tget 0 s.dgst.resp core).toNat 21 16))

/-- DIGEST_DONE of a context whose final block has run delivers it: RELEASE gives the SM3 of the declared bytes, COMPARE gives
the pair true and false with OK on equality and false and true with DIGEST_MISMATCH otherwise, and a comparator fault gives FAILED
with DIGEST_COMPARE_FAULT and is counted. A DIGEST_RUN while the schedule codes no digest core for VAMP is refused with BUSY; one
that opens a plain SM3 without data takes the lowest free context for its session and is answered with the context's state. -/
def Obligations.DigestResults : Prop :=
  (∀ (s : State) (c : Fin 64), s.live = true → (s.ctx c.val).state = 1 → (s.ctx c.val).padded = true →
    (s.ctx c.val).shortDue = false → (s.ctx c.val).asked = none → (s.ctx c.val).hmac = false →
    ((s.ctx c.val).dest = 0 → ∀ fault, ∃ t, exec (.digestDone c fault) s = .next t ∧ { t with dgst := s.dgst } = s ∧
      t.ctx c.val = { s.ctx c.val with state := 2, code := 0, matchP := false, matchN := false,
                                       result := sm3 ((s.ctx c.val).hashed.take (s.ctx c.val).declared) } ∧
      ∀ j, j ≠ c.val → t.ctx j = s.ctx j) ∧
    ((s.ctx c.val).dest = 1 →
      (sm3 ((s.ctx c.val).hashed.take (s.ctx c.val).declared) = (s.ctx c.val).expected →
        ∃ t, exec (.digestDone c none) s = .next t ∧ { t with dgst := s.dgst } = s ∧ (t.ctx c.val).state = 2 ∧
          (t.ctx c.val).code = 0 ∧ (t.ctx c.val).matchP = true ∧ (t.ctx c.val).matchN = false) ∧
      (sm3 ((s.ctx c.val).hashed.take (s.ctx c.val).declared) ≠ (s.ctx c.val).expected →
        ∃ t, exec (.digestDone c none) s = .next t ∧ { t with dgst := s.dgst } = s ∧ (t.ctx c.val).state = 2 ∧
          (t.ctx c.val).code = Code.digestMismatch ∧ (t.ctx c.val).matchP = false ∧ (t.ctx c.val).matchN = true) ∧
      ∀ b, ∃ t, exec (.digestDone c (some b)) s = .next t ∧ { t with dgst := s.dgst } = s ∧ (t.ctx c.val).state = 4 ∧
        (t.ctx c.val).code = Code.digestCompareFault ∧ (t.ctx c.val).result = 0 ∧ (t.ctx c.val).matchP = b ∧
        (t.ctx c.val).matchN = b ∧ t.dgst.compareFaults = satInc 0xFFFF s.dgst.compareFaults)) ∧
  (∀ (s : State) (ch : Nat) (m : Bytes) (ms : List Bytes) (fault : Option Bool), ReqAt s ch 0x0070 m ms → (fieldAt (m.drop 12) 0 4).testBit 0 = true →
    s.vampCores = 0 → ∃ t, exec (.digestRun ⟨ch, fault⟩) s = .next t ∧ VAnswers s t ch m ms Code.busy []) ∧
  (∀ (s : State) (ch : Nat) (m : Bytes) (ms : List Bytes) (fault : Option Bool), ReqAt s ch 0x0070 m ms → (fieldAt (m.drop 12) 0 4).testBit 0 = false →
    (s.ctx (bitsOf (fieldAt (m.drop 12) 0 4) 13 8)).state = 0 →
    ∃ t, exec (.digestRun ⟨ch, fault⟩) s = .next t ∧ VAnswers s t ch m ms Code.digestStateBad []) ∧
  ∀ (s : State) (ch c : Nat) (m : Bytes) (ms : List Bytes) (fault : Option Bool), ReqAt s ch 0x0070 m ms → fieldAt (m.drop 12) 0 4 = 1 →
    m.length = 76 → s.vampCores ≠ 0 → 0 < fieldAt (m.drop 12) 8 8 → fieldAt (m.drop 12) 8 8 ≤ 2 ^ 40 → FirstFree s c →
    ∃ t, exec (.digestRun ⟨ch, fault⟩) s = .next t ∧ (t.vchan ch).inbox = ms ∧ (t.ctx c).state = 1 ∧ (t.ctx c).queue = 6 ∧
      (t.ctx c).owner = 7 ∧ (t.ctx c).session = ch ∧ (t.ctx c).declared = fieldAt (m.drop 12) 8 8 ∧
      (∀ j, j ≠ c → t.ctx j = s.ctx j) ∧ { t with vamp := s.vamp, out := s.out, dgst := s.dgst } = s ∧
      t.out = s.out ++ (if s.canSend ch = true then [.response ch (fieldAt m 2 2) 0x0070 Code.ok (digestBody c (t.ctx c))] else [])

/-- STAGE_OPEN of a platform with UPDATE_EN, no lease and a mask, length and capacity that fit gives the adapter a lease with a
fresh number and key and answers with it; without UPDATE_EN it is refused with PHASE_REFUSED. A PATTERN target that is free is leased and
answered at once, a FIRMWARE target once STAGED_READY has been cleared, which is asked of the heel. STAGE_DATA of one page of a
platform lease seals it into its frame of the staging store, where it opens to what was sent, changes nothing outside that frame, and
answers the next offset expected; data of a target at the expected offset are kept until a whole unit is there; at another offset they are refused with STAGE_LENGTH_BAD. -/
def Obligations.StagingOpenAndData : Prop :=
  (∀ (s : State) (ch : Nat) (m : Bytes) (ms : List Bytes) (p : Nat), ReqAt s ch 0x0040 m ms → fieldAt (m.drop 12) 3 1 = 0 →
    fieldAt (m.drop 12) 2 1 = p → p < s.weltCount →
    ((s.platRec p).updateEn = true → (s.plat p).state ≠ .retired → (s.plat p).lease = none →
      (fieldAt (m.drop 12) 1 1 = 0 ∧ fieldAt (m.drop 12) 6 2 = maskOf ((s.slottedLasts p).map (·.entry))) ∨
      (fieldAt (m.drop 12) 1 1 ≠ 0 ∧ fieldAt (m.drop 12) 6 2 ≠ 0 ∧ fieldAt (m.drop 12) 6 2 |||
        maskOf ((s.platRec p).lasts.map (·.entry)) = maskOf ((s.platRec p).lasts.map (·.entry))) →
      fieldAt (m.drop 12) 8 4 = 4096 * s.bundlePages p (fieldAt (m.drop 12) 6 2) → fieldAt (m.drop 12) 8 4 ≠ 0 →
      StagingFits s p (fieldAt (m.drop 12) 6 2) →
      ∃ t l, exec (.stageOpen ch) s = .next t ∧ (t.vchan ch).inbox = ms ∧ (t.plat p).lease = some l ∧
        l.number = (s.boot.leaseSeq + 1) % 2 ^ 32 ∧ l.holder = .session (s.chanKey ch) ∧ (l.purpose = .slot ↔ fieldAt (m.drop 12) 1 1 = 0) ∧
        l.mask = fieldAt (m.drop 12) 6 2 ∧ l.length = fieldAt (m.drop 12) 8 4 ∧ l.received = [] ∧ l.lastData = s.now ∧
        OtherPlats s t p ∧ t.sole = s.sole ∧ t.mem = s.mem ∧ OneAnswer s t ch m Code.ok (natBE 4 l.number ++ natBE 4 0)) ∧
    ((s.platRec p).updateEn = false → ∃ t, exec (.stageOpen ch) s = .next t ∧ VAnswers s t ch m ms Code.phaseRefused [])) ∧
  (∀ (s : State) (ch : Nat) (m : Bytes) (ms : List Bytes), ReqAt s ch 0x0040 m ms → fieldAt (m.drop 12) 3 1 = 2 →
    s.boot.pat = none → s.boot.certs = none → targetLength 2 (fieldAt (m.drop 12) 8 4) = true →
    ∃ t, exec (.stageOpen ch) s = .next t ∧ (t.vchan ch).inbox = ms ∧ t.boot.pat = some {
        number := (s.boot.leaseSeq + 1) % 2 ^ 32
        key := s.chanKey ch
        length := fieldAt (m.drop 12) 8 4
        lastData := s.now } ∧ t.pm = s.pm ∧ t.plats = s.plats ∧
      OneAnswer s t ch m Code.ok (natBE 4 ((s.boot.leaseSeq + 1) % 2 ^ 32) ++ natBE 4 0)) ∧
  (∀ (s : State) (ch : Nat) (m : Bytes) (ms : List Bytes), ReqAt s ch 0x0040 m ms → fieldAt (m.drop 12) 3 1 = 1 →
    s.boot.fw = none → targetLength 1 (fieldAt (m.drop 12) 8 4) = true → MayPost s →
    ∃ t l, exec (.stageOpen ch) s = .next t ∧ (t.vchan ch).inbox = ms ∧ t.boot.fw = some l ∧
      l.opening = some ⟨ch, fieldAt m 2 2, 0x0040⟩ ∧ l.length = fieldAt (m.drop 12) 8 4 ∧ Posts s t 0x0D [0] ∧ t.out = s.out) ∧
  (∀ (s : State) (ch : Nat) (m : Bytes) (ms : List Bytes) (p w f : Nat) (l : Lease), ReqAt s ch 0x0041 m ms → PlatLeaseAt s ch m p l →
    m.length = 4116 → fieldAt (m.drop 12) 4 4 % 4096 = 0 → fieldAt (m.drop 12) 4 4 + 4096 ≤ l.length →
    tget false l.received (fieldAt (m.drop 12) 4 4 / 4096) = false →
    s.bundleFrame p l.mask (fieldAt (m.drop 12) 4 4 / 4096) = some (w, f) →
    ∃ t l', exec (.stageData ch) s = .next t ∧ (t.vchan ch).inbox = ms ∧ (t.plat p).lease = some l' ∧
      l' = { l with received := tset false l.received (fieldAt (m.drop 12) 4 4 / 4096) true, lastData := s.now } ∧
      t.bundlePage p l.mask (fieldAt (m.drop 12) 4 4 / 4096) = m.drop 20 ∧
      (∀ c, c < frameBase (weltChannel w) f ∨ frameBase (weltChannel w) f + 4352 ≤ c →
        Memory.read 0 t.sole.raw c = Memory.read 0 s.sole.raw c) ∧ t.sole.pages = s.sole.pages ∧
      OtherPlats s t p ∧ OneAnswer s t ch m Code.ok (natBE 4 l'.nextOffset)) ∧
  ∀ (s : State) (ch : Nat) (m : Bytes) (ms : List Bytes) (l : TargetLease), ReqAt s ch 0x0041 m ms → TargetAt s ch m 2 l →
    (fieldAt (m.drop 12) 4 4 = l.next → fieldAt (m.drop 12) 4 4 + (m.drop 20).length ≤ l.length →
      l.buf.length + (m.drop 20).length < 65536 →
      ∃ t, exec (.stageData ch) s = .next t ∧ (t.vchan ch).inbox = ms ∧ t.pm = s.pm ∧ t.boot.pat = some {
          l with
          next := l.next + (m.drop 20).length
          buf := l.buf ++ m.drop 20
          lastData := s.now } ∧ OneAnswer s t ch m Code.ok (natBE 4 (l.next + (m.drop 20).length))) ∧
    (fieldAt (m.drop 12) 4 4 ≠ l.next → ∃ t, exec (.stageData ch) s = .next t ∧ VAnswers s t ch m ms Code.stageLengthBad [])

/-- STAGE_CLOSE of an incomplete platform lease is answered STAGE_LENGTH_BAD and ends the lease; of a complete one it gives the
interim answer with DEADLINE, and the first staged last that passes checks 1 to 7 goes to a point engine. A
firmware lease whose image fails is refused with the image's code and ends; one that passes asks the heel for STAGED_READY. A pattern
that its judgement refuses ends the lease with that code; one that passes and is newer than PATTERN_FLOOR is given the interim answer
and waits for its copy. Firmware then opens the journal through the heel, copies unit after unit into the inactive slot and advances
NEXT, closes the journal, compares the slot with the staging, and asks for the flag's flip; PATTERN_FLOOR is then written and
FLOOR_PENDING cleared, and the image accepted. One unit between two requests is the model's own step (log entry 86). A certificate
store that passes R398 is copied in the same way, unit 0 last; one that does not ends the lease with SLOT_VERIFY_FAILED. -/
def Obligations.StagingClose : Prop :=
  (∀ (s : State) (ch : Nat) (m : Bytes) (ms : List Bytes) (p : Nat) (l : Lease), ReqAt s ch 0x0042 m ms → PlatLeaseAt s ch m p l →
    (l.nextOffset < l.length → (s.plat p).act = none → (s.plat p).cob = none → ∃ t, exec (.stageClose ch) s = .next t ∧ (t.vchan ch).inbox = ms ∧
      (t.plat p).lease = none ∧ OtherPlats s t p ∧ t.sole = s.sole ∧ OneAnswer s t ch m Code.stageLengthBad []) ∧
    (l.length ≤ l.nextOffset → ∀ x xs, s.maskEntries p l.mask = x :: xs → s.lastEntry? (16 * p + x.entry) = some x →
      s.stagedHeader p l x = none →
      ∃ t, exec (.stageClose ch) s = .next t ∧ (t.vchan ch).inbox = ms ∧ (t.plat p).lease = some { l with verifying := true } ∧
        t.vamp.jobs = s.vamp.jobs ++ [(s.vamp.nextJob, some ⟨ch, fieldAt m 2 2, 0x0042⟩, .staged p ((x :: xs).map (·.entry)))] ∧
        t.point.ops.length = s.point.ops.length + 1 ∧ OtherPlats s t p ∧
        OneAnswer s t ch m Code.ok (natBE 4 (s.closeDeadline l.length 0)))) ∧
  (∀ (s : State) (ch : Nat) (m : Bytes) (ms : List Bytes) (l : TargetLease), ReqAt s ch 0x0042 m ms → TargetAt s ch m 1 l →
    l.length ≤ l.next → l.buf = [] →
    (∀ c, s.imageFails fwStaging = some c → ∃ t, exec (.stageCloseFirmware ch) s = .next t ∧ (t.vchan ch).inbox = ms ∧
      t.boot.fw = none ∧ t.pm = s.pm ∧ t.heel = s.heel ∧ TwoAnswers s t ch m (natBE 4 (s.closeDeadline l.length 0)) c) ∧
    (s.imageFails fwStaging = none → 65536 + fwBodyLen (s.fwHeader fwStaging) = l.length →
      fwSequence s.boot.header < fwSequence (s.fwHeader fwStaging) → RingFree s →
      ∃ t, exec (.stageCloseFirmware ch) s = .next t ∧ (t.vchan ch).inbox = ms ∧ Posts s t 0x0D [1] ∧ t.pm = s.pm ∧
        t.boot.fw = some { l with closing := some (⟨ch, fieldAt m 2 2, 0x0042⟩, decide (fieldAt (m.drop 12) 4 4 = 1),
          s.now + s.closeDeadline l.length 0) } ∧ OneAnswer s t ch m Code.ok (natBE 4 (s.closeDeadline l.length 0)))) ∧
  (∀ (s : State) (ch : Nat) (m : Bytes) (ms : List Bytes) (l : TargetLease), ReqAt s ch 0x0042 m ms → TargetAt s ch m 2 l →
    l.length ≤ l.next → l.buf = [] → l.length ≤ 8388608 →
    (∀ c, (s.judgeImage (s.pmBytes patStaging l.length) (1 - s.patFlag % 2) (fun n => n = l.length)).1 = .inl c →
      ∃ t, exec (.stageClosePattern ch) s = .next t ∧ (t.vchan ch).inbox = ms ∧ t.boot.pat = none ∧ t.pm = s.pm ∧
        t.pat = s.pat ∧ t.patNext = s.patNext ∧ t.mem = s.mem ∧
        TwoAnswers s t ch m (natBE 4 (s.closeDeadline l.length (ceilDiv l.length 65536))) c) ∧
    (∀ q, (s.judgeImage (s.pmBytes patStaging l.length) (1 - s.patFlag % 2) (fun n => n = l.length)).1 = .inr q →
      s.patFloor < q.sequence →
      ∃ t, exec (.stageClosePattern ch) s = .next t ∧ (t.vchan ch).inbox = ms ∧ t.patNext = s.patNext ∧ t.pat = s.pat ∧
        t.boot.pat = some { l with step := .staging, closing := some (⟨ch, fieldAt m 2 2, 0x0042⟩,
          decide (fieldAt (m.drop 12) 4 4 = 1), s.now + s.closeDeadline l.length (ceilDiv l.length 65536)) } ∧
        t.pm = s.pm ∧ t.mem = s.mem ∧
        OneAnswer s t ch m Code.ok (natBE 4 (s.closeDeadline l.length (ceilDiv l.length 65536))))) ∧
  (∀ (s : State) (l : TargetLease),
    (PatternAt s l .staging → s.copyOpen = false → CopyPosts s s l .copying 0x0F (natBE 1 0 ++ natBE 1 (3 - s.patFlag % 2) ++
      natBE 2 (ceilDiv l.length 65536) ++ natBE 2 0 ++ natBE 2 0 ++ natBE 8 (imgSequence (s.pmBytes patStaging 128)))) ∧
    (PatternAt s l .copying → s.copyOpen = true → s.copyNext < s.copyUnits →
      CopyPosts s (s.copyUnit patStaging (patSlotBase (1 - s.patFlag % 2)) s.copyNext) l .copying 0x0F
        (natBE 1 1 ++ natBE 1 0 ++ natBE 2 0 ++ natBE 2 (s.copyNext + 1) ++ natBE 2 0 ++ natBE 8 0)) ∧
    (PatternAt s l .copying → s.copyOpen = true → s.copyUnits ≤ s.copyNext →
      CopyPosts s s l .copied 0x0F (natBE 1 2 ++ natBE 1 0 ++ natBE 2 0 ++ natBE 2 0 ++ natBE 2 0 ++ natBE 8 0)) ∧
    (PatternAt s l .copied → s.copyOpen = false →
      (sm3 (s.pmBytes (patSlotBase (1 - s.patFlag % 2)) l.length) = sm3 (s.pmBytes patStaging l.length) →
        CopyPosts s s l .flagged 0x0E
          (natBE 4 (mkPatFlag (1 - s.patFlag % 2) true (s.patFlag.testBit 2) (bitsOf s.patFlag 31 16 + 1)))) ∧
      (sm3 (s.pmBytes (patSlotBase (1 - s.patFlag % 2)) l.length) ≠ sm3 (s.pmBytes patStaging l.length) →
        s.copyStep.boot.pat = none ∧ s.copyStep.pm = s.pm ∧ s.copyStep.mem = s.mem ∧ s.copyStep.heel = s.heel)) ∧
    (PatternAt s l .flagged → s.patFlag.testBit 1 = true →
      CopyPosts s s l .floored 0x0E
        (natBE 4 (mkPatFlag (s.patFlag % 2) false (s.patFlag.testBit 2) (bitsOf s.patFlag 31 16 + 1))) ∧
      s.copyStep.patFloor = s.slotSequence (s.patFlag % 2)) ∧
    (PatternAt s l .floored → s.patFlag.testBit 1 = false →
      ∀ q, (s.judgeImage (s.pmBytes patStaging l.length) (s.patFlag % 2) (fun n => n = l.length)).1 = .inr q →
      s.copyStep.patNext = some q ∧ s.copyStep.boot.pat = some { l with step := .accepted } ∧ s.copyStep.pat = s.pat ∧
        s.copyStep.plats = s.plats)) ∧
  (∀ (s : State) (l : TargetLease), CopyReady s → s.boot.pat = none → s.boot.certs = some l → l.closing ≠ none →
    l.step = .copying → s.copyOpen = true → s.copyNext < 16 →
    Posts s s.copyStep 0x0F (natBE 1 1 ++ natBE 1 0 ++ natBE 2 0 ++ natBE 2 (s.copyNext + 1) ++ natBE 2 0 ++ natBE 8 0) ∧
    s.copyStep.pm = (if s.copyNext = 0 then s.pmWrite certStore (ones 65536)
      else s.copyUnit patStaging certStore s.copyNext).pm) ∧
  (∀ (s : State) (l : TargetLease) (o : Origin) (now : Bool) (d : Nat), CopyReady s → s.boot.pat = none →
    s.boot.certs = some l → l.closing = some (o, now, d) →
    (l.step = .copying → s.copyOpen = true → 16 ≤ s.copyNext →
      Posts s s.copyStep 0x0F (natBE 1 2 ++ natBE 1 0 ++ natBE 2 0 ++ natBE 2 0 ++ natBE 2 0 ++ natBE 8 0) ∧
      s.copyStep.pm = (s.copyUnit patStaging certStore 0).pm ∧ s.copyStep.boot.certs = some { l with step := .copied }) ∧
    (l.step = .copied → s.copyOpen = false → s.copyStep.boot.certs = none ∧ s.copyStep.pm = s.pm ∧
      s.copyStep.out = s.out ++ (if s.canSend o.ch = true then [.response o.ch o.tag o.opcode Code.ok (natBE 4 0)] else []))) ∧
  ∀ (s : State) (ch : Nat) (m : Bytes) (ms : List Bytes) (l : TargetLease), ReqAt s ch 0x0042 m ms → TargetAt s ch m 3 l →
    l.length ≤ l.next → l.buf = [] →
    (certStoreOk (s.pmBytes patStaging 1048576) = true → ∃ t, exec (.stageCloseCerts ch) s = .next t ∧ (t.vchan ch).inbox = ms ∧
      t.boot.certs = some { l with step := .staging, closing := some (⟨ch, fieldAt m 2 2, 0x0042⟩,
        decide (fieldAt (m.drop 12) 4 4 = 1), s.now + s.closeDeadline l.length 16) } ∧ t.pm = s.pm ∧ t.mem = s.mem ∧
      OneAnswer s t ch m Code.ok (natBE 4 (s.closeDeadline l.length 16))) ∧
    (certStoreOk (s.pmBytes patStaging 1048576) = false → ∃ t, exec (.stageCloseCerts ch) s = .next t ∧
      (t.vchan ch).inbox = ms ∧ t.boot.certs = none ∧ t.pm = s.pm ∧ t.mem = s.mem ∧
      TwoAnswers s t ch m (natBE 4 (s.closeDeadline l.length 16)) Code.slotVerifyFailed)

/-- STAGE_ABORT by the holder ends a platform lease with what it staged, or a target's lease, and answers OK; a lease number
nobody holds is refused with PHASE_REFUSED. 60,000,000 stitches without data end a pattern lease that is not being closed, and a
platform lease that is not being verified; a host lease expiring in phase UPDATE asks the heel for RUNTIME. Custody states, holds
and memories stay. -/
def Obligations.StagingEnds : Prop :=
  (∀ (s : State) (ch : Nat) (m : Bytes) (ms : List Bytes), ReqAt s ch 0x0043 m ms →
    (∀ p l, PlatLeaseAt s ch m p l → (s.plat p).act = none → (s.plat p).cob = none → ∃ t, exec (.stageAbort ch) s = .next t ∧ (t.vchan ch).inbox = ms ∧
      t.plat p = { s.plat p with lease := none, writeback := none, recovery := none } ∧ OtherPlats s t p ∧
      { t with plats := s.plats, vamp := s.vamp, out := s.out } = s ∧ OneAnswer s t ch m Code.ok []) ∧
    (∀ k l, TargetAt s ch m k l → ∃ t, exec (.stageAbort ch) s = .next t ∧ (t.vchan ch).inbox = ms ∧ t.target k = none ∧
      { t with boot := s.boot, vamp := s.vamp, out := s.out } = s ∧ OneAnswer s t ch m Code.ok []) ∧
    (s.platLease (fieldAt (m.drop 12) 0 4) = none → s.targetOf (fieldAt (m.drop 12) 0 4) = none →
      ∃ t, exec (.stageAbort ch) s = .next t ∧ VAnswers s t ch m ms Code.phaseRefused [])) ∧
  (∀ (s : State) (l : TargetLease), s.live = true → s.boot.pat = some l → l.closing = none → l.lastData + 60000000 ≤ s.now →
    ∃ t, exec (.leaseExpiry .pattern) s = .next t ∧ t.boot.pat = none ∧ { t with boot := s.boot, log := s.log } = s) ∧
  (∀ (s : State) (l : TargetLease), s.live = true → s.boot.pat = some l → s.now < l.lastData + 60000000 →
    exec (.leaseExpiry .pattern) s = .next s) ∧
  ∀ (s : State) (p : Nat) (l : Lease), s.live = true → (s.plat p).lease = some l → l.lastData + 60000000 ≤ s.now →
    l.verifying = false → (s.plat p).act = none → (s.plat p).cob = none →
    (l.holder ≠ .host → ∃ t, exec (.leaseExpiry (.platform p)) s = .next t ∧
      t.plat p = { s.plat p with lease := none, writeback := none, recovery := none } ∧ OtherPlats s t p ∧
      { t with plats := s.plats, log := s.log } = s) ∧
    (l.holder = .host → (s.plat p).phase = .update → RingFree s → ∃ t, exec (.leaseExpiry (.platform p)) s = .next t ∧
      (t.plat p).lease = none ∧ (t.plat p).phase = .update ∧ OtherPlats s t p ∧ t.mem = s.mem ∧ Posts s t 0x03 (natBE 1 p ++ natBE 1 2))

/-- HOLD and RETIRE with ADAPTER_HOLD post their heel requests; without it they are refused with PHASE_REFUSED. REFILL of a HELD or
QUARANTINED platform of the pattern with nothing before its fill raises the fill-epoch counter and leaves the new epoch to the next
boundary; where something comes first the fill is owed and the command waits with it (log entry 84). RECOVER of a QUARANTINED platform
returns it to RECOVERING at the next boundary. UPDATE_OPEN of a platform RUNNING in RUNTIME with UPDATE_EN and no lease gives the
host a lease and asks the heel for UPDATE; UPDATE_CLOSE ends a host lease and asks for RUNTIME. A QUIESCE that R490 permits is
answered OK and waits for its acknowledgement. No custody state changes with the command itself. -/
def Obligations.PlatformControl : Prop :=
  (∀ (s : State) (ch p : Nat) (m : Bytes) (ms : List Bytes), CtlAt s ch 0 p m ms →
    ((s.platRec p).adapterHold = true → (s.plat p).state ≠ .retired → MayPost s → ∃ t, exec (.platformCtlHold ch) s = .next t ∧
      (t.vchan ch).inbox = ms ∧ Posts s t 0x01 (natBE 1 p ++ natBE 1 1) ∧ { t with vamp := s.vamp, heel := s.heel } = s) ∧
    ((s.platRec p).adapterHold = true → (s.plat p).state ≠ .retired → s.ringSpare = false →
      ∃ t, exec (.platformCtlHold ch) s = .next t ∧ VAnswers s t ch m ms Code.busy []) ∧
    ((s.platRec p).adapterHold = false → ∃ t, exec (.platformCtlHold ch) s = .next t ∧ VAnswers s t ch m ms Code.phaseRefused [])) ∧
  (∀ (s : State) (ch p : Nat) (m : Bytes) (ms : List Bytes), CtlAt s ch 1 p m ms →
    ((s.plat p).state = .held ∨ (s.plat p).state = .quarantined → s.env.cleared = false → s.platRec? p ≠ none →
      s.fillWaits p = false → (∀ q < 64, s.raiseWaits q = false) →
      (∀ q n k c, Deferred.epoch q n k c ∈ s.deferred → q ≠ p) → s.epochCounter < epochMax →
      ∃ t key, exec (.platformCtlRefill ch) s = .next t ∧ (t.vchan ch).inbox = ms ∧ t.epochCounter = s.epochCounter + 1 ∧
        t.deferred = s.deferred ++ [.epoch p (s.epochCounter + 1) key 12, .respond ⟨ch, fieldAt m 2 2, 0x0050⟩ Code.ok p] ∧
        t.fresh = s.fresh + 1 ∧ t.plats = s.plats ∧ t.out = s.out ∧ t.heel = s.heel) ∧
    ((s.plat p).state = .held ∨ (s.plat p).state = .quarantined → s.env.cleared = false → s.platRec? p ≠ none →
      s.fillWaits p = true → (∀ q n k c, Deferred.epoch q n k c ∈ s.deferred → q ≠ p) → s.epochCounter < epochMax →
      ∃ t, exec (.platformCtlRefill ch) s = .next t ∧ (t.vchan ch).inbox = ms ∧ t.plat p = { s.plat p with
          fillOwed := true
          refills := (s.plat p).refills ++ [⟨ch, fieldAt m 2 2, 0x0050⟩] } ∧
        OtherPlats s t p ∧ t.deferred = s.deferred ∧ t.out = s.out ∧ t.mem = s.mem) ∧
    ((s.plat p).state = .running → ∃ t, exec (.platformCtlRefill ch) s = .next t ∧ VAnswers s t ch m ms Code.phaseRefused [])) ∧
  (∀ (s : State) (ch p : Nat) (m : Bytes) (ms : List Bytes), CtlAt s ch 2 p m ms →
    ((s.plat p).state = .quarantined → s.env.cleared = false → ∃ t, exec (.platformCtlRecover ch) s = .next t ∧
      (t.vchan ch).inbox = ms ∧ (t.plat p).state = .quarantined ∧ OtherPlats s t p ∧
      t.deferred = s.deferred ++ [.custody p .recovering 12, .respond ⟨ch, fieldAt m 2 2, 0x0050⟩ Code.ok p] ∧
      { t with plats := s.plats, vamp := s.vamp, deferred := s.deferred } = s) ∧
    ((s.plat p).state ≠ .quarantined → ∃ t, exec (.platformCtlRecover ch) s = .next t ∧
      VAnswers s t ch m ms Code.phaseRefused [])) ∧
  (∀ (s : State) (ch p : Nat) (m : Bytes) (ms : List Bytes), CtlAt s ch 3 p m ms → (s.platRec p).updateEn = true →
    (s.plat p).state = .running → (s.plat p).phase = .runtime → (s.plat p).lease = none → MayPost s →
    ∃ t l, exec (.updateOpen ch) s = .next t ∧ (t.vchan ch).inbox = ms ∧ (t.plat p).lease = some l ∧ l.holder = .host ∧
      l.number = (s.boot.leaseSeq + 1) % 2 ^ 32 ∧ (t.plat p).phase = .runtime ∧ OtherPlats s t p ∧
      Posts s t 0x03 (natBE 1 p ++ natBE 1 3) ∧ t.out = s.out) ∧
  (∀ (s : State) (ch p : Nat) (m : Bytes) (ms : List Bytes) (l : Lease), CtlAt s ch 4 p m ms →
    (s.plat p).state = .running → (s.plat p).phase = .update → (s.plat p).lease = some l → l.holder = .host → MayPost s →
    ∃ t, exec (.updateClose ch) s = .next t ∧ (t.vchan ch).inbox = ms ∧ t.plat p = { s.plat p with lease := none } ∧
      OtherPlats s t p ∧ Posts s t 0x03 (natBE 1 p ++ natBE 1 2) ∧ t.out = s.out) ∧
  (∀ (s : State) (ch p : Nat) (m : Bytes) (ms : List Bytes), CtlAt s ch 5 p m ms →
    ((s.platRec p).adapterHold = true → MayPost s → ∃ t, exec (.platformCtlRetire ch) s = .next t ∧ (t.vchan ch).inbox = ms ∧
      Posts s t 0x02 (natBE 1 p ++ natBE 1 1) ∧ { t with vamp := s.vamp, heel := s.heel } = s) ∧
    ((s.platRec p).adapterHold = false → ∃ t, exec (.platformCtlRetire ch) s = .next t ∧
      VAnswers s t ch m ms Code.phaseRefused [])) ∧
  ∀ (s : State) (ch : Nat) (m : Bytes) (ms : List Bytes), ReqAt s ch 0x0050 m ms → fieldAt (m.drop 12) 2 1 = 6 →
    fieldAt (m.drop 12) 3 1 = 0xFF → 1000 ≤ fieldAt (m.drop 12) 4 4 →
    s.quiesceOk (fieldAt (m.drop 12) 1 1 = 1) (fieldAt (m.drop 12) 4 4) = none → s.ringSpare = true →
    ∃ t, exec (.platformCtlQuiesce ch) s = .next t ∧ VAnswers s t ch m ms Code.ok (natBE 4 0) ∧
      t.vamp.quiesce = s.vamp.quiesce ++ [(⟨ch, fieldAt m 2 2, 0x0050⟩, fieldAt (m.drop 12) 1 1, fieldAt (m.drop 12) 4 4, s.now)]

/-- A KEY_IMPORT or KEY_REPLACE that a check of R362 refuses is answered with that check's code and changes no key; one while
another key operation runs, with BUSY. A PLAIN blob that passes is committed to its volatile slot with a new generation and answered
with what KEY_INFO shows of it; a SEALED one waits for 418 steps of a point engine. One whose steps have run and
whose blob opens to the right check value begins its record. A persistent record is written over three stitches (log entry 85): the
counter is raised and the alternate half written, SELECT names it, the old half is zeroised; the slot then holds the new record, and
no other slot of the store has changed; a record made meanwhile waits for its turn. KEY_DESTROY leaves a volatile slot EMPTY with a new generation, and begins an empty record in
a persistent one. KEY_INFO answers with the slot's state; a slot above 1,279 is
refused with KEY_SLOT_RESERVED. -/
def Obligations.KeyCommands : Prop :=
  (∀ (s : State) (ch : Nat) (m : Bytes) (ms : List Bytes), ReqAt s ch 0x0060 m ms →
    (s.keyOpRuns = true → ∃ t, exec (.keyImport ch) s = .next t ∧ VAnswers s t ch m ms Code.busy []) ∧
    (∀ c, s.keyOpRuns = false → s.keyRefuses false (fieldAt (m.drop 12) 2 2) (m.drop 16) = some c →
      ∃ t, exec (.keyImport ch) s = .next t ∧ VAnswers s t ch m ms c []) ∧
    (∀ slot v, s.keyOpRuns = false → PlainBlob s false m slot v → s.pair.role ≠ .active →
      ∃ t, exec (.keyImport ch) s = .next t ∧ (t.vchan ch).inbox = ms ∧
        VolatileKey s t slot (.key (blobRec (m.drop 16) (beNat v) s.keys.code (s.keys.volGen + 1))) ∧
        OneAnswer s t ch m Code.ok (t.keyInfoBody slot)) ∧
    (s.keyOpRuns = false → s.keyRefuses false (fieldAt (m.drop 12) 2 2) (m.drop 16) = none → fieldAt (m.drop 16) 0 1 = 2 →
      s.patNext = none → EnginesFree s s.vamp.ledgerEnd →
      ∃ t, exec (.keyImport ch) s = .next t ∧ (t.vchan ch).inbox = ms ∧ t.keys = s.keys ∧ t.out = s.out ∧
        t.vamp.jobs = s.vamp.jobs ++ [(s.vamp.nextJob, some ⟨ch, fieldAt m 2 2, 0x0060⟩,
          .key ⟨false, fieldAt (m.drop 12) 2 2, m.drop 16, none⟩)] ∧
        t.point.ops.length = s.point.ops.length + 1)) ∧
  (∀ (s : State) (id : Nat) (o : Origin) (op : KeyOp) (v : Bytes), s.live = true →
    s.vamp.jobs.find? (fun j => j.1 = id) = some (id, some o, .key op) → s.opDone 4 (4096 + id) = true → op.slot < 1024 →
    s.targetRefuses op.replace op.slot = none → s.unwrapBlob op.parent op.blob = .ok v →
    checkValue (fieldAt op.blob 1 1) (BitVec.ofNat 256 (beNat v)) = bytesAt op.blob 8 8 → s.genExhausted op.slot = false →
    s.keys.commit = none →
    ∃ t, exec (.updatePointOperationDone (4096 + id)) s = .next t ∧ t.keys = { s.keys with commit := some {
        slot := op.slot
        half := if s.keySelect op.slot = 1 then 1 else 0
        record := blobRec op.blob (beNat v) (match op.parent with | some q => q.ownGen | none => s.keys.code) 0
        began := s.now
        origin := some o } } ∧ t.out = s.out ∧ t.mem = s.mem ∧ t.plats = s.plats) ∧
  (∀ (s : State) (c : KeyCommit), s.keys.commit = some c → c.written = false → c.selected = false → c.began < s.now →
    c.slot < 1024 → c.half < 2 → c.record.type < 256 → c.record.usage < 256 → c.record.parent < 65536 →
    c.record.parentGen < 2 ^ 32 → s.word keyGenAddr < 0xFFFFFFFF → c.record.bad = false → s.keys.queue = [] →
    s.keyStep.keyStep.keyStep.keys.commit = none ∧
    s.keyStep.keyStep.keyStep.word keyGenAddr = s.word keyGenAddr + 1 ∧
    s.keyStep.keyStep.keyStep.keyRec c.slot = (if c.record.usage = 0 then .empty (s.word keyGenAddr + 1)
      else .key { c.record with ownGen := s.word keyGenAddr + 1 }) ∧
    s.keyStep.keyStep.keyStep.keyHalf c.slot (1 - c.half) = fill 64 0 ∧
    (∀ a, a < 256 * c.slot ∨ 256 * c.slot + 256 ≤ a →
      Memory.read 0 s.keyStep.keyStep.keyStep.keys.store a = Memory.read 0 s.keys.store a) ∧
    s.keyStep.keyStep.keyStep.keys.vol = s.keys.vol ∧
    s.keyStep.keyStep.keyStep.keys.commits = satInc 0xFFFF s.keys.commits) ∧
  (∀ (s : State) (c : KeyCommit) (slot : Nat) (r : KeyRec) (o : Option Origin), s.keys.commit = some c → slot < 1024 →
    s.commitKey slot r o = { s with keys := { s.keys with queue := s.keys.queue ++ [{
      slot := slot
      half := if s.keySelect slot = 1 then 1 else 0
      record := r
      began := s.now
      origin := o }] } }) ∧
  (∀ (s : State) (ch slot : Nat) (m : Bytes) (ms : List Bytes) (v : Bytes), ReqAt s ch 0x0061 m ms → s.keyOpRuns = false →
    PlainBlob s true m slot v → s.pair.role ≠ .active →
    ∃ t, exec (.keyReplace ch) s = .next t ∧ (t.vchan ch).inbox = ms ∧
      VolatileKey s t slot (.key (blobRec (m.drop 16) (beNat v) s.keys.code (s.keys.volGen + 1))) ∧
      OneAnswer s t ch m Code.ok (t.keyInfoBody slot)) ∧
  (∀ (s : State) (ch slot : Nat) (m : Bytes) (ms : List Bytes), ReqAt s ch 0x0062 m ms → fieldAt (m.drop 12) 2 2 = slot →
    s.keyOpRuns = false → s.keysClosed = none → 16 ≤ slot → slot ≤ 1279 →
    ((∃ g, s.keyRec slot = .empty g) → ∃ t, exec (.keyDestroy ch) s = .next t ∧ VAnswers s t ch m ms Code.keySlotEmpty []) ∧
    ((∀ g, s.keyRec slot ≠ .empty g) → s.genExhausted slot = false →
      (1024 ≤ slot → ∃ t, exec (.keyDestroy ch) s = .next t ∧ (t.vchan ch).inbox = ms ∧
        VolatileKey s t slot (.empty (s.keys.volGen + 1)) ∧ OneAnswer s t ch m Code.ok []) ∧
      (slot < 1024 → ∃ t, exec (.keyDestroy ch) s = .next t ∧ (t.vchan ch).inbox = ms ∧ t.keys = { s.keys with commit := some {
          slot := slot
          half := if s.keySelect slot = 1 then 1 else 0
          record := {}
          began := s.now
          origin := some ⟨ch, fieldAt m 2 2, 0x0062⟩ } } ∧ t.out = s.out ∧ t.mem = s.mem))) ∧
  ∀ (s : State) (ch slot : Nat) (m : Bytes) (ms : List Bytes), ReqAt s ch 0x0063 m ms → fieldAt (m.drop 12) 2 2 = slot →
    (1279 < slot → ∃ t, exec (.keyInfo ch) s = .next t ∧ VAnswers s t ch m ms Code.keySlotReserved []) ∧
    (slot ≤ 1279 → (s.slotInfo slot).type ≠ 4 → ∃ t, exec (.keyInfo ch) s = .next t ∧
      VAnswers s t ch m ms Code.ok (s.keyInfoBody slot)) ∧
    (slot ≤ 1279 → (s.slotInfo slot).type = 4 → s.slotState slot ≠ 2 → s.patNext = none → EnginesFree s s.vamp.ledgerEnd →
      ∃ t, exec (.keyInfo ch) s = .next t ∧ (t.vchan ch).inbox = ms ∧ t.keys = s.keys ∧ t.out = s.out ∧
        t.vamp.jobs = s.vamp.jobs ++ [(s.vamp.nextJob, some ⟨ch, fieldAt m 2 2, 0x0063⟩, .keyInfo slot (s.keyInfoBody slot))])

/-- FUSE_READ answers with both readings and the value taken, with zeros for the wrapped roots, and with BUSY while a word
programs. FUSE_SHADOW_SET of a feature word in PROVISION waits for the next boundary; outside PROVISION it is refused with
FUSE_WORD_DENIED. FUSE_PROGRAM, FUSE_LOCK and LIFECYCLE_ADVANCE that need no owner's signature are kept and posted to the heel; one
that needs it goes to a point engine first; while a fuse command is open or another request is admitted each is answered BUSY, and so
is a FUSE_PROGRAM for whose request the heel's ring has no room. None of them changes a fuse. -/
def Obligations.FuseRequests : Prop :=
  (∀ (s : State) (ch w : Nat) (m : Bytes) (ms : List Bytes), ReqAt s ch 0x0080 m ms → fieldAt (m.drop 12) 0 4 = w →
    (s.fuse.job ≠ none → ∃ t, exec (.fuseRead ch) s = .next t ∧ VAnswers s t ch m ms Code.busy []) ∧
    (s.fuse.job = none → 14 ≤ w → w ≤ 37 → ∃ t, exec (.fuseRead ch) s = .next t ∧ VAnswers s t ch m ms Code.ok (fill 12 0)) ∧
    (s.fuse.job = none → w < 14 ∨ 37 < w → ∃ t, exec (.fuseRead ch) s = .next t ∧ VAnswers s t ch m ms Code.ok
      (natBE 4 (tget {} s.fuse.otp w).tight ++ natBE 4 (tget {} s.fuse.otp w).loose ++ natBE 4 (s.freshTaken w)))) ∧
  (∀ (s : State) (ch w : Nat) (m : Bytes) (ms : List Bytes), ReqAt s ch 0x0081 m ms → fieldAt (m.drop 12) 2 2 = w →
    (s.lifecycle ≠ 1 → ∃ t, exec (.fuseShadowSet ch) s = .next t ∧ VAnswers s t ch m ms Code.fuseWordDenied []) ∧
    (s.lifecycle = 1 → s.splitBad = false → fieldAt (m.drop 12) 0 2 = 1 → 152 ≤ w → w < 152 + s.split →
      ∃ t, exec (.fuseShadowSet ch) s = .next t ∧ (t.vchan ch).inbox = ms ∧
        t.fuse = { s.fuse with overNext := tput s.fuse.overNext w (fieldAt (m.drop 12) 4 4) } ∧
        t.deferred = s.deferred ++ [.fuseShadow] ∧ OneAnswer s t ch m Code.ok [])) ∧
  (∀ (s : State) (ch : Nat) (m : Bytes) (ms : List Bytes), ReqAt s ch 0x0082 m ms → fieldAt (m.drop 12) 4 4 ≠ 0 →
    (s.fuse.job ≠ none ∨ s.fuseReserved = true → ∃ t, exec (.fuseProgram ch) s = .next t ∧
      VAnswers s t ch m ms Code.busy []) ∧
    (s.fuse.job = none → s.fuseReserved = false → s.ringSpare = false → ∃ t, exec (.fuseProgram ch) s = .next t ∧
      VAnswers s t ch m ms Code.busy []) ∧
    (s.fuse.job = none → s.fuseReserved = false → s.lifecycle ≠ 2 → MayPost s →
      ∃ t r, exec (.fuseProgram ch) s = .next t ∧ (t.vchan ch).inbox = ms ∧ t.fuse = { s.fuse with asked := [r] } ∧
        r.word = fieldAt (m.drop 12) 0 4 ∧ r.mask = fieldAt (m.drop 12) 4 4 ∧ r.lock = false ∧ r.advance = false ∧
        r.origin = some ⟨ch, fieldAt m 2 2, 0x0082⟩ ∧
        Posts s t 0x10 (natBE 1 0 ++ natBE 2 r.word ++ natBE 4 r.mask ++ natBE 4 0) ∧ t.out = s.out) ∧
    (s.fuse.job = none → s.fuseReserved = false → s.ringSpare = true → s.lifecycle = 2 → fieldAt (m.drop 12) 0 4 = 4 →
      ∃ t, exec (.fuseProgram ch) s = .next t ∧ (t.vchan ch).inbox = ms ∧ t.fuse = s.fuse ∧ t.heel = s.heel ∧
        t.vamp.jobs.length = s.vamp.jobs.length + 1 ∧ t.point.ops.length = s.point.ops.length + 1 ∧ t.out = s.out)) ∧
  (∀ (s : State) (ch : Nat) (m : Bytes) (ms : List Bytes), ReqAt s ch 0x0082 m ms → fieldAt (m.drop 12) 4 4 = 0 →
    504 ≤ fieldAt (m.drop 12) 0 4 → s.fuse.job = none → s.fuseReserved = false → MayPost s →
    ∃ t r, exec (.fuseLock ch) s = .next t ∧ (t.vchan ch).inbox = ms ∧ t.fuse = { s.fuse with asked := [r] } ∧
      r.word = fieldAt (m.drop 12) 0 4 ∧ r.lock = true ∧ r.mask = 0 ∧
      Posts s t 0x10 (natBE 1 0 ++ natBE 2 r.word ++ natBE 4 0 ++ natBE 4 0) ∧ t.out = s.out) ∧
  (∀ (s : State) (ch : Nat) (m : Bytes) (ms : List Bytes), s.fuse.job ≠ none ∨ s.fuseReserved = true →
    (ReqAt s ch 0x0082 m ms → fieldAt (m.drop 12) 4 4 = 0 → ∃ t, exec (.fuseLock ch) s = .next t ∧
      VAnswers s t ch m ms Code.busy []) ∧
    (ReqAt s ch 0x0083 m ms → ∃ t, exec (.lifecycleAdvance ch) s = .next t ∧ VAnswers s t ch m ms Code.busy [])) ∧
  ∀ (s : State) (ch : Nat) (m : Bytes) (ms : List Bytes), ReqAt s ch 0x0083 m ms → s.fuse.job = none → s.fuseReserved = false →
    (s.lifecycle ≤ 1 → MayPost s → ∃ t r, exec (.lifecycleAdvance ch) s = .next t ∧ (t.vchan ch).inbox = ms ∧
      t.fuse = { s.fuse with asked := [r] } ∧ r.advance = true ∧ r.word = fieldAt (m.drop 12) 0 4 ∧
      Posts s t 0x10 (natBE 1 1 ++ natBE 2 r.word ++ natBE 4 0 ++ natBE 4 0)) ∧
    (s.lifecycle = 2 → s.ringSpare = true → fieldAt (m.drop 12) 0 4 = 3 → ∃ t, exec (.lifecycleAdvance ch) s = .next t ∧ (t.vchan ch).inbox = ms ∧
      t.fuse = s.fuse ∧ t.heel = s.heel ∧ t.vamp.jobs.length = s.vamp.jobs.length + 1 ∧ t.out = s.out)

/-- FUSE_GATE of a request the fuse rules permit opens the gate for one job; one they refuse is answered with their code and
opens nothing. At the end of the pulses the word holds its old bits and the requested ones that read blown, no other fuse has
changed, the gate is shut and PROG_CODE says OK when every bit stands at both margins and FUSE_PROGRAM_FAILED when one is missing; an
environment out of range, in any stitch of the pulses, ends the job with FUSE_PROGRAM_ENV. FLOOR_RAISE changes ARB words only, and clears FLOOR_PENDING once they
stand. SCUTTLE_FUSE_BLOW blows LC_SCUTTLED and then lock word 0, and clears SCUTTLE_PENDING. -/
def Obligations.FuseBlowing : Prop :=
  (∀ (s : State) (e : RingEntry), AtHead s 0x10 11 e → fieldAt e.args 0 1 ≤ 1 → s.fuse.job = none → s.fuseReserved = false →
    s.heel.head < 64 →
    (s.fuseRefuses (s.gateReq e) = none → ∃ t j, exec .fuseGate s = .next t ∧ t.fuse.gate = true ∧ t.fuse.job = some j ∧
      j.req = s.gateReq e ∧ j.began = s.now ∧ j.entry = s.heel.head ∧ t.fuse.otp = s.fuse.otp ∧
      t.fuse.progWord = (s.gateReq e).target ∧ t.heel.head = (s.heel.head + 1) % 64 ∧
      { t with fuse := s.fuse, heel := s.heel } = s) ∧
    (∀ c, s.fuseRefuses (s.gateReq e) = some c → Refuses s .fuseGate c)) ∧
  (∀ (s : State) (j : FuseJob) (tight loose lt ll : Nat), s.pwr.mainDown = false → s.fuse.job = some j → j.req.lock = false →
    j.req.advance = false → j.req.word ≠ 3 → j.req.origin = none → s.heel.owed = none →
    ∃ t, exec (.fuseProgramDone tight loose lt ll) s = .next t ∧
      Blown s t j.req.word (afterPulses s j.req.word j.bits tight loose) ∧
      t.fuse.gate = false ∧ t.fuse.job = none ∧ t.plats = s.plats ∧ t.keys = s.keys ∧ t.mem = s.mem ∧
      (j.abort = some (some Code.fuseProgramEnv) → t.fuse.progCode = Code.fuseProgramEnv) ∧
      (j.abort ≠ some (some Code.fuseProgramEnv) → (t.freshLoose j.req.word) &&& j.req.mask ≠ j.req.mask →
        t.fuse.progCode = Code.fuseProgramFailed) ∧
      (j.abort ≠ some (some Code.fuseProgramEnv) → (t.freshLoose j.req.word) &&& j.req.mask = j.req.mask → (t.freshTight j.req.word) &&& j.req.mask = j.req.mask →
        t.fuse.progCode = Code.ok ∧ t.log = s.log) ∧
      (j.abort ≠ some (some Code.fuseProgramEnv) → (t.freshLoose j.req.word) &&& j.req.mask = j.req.mask → (t.freshTight j.req.word) &&& j.req.mask ≠ j.req.mask →
        t.fuse.progCode = Code.fuseMarginal)) ∧
  (∀ (s : State) (j : FuseJob) (tight loose : Nat), s.pwr.mainDown = false → s.fuse.job = some j →
    s.fuseEnvOk = false ∨ j.abort = some (some Code.fuseProgramEnv) → j.req.lock = false → j.req.origin = none →
    s.heel.owed = none →
    ∃ t, exec (.fuseProgramEnv tight loose) s = .next t ∧
      Blown s t j.req.target (afterPulses s j.req.target j.bits tight loose) ∧
      t.fuse.gate = false ∧ t.fuse.job = none ∧ t.fuse.progCode = Code.fuseProgramEnv ∧
      { t with fuse := s.fuse, heel := s.heel } = s) ∧
  (∀ (s : State) (words : List (Nat × Nat)) (f : Nat), s.live = true → s.boot.stage ≠ .stopped → s.bootState.testBit 7 = true →
    s.fuseEnvOk = true → s.fuse.job = none → s.fuseLocked 4 = false → s.confFloor = some f →
    ∃ t, exec (.floorRaise words) s = .next t ∧
      (∀ k, k < 136 ∨ 144 ≤ k → tget {} t.fuse.otp k = tget {} s.fuse.otp k) ∧
      (∀ k b, (tget {} s.fuse.otp k).loose.testBit b = true → (tget {} t.fuse.otp k).loose.testBit b = true) ∧
      ((∀ n, s.arbCount ≤ n → n < f → n < 256 → (t.freshLoose (136 + n / 32)).testBit (n % 32) = true) →
        t.bootState.testBit 7 = false) ∧ t.plats = s.plats ∧ t.keys = s.keys) ∧
  ∀ (s : State) (tight loose lt ll : Nat), s.live = true → s.scuttlePending = true → s.vfprogOk = true → s.fuse.job = none →
    s.boot.stage ≠ .rom → s.freshLoose 3 = 0 →
    ((loose ||| tight) &&& 0xFFFFFFFF ≠ 0 → ∃ t, exec (.scuttleFuseBlow tight loose lt ll) s = .next t ∧
      t.scuttlePending = false ∧ t.freshLoose 3 = (loose ||| tight) &&& 0xFFFFFFFF ∧
      tget {} t.fuse.otp 504 = afterPulses s 504 0xFFFFFFFF lt ll ∧
      (∀ k, k ≠ 3 → k ≠ 504 → tget {} t.fuse.otp k = tget {} s.fuse.otp k) ∧ t.plats = s.plats ∧ t.keys = s.keys) ∧
    ((loose ||| tight) &&& 0xFFFFFFFF = 0 → ∃ t, exec (.scuttleFuseBlow tight loose lt ll) s = .next t ∧
      t.scuttlePending = true ∧ (∀ k, k ≠ 3 → tget {} t.fuse.otp k = tget {} s.fuse.otp k))

/-- A standby that sees both lines high in three samples in a row notes the release and, when fit, plans its claim. At the claim stitch with both lines high it
becomes CLAIMING and drives its first line; with a line low it abandons the claim. A stitch later it drives both lines, or, odd and
finding its second line low, yields. Three low read-backs bring the takeover at the next boundary; one that is high, in any of
the three stitches, ends the claim, the unit STANDBY and both lines undriven. The takeover makes the unit ACTIVE. One line low and one
high in three samples in a row is a disagreement, told once. A line that the active unit drives and reads high three times in a row
is fatal cause 2. SHANK releases for a swap that is ready; a claim is accepted where the unit may claim (log entry 92) and refused
elsewhere. -/
def Obligations.ClaimAndTakeover : Prop :=
  (∀ (s : State), Standby s → s.paired = true → s.pair.released = none → 2 ≤ s.pair.highRun → ∃ t, exec (.shankReleaseSeen true true) s = .next t ∧
      t.pair.released = some s.now ∧ t.pair.role = .standby ∧ t.plats = s.plats ∧ t.deferred = s.deferred ∧
      (s.fit = true → t.pair.claim = some { at_ := s.claimFrom s.now } ∧ t.log = s.log) ∧
      (s.fit = false → t.pair.claim = s.pair.claim ∧ t.pair.noFitTold = true)) ∧
  (∀ (s : State), s.pair.highRun < 2 → exec (.shankReleaseSeen true true) s = .next s) ∧
  (∀ (s : State) (c : Claim), Standby s → s.pair.claim = some c → c.stage = 0 → c.at_ = s.now → s.fit = true →
    (∃ t, exec (.claimStart true true) s = .next t ∧ t.pair.role = .claiming ∧ t.pair.claim = some { c with stage := 1 } ∧
      t.deferred = s.deferred ++ [.shankDrive s.evenUnit (!s.evenUnit)] ∧ t.plats = s.plats) ∧
    ∀ a b, (a && b) = false → ∃ t, exec (.claimStart a b) s = .next t ∧ t.pair.role = .standby ∧ t.pair.claim = none ∧
      { t with pair := s.pair } = s) ∧
  (∀ (s : State) (c : Claim), s.live = true → s.pair.role = .claiming → s.pair.claim = some c → c.stage = 1 → s.now = c.at_ + 1 →
    (∃ t, exec (.claimSecondLine true) s = .next t ∧ t.pair.claim = some { c with stage := 2 } ∧ t.pair.role = .claiming ∧
      t.deferred = s.deferred ++ [.shankDrive true true] ∧ t.plats = s.plats) ∧
    (s.evenUnit = false → ∃ t, exec (.claimSecondLine false) s = .next t ∧ t.pair.claim = none ∧ t.pair.role = .standby ∧
      t.deferred = s.deferred ++ [.shankDrive false false] ∧ t.plats = s.plats)) ∧
  (∀ (s : State) (c : Claim), s.live = true → s.pair.role = .claiming → s.pair.claim = some c → c.stage = 2 → c.at_ + 2 ≤ s.now → s.now ≤ c.at_ + 4 →
    s.deferred.contains .takeover = false →
    (s.now = c.at_ + 4 → exec (.claimConfirm true) s = .next { s with deferred := s.deferred ++ [.takeover] }) ∧
    (s.now ≠ c.at_ + 4 → exec (.claimConfirm true) s = .next s) ∧
    ∃ t, exec (.claimConfirm false) s = .next t ∧ t.pair.role = .standby ∧ t.pair.claim = none ∧
      t.deferred = s.deferred ++ [.shankDrive false false] ∧ t.plats = s.plats) ∧
  (∀ (s : State), s.pair.role = .claiming → s.takeoverNow.pair.role = .active ∧
    s.takeoverNow.pair.takeovers = satInc 255 s.pair.takeovers ∧ s.takeoverNow.pair.claim = none) ∧
  (∀ (s : State) (a b : Bool), Standby s → s.paired = true → s.pair.disagree = false → 2 ≤ s.pair.splitRun → (a != b) = true →
    ∃ t, exec (.shankDisagree a b) s = .next t ∧ t.pair.disagree = true ∧ t.pair.claim = none ∧ t.pair.released = none ∧
      t.pair.disagreeCount = satInc 255 s.pair.disagreeCount ∧ t.plats = s.plats ∧ t.deferred = s.deferred) ∧
  (∀ (s : State) (a b : Bool), s.pair.disagree = true → exec (.shankDisagree a b) s = .next s) ∧
  (∀ (s : State) (b : Bool), s.live = true → s.pair.role = .active → s.pair.driveA = true → 2 ≤ s.pair.readA → s.env.fatal = none →
    ∃ t, exec (.shankReadbackFault true b) s = .next t ∧ t.env.fatal = some (2, 1) ∧ { t with env := s.env, pair := s.pair } = s) ∧
  ∀ (s : State) (e : RingEntry), AtHead s 0x12 1 e →
    (fieldAt e.args 0 1 = 0 → s.pair.role = .active → s.swapReady = true → ∃ t, exec .shank s = .next t ∧
      t.deferred = s.deferred ++ [.shankRelease false] ∧ t.heel = answered s true Code.ok (s.now + 1) ∧ t.plats = s.plats ∧
      t.pair.role = .active) ∧
    (fieldAt e.args 0 1 = 1 → s.claimReady = false → Refuses s .shank Code.phaseRefused) ∧
    (fieldAt e.args 0 1 = 1 → s.claimReady = true → s.pair.claim = none → exec .shank s = .next { s with
      heel := answered s true Code.ok (s.now + 1)
      pair := { s.pair with claim := some { at_ := s.claimFrom s.now } } })

/-- A heartbeat that is due leaves on every running port. A valid heartbeat shows its port alive, ends its consecutive faults and,
on a port that joins the partner, gives the partner's role, flags, pattern digest and shadowed platforms; one dropped counts as an error and a
fault of the port. 500 stitches without one lose the port and its key, and with L0 and L3 lost the partner. A port that trains sends
its PORT_KEY; the neighbour's key gives the port its own key, and a port that is trained and keyed is no longer lost. Platforms and
keys stay. -/
def Obligations.LacePorts : Prop :=
  (∀ (s : State), s.live = true → s.paired = true → (∀ t0, s.pair.beatAt = some t0 → t0 + 10 ≤ s.now) →
    ∃ t, exec .heartbeatSend s = .next t ∧ t.pair = { s.pair with beatAt := some s.now } ∧ { t with pair := s.pair, out := s.out } = s ∧
      (∀ k, k < 4 → s.portRuns k = true → Output.lace k 0x01 s.heartbeat ∈ t.out) ∧ ∀ o ∈ s.out, o ∈ t.out) ∧
  (∀ (s : State) (k : Fin 4) (b : Bytes), s.live = true → s.paired = true → s.portRuns k.val = true → b.length = 56 →
    s.pair.role ≠ .active →
    ∃ t, exec (.heartbeat k true b) s = .next t ∧ (t.port k.val).lastHeard = some s.now ∧ (t.fault 3 k.val).consecutive = 0 ∧
      (t.member (s.neighbour k.val)).heard = s.now ∧ (t.member (s.neighbour k.val)).debug = (fieldAt b 1 1).testBit 1 ∧
      (s.neighbour k.val = s.pair.unitId ^^^ 1 → t.pair.partner = {
        ever := true
        heard := s.now
        role := fieldAt b 0 1
        flags := fieldAt b 1 1
        lead := fieldAt b 2 1
        mirrorSeq := fieldAt b 4 4 % 2 ^ 24
        pattern := digestOfBytes (bytesAt b 16 32)
        shadowOk := fieldAt b 48 8 }) ∧
      (k = 0 ∨ k = 3 → s.neighbour k.val = s.pair.unitId ^^^ 1) ∧
      (s.neighbour k.val ≠ s.pair.unitId ^^^ 1 → t.pair.partner = s.pair.partner) ∧ t.plats = s.plats ∧ t.keys = s.keys ∧ t.fuse = s.fuse ∧
      t.deferred = s.deferred) ∧
  (∀ (s : State) (k : Fin 4) (b : Bytes), s.live = true → s.paired = true → s.portRuns k.val = true →
    ∃ t, exec (.heartbeat k false b) s = .next t ∧ (t.port k.val).crcErrors = satInc 0xFFFF (s.port k.val).crcErrors ∧
      (t.port k.val).lastHeard = (s.port k.val).lastHeard ∧
      (t.fault 3 k.val).consecutive = (s.fault 3 k.val).consecutive + 1 ∧ t.plats = s.plats) ∧
  (∀ (s : State) (k : Fin 4) (t0 : Nat), s.live = true → s.paired = true → (s.port k.val).lost = false →
    (s.port k.val).lastHeard = some t0 → t0 + 500 ≤ s.now →
    ∃ t, exec (.lacePortLost k) s = .next t ∧ (t.port k.val).lost = true ∧ (t.port k.val).trained = false ∧
      (t.port k.val).keyed = false ∧ (t.port k.val).key = 0 ∧ (∀ j, j ≠ k.val → t.port j = s.port j) ∧
      (k = 0 → (s.port 3).lost = true → t.pair.partnerLost = true) ∧
      (k = 0 → (s.port 3).lost = false → t.pair.partnerLost = s.pair.partnerLost) ∧
      (k = 1 ∨ k = 2 → (s.port 0).lost = false → t.pair.partnerLost = s.pair.partnerLost) ∧ t.plats = s.plats ∧ t.keys = s.keys) ∧
  (∀ (s : State) (k : Fin 4), s.live = true → s.paired = true → (s.port k.val).trained = false → (s.port k.val).retired = false →
    (s.port k.val).keyed = false → s.env.refclkFallback = false →
    ∃ t, exec (.lacePortTrained k true) s = .next t ∧ (t.port k.val).trained = true ∧ (∀ j, j ≠ k.val → t.port j = s.port j) ∧
      t.out = s.out ++ [.lace k.val 0x20 (Config.sm2Public (scalarOf (s.keys.slot4.getD 0)))] ∧
      { t with pair := s.pair, out := s.out } = s) ∧
  ∀ (s : State) (k : Fin 4) (key : Bytes), s.live = true → s.paired = true → (s.port k.val).retired = false →
    Config.sm2OnCurve key = true → s.keys.slot4 ≠ none → (s.port k.val).trained = true →
    ∃ t, exec (.portKey k key) s = .next t ∧ (t.port k.val).keyed = true ∧ (t.port k.val).lost = false ∧
      t.fresh = s.fresh + 1 ∧ (∀ j, j ≠ k.val → t.port j = s.port j) ∧ t.plats = s.plats ∧ t.keys = s.keys ∧ t.mem = s.mem

/-- A STATE leaves each platform it names to the next boundary, where a follower takes its state, phase, hold and exclusions; it writes a mirrored flag as sent and raises a mirrored
counter, never lowering it, and acknowledges; and takes every flag and the higher counters of a SNAPSHOT. The active unit writes its
own flag when MIRROR_ACK comes, sends an unacknowledged MIRROR again every 10 stitches, and ends it after 100 with the flag as it was.
PAGE_CHECK and ANSWER_CHECK count a mismatch; REJOIN notes the pages asked for; DRILL notes its stitch; KEY_XFER installs an exported
key in the same slot, or records why not. -/
def Obligations.PartnerMessages : Prop :=
  (∀ (s : State) (p : Nat) (b : Bytes), s.follows = true → s.pat ≠ none → s.platRec? p ≠ none →
    exec (.state [(p, b)]) s = .next { s with deferred := s.deferred ++ [.follow p b] } ∧
    ((s.followPlat p b).plat p).state = custodyOf (fieldAt b 0 1) ∧
    ((s.followPlat p b).plat p).phase = phaseOf (fieldAt b 1 1) ∧ ((s.followPlat p b).plat p).excluded = fieldAt b 2 2 ∧
    (((s.followPlat p b).plat p).hold = false ↔
      custodyOf (fieldAt b 0 1) = .released ∨ custodyOf (fieldAt b 0 1) = .running) ∧
    (s.followPlat p b).keys = s.keys ∧ (s.followPlat p b).fuse = s.fuse ∧ (s.followPlat p b).pair.role = s.pair.role) ∧
  (∀ (s : State) (seq i v : Nat), s.follows = true → v < 2 ^ 32 →
    (i < 64 → (s.plat i).act = none → ∃ t, exec (.mirror seq true i v) s = .next t ∧ t.flag i = v ∧ t.pair.mirrorSeq = seq % 2 ^ 24 ∧
      t.out = s.out ++ [.lace s.partnerPort 0x04 (natBE 3 seq)] ∧ (∀ k, k ≠ i → t.flag k = s.flag k) ∧
      { t with mem := s.mem, pair := s.pair, out := s.out } = s) ∧
    (i < 1024 → ∃ t, exec (.mirror seq false i v) s = .next t ∧ t.classCounter i = max (s.classCounter i) v ∧
      t.out = s.out ++ [.lace s.partnerPort 0x04 (natBE 3 seq)] ∧
      (∀ k, k ≠ i → t.classCounter k = s.classCounter k) ∧ { t with mem := s.mem, pair := s.pair, out := s.out } = s)) ∧
  (∀ (s : State) (m : MirrorMsg) (p w : Nat), s.partnerHere = true → s.pair.role = .active →
    s.pair.mirrors.find? (fun x => x.seq = m.seq) = some m → m.item = .flag p w → w < 2 ^ 32 → (s.plat p).act = none →
    ∃ t, exec (.mirrorAck m.seq) s = .next t ∧ t.flag p = w ∧
      t.pair.mirrors = s.pair.mirrors.filter (fun x => x.seq ≠ m.seq) ∧ { t with mem := s.mem, pair := s.pair } = s) ∧
  (∀ (s : State) (m : MirrorMsg), s.partnerHere = true → s.pair.role = .active → s.pair.mirrors = [m] →
    (m.last + 10 ≤ s.now → ∃ t, exec .mirrorRepeat s = .next t ∧ t.out = s.out ++ [.lace s.partnerPort 0x03 m.body] ∧
      t.pair.mirrors = [{ m with last := s.now }] ∧ { t with pair := s.pair, out := s.out } = s) ∧
    ∀ p w, m.item = .flag p w → m.first + 100 ≤ s.now → (s.plat p).act = none →
      ∃ t, exec .mirrorTimeout s = .next t ∧ t.pair.mirrors = [] ∧ t.flag p = s.flag p ∧ t.plats = s.plats) ∧
  (∀ (s : State) (flags counters : List Nat) (seq : Nat), s.follows = true → flags.length = 64 → counters.length = 1024 →
    (∀ v ∈ flags, v < 2 ^ 32) → (∀ v ∈ counters, v < 2 ^ 32) →
    ∃ t, exec (.snapshot flags counters seq) s = .next t ∧ t.pair.snapshotDone = true ∧ t.pair.mirrorSeq = seq % 2 ^ 24 ∧
      (∀ p v, flags[p]? = some v → t.flag p = v) ∧
      (∀ k v, counters[k]? = some v → t.classCounter k = max (s.classCounter k) v) ∧
      { t with mem := s.mem, pair := s.pair } = s) ∧
  (∀ (s : State) (last page readNo : Nat) (d : Digest), s.partnerHere = true →
    ((∀ z ∈ s.pair.ownReads, ¬ (z.1 = last ∧ z.2.1 = page ∧ z.2.2.1 = readNo)) →
      ∃ t, exec (.pageCheck last page readNo d) s = .next t ∧ (last, page, readNo, d) ∈ t.pair.theirReads ∧
        t.pair.ownReads = s.pair.ownReads ∧ { t with pair := s.pair } = s) ∧
    (∀ x own, s.pair.ownReads = [(last, page, readNo, own)] → s.lastEntry? last = some x → (s.plat (last / 16)).act = none →
      s.pageDigest ((s.lastSegment x).solePage.getD 0 + page) = some own →
      ∃ t, exec (.pageCheck last page readNo d) s = .next t ∧ t.pair.ownReads = [] ∧ { t with pair := s.pair } = s ∧
        t.pair.pageMismatch = if d = own then s.pair.pageMismatch else satInc 0xFFFF s.pair.pageMismatch)) ∧
  (∀ (s : State) (welt : Fin 64) (addr : BitVec 32) (st m : Nat) (data : Bytes), s.live = true → s.pair.role = .active →
    s.mirrorOf (2 * welt.val) (addr.toNat / 4096) = some m → s.pageState m = .valid →
    s.pagePlain m = some data → s.pageDigest m = some (sm3 data) →
    exec (.answerCheck welt addr st false false) s =
      .next { s with pair := { s.pair with answerMismatch := satInc 0xFFFF s.pair.answerMismatch } } ∧
    exec (.answerCheck welt addr st true false) s = .next (s.soleFailure m) ∧
    exec (.answerCheck welt addr st false true) s = .next s) ∧
  (∀ (s : State) (pages : List Nat), s.partnerHere = true → s.pair.role = .active → pages.length ≤ 256 →
    ∃ t, exec (.rejoin pages) s = .next t ∧ (∀ m ∈ pages, m ∈ t.pair.rejoinAsked) ∧
      (∀ m ∈ s.pair.rejoinAsked, m ∈ t.pair.rejoinAsked) ∧ { t with pair := s.pair } = s) ∧
  (∀ (s : State) (st : Nat), s.follows = true →
    exec (.drill st) s = .next { s with pair := { s.pair with drill := some s.now } }) ∧
  ∀ (s : State) (b : Bytes), s.live = true → s.pair.role = .standby → s.portRuns 0 = true → s.keysClosed = none → s.keyOpRuns = false →
    1024 ≤ fieldAt b 0 2 → fieldAt b 0 2 ≤ 1279 → keyPairs (fieldAt b 3 1) (fieldAt b 2 1) = true →
    s.genExhausted (fieldAt b 0 2) = false →
    (∀ v, sm4Open (s.port 0).key (fieldAt b 4 12) (b.take 4) (b.drop 16) = some v → v.length = 32 →
      materialOk (fieldAt b 2 1) v = true → ∃ t r, exec (.keyXfer b) s = .next t ∧ { t with keys := s.keys } = s ∧
        t.keyRec (fieldAt b 0 2) = .key r ∧ r.material = BitVec.ofNat 256 (beNat v) ∧ r.type = fieldAt b 2 1 ∧
        r.usage = fieldAt b 3 1 ∧ r.exp = true ∧ r.parent = 0xFFFF ∧ r.ownGen = s.keys.volGen + 1) ∧
    (sm4Open (s.port 0).key (fieldAt b 4 12) (b.take 4) (b.drop 16) = none →
      ∃ t, exec (.keyXfer b) s = .next t ∧ { t with log := s.log } = s)

/-- SWAP at the active unit of a ready pair is kept and asked of the heel; at another unit it is refused with PHASE_REFUSED. Its
result is OK with the role once the partner shows ACTIVE in time, and SWAP_FAILED otherwise. SOLO is set while the partner is lost
and SOLO_CLEAR clears it, both answered with the role. DOMAIN_STATE leaves round the ring when due; one that comes in for the first
time is its sender's latest. A member silent for 500 stitches stops counting from the boundary. -/
def Obligations.SwapAndDomain : Prop :=
  (∀ (s : State) (ch : Nat) (m : Bytes) (ms : List Bytes), ReqAt s ch 0x0090 m ms → fieldAt (m.drop 12) 0 4 = 0 →
    (s.pair.role ≠ .active → ∃ t, exec (.swap ch) s = .next t ∧ VAnswers s t ch m ms Code.phaseRefused []) ∧
    (s.pair.role = .active → s.swapReady = false → ∃ t, exec (.swap ch) s = .next t ∧ VAnswers s t ch m ms Code.pairNotReady []) ∧
    (s.pair.role = .active → s.swapReady = true → s.pair.swap = none → RingFree s → ∃ t, exec (.swap ch) s = .next t ∧
      (t.vchan ch).inbox = ms ∧ t.pair = { s.pair with swap := some (⟨ch, fieldAt m 2 2, 0x0090⟩, 0) } ∧
      Posts s t 0x12 (natBE 1 0) ∧ t.out = s.out)) ∧
  (∀ (s : State) (o : Origin) (r : Nat), s.live = true → s.pair.swap = some (o, r) → r ≠ 0 → r ≤ s.now →
    (s.pair.partner.ever = true → s.pair.partner.role = 3 → r ≤ s.pair.partner.heard → s.pair.partner.heard ≤ r + 100 →
      ∃ t, exec .swapResult s = .next t ∧ t.pair = { s.pair with swap := none } ∧
        t.out = s.out ++ (if s.canSend o.ch = true then [.response o.ch o.tag o.opcode Code.ok (natBE 4 s.pair.role.code)] else [])) ∧
    (s.pair.partner.role ≠ 3 → r + 100 < s.now → ∃ t, exec .swapResult s = .next t ∧ t.pair = { s.pair with swap := none } ∧
      t.out = s.out ++ (if s.canSend o.ch = true then [.response o.ch o.tag o.opcode Code.swapFailed []] else []))) ∧
  (∀ (s : State) (ch : Nat) (m : Bytes) (ms : List Bytes), ReqAt s ch 0x0090 m ms → s.pair.role = .active →
    (fieldAt (m.drop 12) 0 4 = 1 → s.pair.partnerLost = true → ∃ t, exec (.solo ch) s = .next t ∧ (t.vchan ch).inbox = ms ∧
      t.pair = { s.pair with solo := true } ∧ OneAnswer s t ch m Code.ok (natBE 4 3) ∧
      { t with pair := s.pair, vamp := s.vamp, out := s.out } = s) ∧
    (fieldAt (m.drop 12) 0 4 = 1 → s.pair.partnerLost = false → ∃ t, exec (.solo ch) s = .next t ∧
      VAnswers s t ch m ms Code.phaseRefused []) ∧
    (fieldAt (m.drop 12) 0 4 = 2 → s.pair.solo = true → ∃ t, exec (.soloClear ch) s = .next t ∧ (t.vchan ch).inbox = ms ∧
      t.pair = { s.pair with solo := false } ∧ OneAnswer s t ch m Code.ok (natBE 4 3) ∧
      { t with pair := s.pair, vamp := s.vamp, out := s.out } = s)) ∧
  (∀ (s : State), s.live = true → s.paired = true →
    (s.pair.domainSent = none → ∃ t, exec .domainStateSend s = .next t ∧ t.pair.domainSent = some (s.now, s.domainNow) ∧
      t.pair.frameSeq = (s.pair.frameSeq + 1) % 2 ^ 32 ∧ { t with pair := s.pair, out := s.out } = s ∧
      ((s.port 1).trained = true → (s.port 1).retired = false → Output.lace 1 0x10 (natBE 1 7 ++ natBE 1 s.pair.unitId ++
        natBE 1 0xFF ++ natBE 4 ((s.pair.frameSeq + 1) % 2 ^ 32) ++
        domainBytes s.pair.role.code s.debugOn (s.pair.lead.getD 0xFF)) ∈ t.out)) ∧
    (s.pair.domainSent = some (s.now, s.domainNow) → exec .domainStateSend s = .next s)) ∧
  (∀ (s : State) (r : RingHdr) (role lead : Nat) (debug : Bool), RingNew s r →
    ∃ t, exec (.domainState r role debug lead) s = .next t ∧ t.member r.src.val = {
        ever := true
        heard := s.now
        silent := false
        active := decide (role = 3)
        debug := debug
        lead := lead } ∧ (∀ u, u ≠ r.src.val → t.member u = s.member u) ∧ { t with pair := s.pair, out := s.out } = s ∧
      t.pair.role = s.pair.role) ∧
  (∀ (s : State) (u : Fin 8), s.live = true → s.paired = true → (s.member u.val).ever = true → (s.member u.val).silent = false →
    (s.member u.val).heard + 500 ≤ s.now →
    exec (.domainMemberSilent u) s = .next { s with deferred := s.deferred ++ [.silent u.val] }) ∧
  ∀ (s : State) (u : Nat), (s.member u).heard + 500 < s.now →
    ((s.silentNow u).member u).silent = true ∧ ((s.silentNow u).member u).active = false ∧ { s.silentNow u with pair := s.pair } = s

/-- A trip of an armed sensor is latched with the level in force, and its response waits for the boundary; in a quiescent mode the
kept keys go at once, and on the wake every mirror page is EMPTY and no last is latched. CLEAR leaves the unit cleared, with no slot, volatile or epoch key. An excursion beyond
its limits is recorded once and so is its end. A fatal fault is held for the boundary with its cause. A freeze request is honoured as
R637 says and counted as ignored otherwise; in a quiescent mode it waits. JTAG answers BYPASS and IDCODE in every state, a chain read
only in freeze where R643 allows it, and cores only while CORE_DEBUG stands; what a chain or a core register holds is an open value
(log entry 2). -/
def Obligations.TamperAndFreeze : Prop :=
  (∀ (s : State) (i : Fin 64) (code : Nat), i.val ≠ 30 → i.val ≠ 31 → s.sensorArmed i.val = true →
    (s.heel.mode = .on → ∃ t, exec (.sensorTrip i code) s = .next t ∧ { t with env := s.env } = s ∧
      t.env.trips = s.env.trips ||| (1 <<< i.val) ∧ t.env.due = s.env.due ++ [(i.val, code, s.levelDone.code)] ∧
      t.env.refclkFallback = (s.env.refclkFallback || decide (i.val = 28)) ∧ t.env.cleared = s.env.cleared) ∧
    (s.heel.mode ≠ .on → ∃ t, exec (.sensorTrip i code) s = .next t ∧ SecretsGone t ∧ t.sole.pages = s.sole.pages ∧
      t.env.due = s.env.due ++ [(i.val, code, s.levelDone.code)] ∧ t.mem = s.mem ∧ t.fuse = s.fuse)) ∧
  (∀ (s : State), s.wakeCleared.latches = [] ∧ ∀ m, (s.wakeCleared.page m).state = .empty) ∧
  (∀ (s : State), s.clearNow.env.cleared = true ∧ SecretsGone s.clearNow ∧ s.clearNow.att.sts = [] ∧
    s.clearNow.vamp.sessions = []) ∧
  (∀ (s : State) (n : Fin 4) (code : Nat), s.live = true →
    ((2704 < code ∨ code < 384) → s.env.hotOut = false → ∃ t, exec (.envExcursion n code) s = .next t ∧ t.env.hotOut = true ∧
      { t with env := s.env, log := s.log } = s) ∧
    (384 ≤ code → code ≤ 2704 → s.env.hotOut = true → ∃ t, exec (.envExcursion n code) s = .next t ∧ t.env.hotOut = false ∧
      { t with env := s.env, log := s.log } = s) ∧
    (384 ≤ code → code ≤ 2704 → s.env.hotOut = false → exec (.envExcursion n code) s = .next s)) ∧
  (∀ (s : State) (c : Nat), s.live = true → 1 ≤ c → c ≤ 5 →
    (s.env.fatal = none → exec (.fatalFault c) s = .next { s with env := { s.env with fatal := some (c, 1) } }) ∧
    (s.env.fatal ≠ none → exec (.fatalFault c) s = .next s)) ∧
  (∀ (s : State),
    (s.heel.mode ≠ .on → exec .freezeRequest s = .next { s with frz := { s.frz with asked := true } }) ∧
    (s.live = true → s.frz.entering = none → s.freezeHonoured = true → exec .freezeRequest s =
      .next { s with frz := { s.frz with asked := false, entering := some s.now } }) ∧
    (s.live = true → s.frz.entering = none → s.freezeHonoured = false → exec .freezeRequest s =
      .next { s with frz := { s.frz with asked := false, ignored := satInc 255 s.frz.ignored } })) ∧
  ∀ (s : State),
    exec (.jtagInstruction .bypass) s = .next { s with out := s.out ++ [.jtag [0]] } ∧
    exec (.jtagInstruction .idcode) s = .next { s with out := s.out ++ [.jtag (natBE 4 idcode)] } ∧
    (∃ b, exec (.jtagInstruction .samplePreload) s = .next { s with out := s.out ++ [.jtag b], fresh := s.fresh + 1 }) ∧
    (∀ c off n, c < 8 → off + n ≤ chainBytes c →
      (s.frz.frozen = true → s.chainOk true c = true → ∃ b : Bytes, b.length = n ∧
        exec (.jtagInstruction (.chainRead c off n)) s = .next { s with out := s.out ++ [.jtag b] }) ∧
      (s.frz.frozen = false ∨ s.chainOk true c = false → exec (.jtagInstruction (.chainRead c off n)) s = .next s)) ∧
    (∀ k, s.live = true → k < 4 → s.frz.coreDebug = true →
      (∃ t, exec (.jtagInstruction (.halt k)) s = .next t ∧ t.frz.halted.testBit k = true ∧ { t with frz := s.frz } = s) ∧
      (s.frz.halted.testBit k = true → exec (.jtagInstruction (.step k)) s = .next { s with fresh := s.fresh + 1 }) ∧
      (∀ r, ∃ b, exec (.jtagInstruction (.readRegister k r)) s =
        .next { s with out := s.out ++ [.jtag b], fresh := s.fresh + 1 }) ∧
      ∀ a, a % 4 = 0 → 0x10000000 ≤ a → a < 0x10400000 →
        exec (.jtagInstruction (.readSram k a)) s = .next { s with out := s.out ++ [.jtag (s.bytes a 4)] }) ∧
    (∀ k, s.frz.coreDebug = false → exec (.jtagInstruction (.halt k)) s = .next s)

/-- A fall of MAINPG with PWR_MAIN_EN high holds every platform of an unpaired unit, takes its keys and the sole's contents and
keeps the main domain in reset; otherwise only the level changes. A rise after such a fall is a device start with every platform held
and the loss counted, and after the enables of a wake it is the wake, in mode ON with its cause. WAKE in a quiescent mode, for a cause
that holds, raises both enables; one that comes between the acceptance of a quiescent entry and the entry is kept. 20,000 stitches without MAINPG lower them again and count a failed wake. -/
def Obligations.PowerModes : Prop :=
  (∀ (s : State), s.pwr.mainpg = true →
    (twf {} s.plats = true → s.pwr.mainEn = true → s.heel.mode = .on → s.pair.role = .unpaired → ∃ t, exec .mainpgFall s = .next t ∧
      t.pwr.mainpg = false ∧ t.pwr.mainDown = true ∧ t.live = false ∧ (∀ p, p < 64 → (t.plat p).hold = true) ∧ SecretsGone t ∧ t.dgst.ctxs = [] ∧
      t.latches = [] ∧ (∀ m, (t.page m).state = .empty) ∧ t.pair.outputsOff = true ∧ t.mem = s.mem ∧ t.fuse = s.fuse) ∧
    (s.pwr.mainEn = true → s.heel.mode = .on → s.pair.role = .active → ∃ t, exec .mainpgFall s = .next t ∧
      t.pair.role = .standby ∧ t.pair.driveA = false ∧ t.pair.driveB = false ∧ t.pwr.mainDown = true ∧ SecretsGone t) ∧
    (s.pwr.mainEn = false ∨ s.heel.mode ≠ .on →
      exec .mainpgFall s = .next { s with pwr := { s.pwr with mainpg := false } })) ∧
  (∀ (s : State), s.pwr.mainpg = false →
    (s.pwr.mainDown = true → ∃ t, exec .mainpgRise s = .next t ∧ t.pwr.mainDown = false ∧ t.pwr.mainpg = true ∧
      t.pwr.mainLosses = satInc 255 s.pwr.mainLosses ∧ (∀ p, (t.plat p).hold = true) ∧ t.now = s.now) ∧
    (∀ t0 c, s.pwr.mainDown = false → s.pwr.waking = some (t0, c) → ∃ t, exec .mainpgRise s = .next t ∧ t.heel.mode = .on ∧
      t.heel.wakeCause = c ∧ t.pwr.waking = none ∧ t.pwr.wakeFailed = false ∧ t.now = s.now) ∧
    (s.pwr.mainDown = false → s.pwr.waking = none →
      exec .mainpgRise s = .next { s with pwr := { s.pwr with mainpg := true } })) ∧
  (∀ (s : State) (c : Nat), s.heel.mode ≠ .on → s.pwr.waking = none → s.mayWake c = true →
    exec (.wake c) s = .next { s with pwr := { s.pwr with mainEn := true, soleEn := true, waking := some (s.now, c) } }) ∧
  (∀ (s : State) (c : Nat), s.heel.mode = .on → s.quiesceDue = true → c ≠ 1 → s.mayWake c = true →
    exec (.wake c) s = .next { s with pwr := { s.pwr with wakeAsked := some c } }) ∧
  (∀ (s : State) (t0 c : Nat), s.pwr.waking = some (t0, c) → t0 + 20000 ≤ s.now → s.pwr.mainpg = false →
    ∃ t, exec .mainPowerTimeout s = .next t ∧ t.pwr.mainEn = false ∧ t.pwr.waking = none ∧ t.pwr.wakeFailed = true ∧
      t.pwr.wakeFails = satInc 255 s.pwr.wakeFails ∧ t.pwr.soleEn = false ∧
      t.sole.raw = [] ∧ { t with pwr := s.pwr, sole := s.sole } = s) ∧
  ∀ (s : State) (t0 c : Nat), s.pwr.waking = some (t0, c) → s.now < t0 + 20000 → exec .mainPowerTimeout s = .next s

/-- After reset every platform is HELD with Pn_HOLD_N asserted, every mirror page is EMPTY, no last is latched, the stitch counter
is 0, the queue is empty and no change waits, nothing has left the block, every memory is in its canonical form, and nothing has
blown a fuse. That unwritten MRAM and core SRAM read as 0 and unwritten pattern memory as 0xFF is the model's choice (NOTES.md,
Assumptions), as are the reset values the spec does not give. -/
def Obligations.ResetState : Prop :=
  (∀ p, (State.reset.plat p).state = .held ∧ (State.reset.plat p).phase = .held ∧ (State.reset.plat p).hold = true) ∧
  (∀ m, (State.reset.page m).state = .empty) ∧ (∀ l, (State.reset.latch l).latched = false) ∧ State.reset.now = 0 ∧
  State.reset.pending = [] ∧ State.reset.deferred = [] ∧ State.reset.out = [] ∧ MemoriesWf State.reset ∧
  (∀ w, tget {} State.reset.fuse.otp w = {}) ∧ State.reset.keysClosed = none

/-- STITCH_BOUNDARY always answers a next state whose counter is one higher, modulo 2^64, in every mode and whatever else the boundary
brings, a device reset included. COLD_POWER_ON answers one whose counter is 0. Every other command leaves the counter as it was. A
core's read of STITCH_COUNT_LO answers the lower 32 bits and latches the upper ones, which that reader's read of STITCH_COUNT_HI then
gives. -/
def Obligations.StitchCounter : Prop :=
  (∀ (s : State) (f : StitchFacts), ∃ t, exec (.stitchBoundary f) s = .next t ∧ t.now = (s.now + 1) % 2 ^ 64) ∧
  (∀ (s : State) (x : Straps), ∃ t, exec (.coldPowerOn x) s = .next t ∧ t.now = 0) ∧
  (∀ (c : Instr) (s t : State), (∀ f, c ≠ .stitchBoundary f) → (∀ x, c ≠ .coldPowerOn x) → exec c s = .next t → t.now = s.now) ∧
  ∀ (s : State) (r : Nat), s.live = true → r ≤ 4 → ∃ t, exec (.stitchCountLoRead r) s = .next t ∧
    t.out = s.out ++ [.coreRead (natBE 4 (s.now % 2 ^ 32))] ∧ { t with stitch := s.stitch, out := s.out } = s ∧
    (t.regRead r 0x20010004).1 = BitVec.ofNat 32 (s.now / 2 ^ 32)

/-- Core SRAM and MRAM, pattern memory, the sole's DRAM and the key store list their bytes at strictly rising addresses
and list none that reads as an unlisted one does; every step from a state of that form leaves one of that form. A step removes the
front command from the queue and touches no other. The lists and the queue are the model's own (NOTES.md, Assumptions). -/
def Obligations.StepKeepsMemories : Prop :=
  ∀ (s t : State), Steps s t → t.pending = s.pending.tail ∧ (MemoriesWf s → MemoriesWf t)

/-- A fuse bit that reads blown at a margin reads blown at it after every step, whatever the command, a device start and a cold
power-on included: what is locked stays locked, and the life-cycle as the fuses hold it never goes back. -/
def Obligations.FusesNeverUnblow : Prop :=
  ∀ (s t : State), Steps s t → FusesOnlyBlow s t

/-- In a state whose table of platforms is in its canonical form, a command that leaves a held platform's hold register released
is STITCH_BOUNDARY. No host command, lace message, mailbox command, VAMP
request, heel request, sensor, power or link event releases a platform by itself. -/
def Obligations.HoldsReleasedAtBoundaries : Prop :=
  ∀ (c : Instr) (s t : State) (p : Nat), twf {} s.plats = true → exec c s = .next t → Releases s t p →
    ∃ f, c = .stitchBoundary f
end

