-- ==== Sys2Proof/Laws/Bits.lean ====
section
/-!
SUPPORT. Big-endian fields: what is written into a byte string and what is read back.
-/
namespace Sys2Proof.Machine
open Sys2Proof

@[simp] theorem natBE_length (n v : Nat) : (natBE n v).length = n := by
  induction n with
  | zero => rfl
  | succ n ih => simp [natBE, ih]

/-- A big-endian value with `n` more bytes behind it. -/
theorem beNat_append (a b : Bytes) : beNat (a ++ b) = beNat a * 256 ^ b.length + beNat b := by
  have fold : ∀ (b : Bytes) (x y : Nat), b.foldl (fun a b => a * 256 + b.toNat) (x * 256 ^ 0 + y) =
      x * 256 ^ b.length + b.foldl (fun a b => a * 256 + b.toNat) y := by
    intro b
    induction b with
    | nil => intro x y; simp
    | cons c b ih =>
      intro x y
      have := ih (x * 256) (y * 256 + c.toNat)
      simp only [List.foldl_cons, List.length_cons, Nat.pow_zero, Nat.mul_one] at this ⊢
      rw [show (x + y) * 256 + c.toNat = x * 256 + (y * 256 + c.toNat) by omega, this, Nat.pow_succ]
      rw [Nat.mul_assoc, Nat.mul_comm 256]
  have := fold b (beNat a) 0
  simpa [beNat, List.foldl_append] using this

/-- Writing a value as `n` bytes and reading it back drops the bits above them. -/
@[simp] theorem beNat_natBE (n v : Nat) : beNat (natBE n v) = v % 256 ^ n := by
  induction n with
  | zero => simp [natBE, beNat, Nat.mod_one]
  | succ n ih =>
    have h := beNat_append [BitVec.ofNat 8 (v / 256 ^ n)] (natBE n v)
    have one : ∀ b : Byte, beNat [b] = b.toNat := by intro b; simp [beNat]
    have split : v % 256 ^ (n + 1) = v % 256 ^ n + 256 ^ n * (v / 256 ^ n % 256) := by
      rw [Nat.pow_succ]; exact Nat.mod_mul
    rw [natBE, ← List.singleton_append, h, ih, one, natBE_length, BitVec.toNat_ofNat, split, Nat.mul_comm, Nat.add_comm]

/-- A digest written as its 32 bytes reads back as itself. -/
@[simp] theorem digestOfBytes_digestBytes (d : Digest) : digestOfBytes (digestBytes d) = d := by
  apply BitVec.eq_of_toNat_eq
  rw [digestOfBytes, digestBytes, beNat_natBE, show (256 : Nat) ^ 32 = 2 ^ 256 from rfl, Nat.mod_eq_of_lt d.isLt]
  simp

/-- The bytes behind a prefix of known length. -/
theorem bytesAt_append (a b c : Bytes) (off len : Nat) (ha : a.length = off) (hb : b.length = len) :
    bytesAt (a ++ (b ++ c)) off len = b := by
  subst ha hb
  simp [bytesAt]

end Sys2Proof.Machine
end

