-- ==== Sys2Proof/Laws/Gcm.lean ====
section
/-!
SUPPORT. What is sealed with SM4-GCM opens again: the only thing the proofs need to know of the cipher (R195, R534).
-/
namespace Sys2Proof.Machine
open Sys2Proof

variable (k : BitVec 128) (n : Nat) (a m : Bytes)

@[simp] theorem gcmXor_length : (gcmXor k n m).length = m.length := by simp [gcmXor]

@[simp] theorem gcmTag_length : (gcmTag k n a m).length = 16 := natBE_length _ _

/-- The keystream taken off what it was laid on. -/
@[simp] theorem gcmXor_gcmXor : gcmXor k n (gcmXor k n m) = m := by
  apply List.ext_getElem
  · simp
  · intro i h1 h2; simp [gcmXor, BitVec.xor_assoc]

/-- A sealed text is 16 bytes longer than the text (R190). -/
@[simp] theorem sm4Seal_length : (sm4Seal k n a m).length = m.length + 16 := by simp [sm4Seal]

/-- Opening what was sealed under the same key, nonce and additional data gives the text. -/
@[simp] theorem sm4Open_sm4Seal : sm4Open k n a (sm4Seal k n a m) = some m := by
  have cut : (sm4Seal k n a m).length - 16 = (gcmXor k n m).length := by simp
  simp only [sm4Open, cut]
  simp [sm4Seal]

end Sys2Proof.Machine
end

