-- ==== Sys2Proof/Laws/Tables.lean ====
section
/-!
SUPPORT. Laws of the sparse tables and memories: what is read after a change, and that every change keeps the canonical form.
-/
namespace Sys2Proof.Laws
open Sys2Proof Sys2Proof.Machine

variable {α : Type}

/-- Taking an entry out keeps exactly the entries of the other keys, in their order. -/
theorem terase_eq (t : Tbl α) (k : Nat) : terase t k = t.filter (fun e => decide (e.1 ≠ k)) := by
  induction t <;> grind [terase]

theorem tget_tput_self (d : α) (t : Tbl α) (k : Nat) (v : α) : tget d (tput t k v) k = v := by
  induction t <;> grind [tput, tget]

theorem tget_tput_ne (d : α) (t : Tbl α) (k j : Nat) (v : α) (h : j ≠ k) : tget d (tput t k v) j = tget d t j := by
  induction t <;> grind [tput, tget]

theorem tget_terase_self (d : α) (t : Tbl α) (k : Nat) : tget d (terase t k) k = d := by
  induction t <;> grind [terase, tget]

theorem tget_terase_ne (d : α) (t : Tbl α) (k j : Nat) (h : j ≠ k) : tget d (terase t k) j = tget d t j := by
  induction t <;> grind [terase, tget]

/-- A read after a write to the same entry gives what was written. -/
@[simp] theorem tget_tset_self [DecidableEq α] (d : α) (t : Tbl α) (k : Nat) (v : α) : tget d (tset d t k v) k = v := by
  unfold tset
  split
  · simp [tget_terase_self, *]
  · exact tget_tput_self d t k v

/-- A write leaves every other entry alone. -/
theorem tget_tset_ne [DecidableEq α] (d : α) (t : Tbl α) (k j : Nat) (v : α) (h : j ≠ k) : tget d (tset d t k v) j = tget d t j := by
  unfold tset
  split
  · exact tget_terase_ne d t k j h
  · exact tget_tput_ne d t k j v h

theorem tget_tset [DecidableEq α] (d : α) (t : Tbl α) (k j : Nat) (v : α) : tget d (tset d t k v) j = if j = k then v else tget d t j := by
  split
  · subst_vars; simp
  · exact tget_tset_ne d t k j v ‹_›

@[simp] theorem tget_tmod_self [DecidableEq α] (d : α) (t : Tbl α) (k : Nat) (f : α → α) : tget d (tmod d t k f) k = f (tget d t k) := by
  simp [tmod]

theorem tget_tmod_ne [DecidableEq α] (d : α) (t : Tbl α) (k j : Nat) (f : α → α) (h : j ≠ k) : tget d (tmod d t k f) j = tget d t j :=
  tget_tset_ne d t k j _ h

theorem tget_tmod [DecidableEq α] (d : α) (t : Tbl α) (k j : Nat) (f : α → α) :
    tget d (tmod d t k f) j = if j = k then f (tget d t k) else tget d t j := tget_tset d t k j _

/-! ### Canonical form -/

/-- Every key of the table is above `lo`. -/
theorem keysRise_weaken (lo lo' : Nat) (t : Tbl α) (h : lo' ≤ lo) (hk : keysRise (some lo) t = true) :
    keysRise (some lo') t = true := by
  cases t <;> grind [keysRise]

theorem keysRise_none_of_some (lo : Nat) (t : Tbl α) (hk : keysRise (some lo) t = true) : keysRise none t = true := by
  cases t <;> grind [keysRise]

theorem keysRise_tput_some (lo : Nat) (t : Tbl α) (k : Nat) (v : α) (h : lo < k) (hk : keysRise (some lo) t = true) :
    keysRise (some lo) (tput t k v) = true := by
  induction t generalizing lo <;> grind [keysRise, tput]

theorem keysRise_tput (t : Tbl α) (k : Nat) (v : α) (hk : keysRise none t = true) : keysRise none (tput t k v) = true := by
  cases t <;> grind [keysRise, tput, keysRise_tput_some]

theorem keysRise_terase_some (lo : Nat) (t : Tbl α) (k : Nat) (hk : keysRise (some lo) t = true) :
    keysRise (some lo) (terase t k) = true := by
  induction t generalizing lo with
  | nil => rfl
  | cons e t ih =>
    have := keysRise_weaken e.1 lo t
    grind [keysRise, terase]

theorem keysRise_terase (t : Tbl α) (k : Nat) (hk : keysRise none t = true) : keysRise none (terase t k) = true := by
  cases t <;> grind [keysRise, terase, keysRise_terase_some, keysRise_none_of_some]

theorem mem_tput (t : Tbl α) (k : Nat) (v : α) (e : Nat × α) (h : e ∈ tput t k v) : e = (k, v) ∨ e ∈ t := by
  induction t <;> grind [tput]

theorem mem_terase (t : Tbl α) (k : Nat) (e : Nat × α) (h : e ∈ terase t k) : e ∈ t :=
  (List.mem_filter.1 (terase_eq t k ▸ h)).1

/-- Writing an entry keeps the canonical form. -/
theorem twf_tset [DecidableEq α] (d : α) (t : Tbl α) (k : Nat) (v : α) (h : twf d t = true) : twf d (tset d t k v) = true := by
  simp only [twf, Bool.and_eq_true, List.all_eq_true, decide_eq_true_eq] at h ⊢
  unfold tset
  split
  · exact ⟨keysRise_terase _ _ h.1, fun e he => h.2 e (mem_terase _ _ _ he)⟩
  · refine ⟨keysRise_tput _ _ _ h.1, fun e he => ?_⟩
    rcases mem_tput _ _ _ _ he with he | he
    · simpa [he] using ‹_›
    · exact h.2 e he

/-- Changing an entry keeps the canonical form. -/
theorem twf_tmod [DecidableEq α] (d : α) (t : Tbl α) (k : Nat) (f : α → α) (h : twf d t = true) : twf d (tmod d t k f) = true :=
  twf_tset d t k _ h

/-! ### Memories -/

@[simp] theorem read_write_self (d : Byte) (m : Memory) (a : Nat) (b : Byte) :
    Memory.read d (Memory.write d m a b) a = b := by simp [Memory.read, Memory.write]

theorem read_write_ne (d : Byte) (m : Memory) (a c : Nat) (b : Byte) (h : c ≠ a) :
    Memory.read d (Memory.write d m a b) c = Memory.read d m c := tget_tset_ne d m a c b h

/-- A byte outside a written run reads as before. -/
theorem read_writeN_outside (d : Byte) (m : Memory) (a c : Nat) (bs : Bytes) (h : c < a ∨ a + bs.length ≤ c) :
    Memory.read d (Memory.writeN d m a bs) c = Memory.read d m c := by
  induction bs generalizing m a with
  | nil => rfl
  | cons b bs ih =>
    simp only [List.length_cons] at h
    rw [Memory.writeN, ih _ _ (by omega), read_write_ne _ _ _ _ _ (by omega)]

/-- A byte inside a written run reads as written. -/
theorem read_writeN_inside (d : Byte) (m : Memory) (a i : Nat) (bs : Bytes) (h : i < bs.length) :
    Memory.read d (Memory.writeN d m a bs) (a + i) = bs[i] := by
  induction bs generalizing m a i with
  | nil => simp at h
  | cons b bs ih =>
    rw [Memory.writeN]
    cases i with
    | zero => rw [Nat.add_zero, read_writeN_outside _ _ _ _ _ (by omega)]; simp
    | succ i =>
      have := ih (Memory.write d m a b) (a + 1) i (by simpa using h)
      simpa [Nat.add_assoc, Nat.add_comm 1 i] using this

/-- Reading back a written run gives what was written. -/
theorem readN_writeN (d : Byte) (m : Memory) (a : Nat) (bs : Bytes) :
    Memory.readN d (Memory.writeN d m a bs) a bs.length = bs := by
  apply List.ext_getElem
  · simp [Memory.readN]
  · intro i h1 h2
    simp only [Memory.readN, List.getElem_map, List.getElem_range]
    exact read_writeN_inside d m a i bs h2

/-- A run that does not meet a written one reads as before. -/
theorem readN_writeN_disjoint (d : Byte) (m : Memory) (a c n : Nat) (bs : Bytes)
    (h : c + n ≤ a ∨ a + bs.length ≤ c) :
    Memory.readN d (Memory.writeN d m a bs) c n = Memory.readN d m c n := by
  simp only [Memory.readN]
  apply List.map_congr_left
  intro i hi
  exact read_writeN_outside d m a _ bs (by simp at hi; omega)

/-- Writing a run keeps the canonical form. -/
theorem wf_writeN (d : Byte) (m : Memory) (a : Nat) (bs : Bytes) (h : Memory.wf d m = true) :
    Memory.wf d (Memory.writeN d m a bs) = true := by
  induction bs generalizing m a with
  | nil => exact h
  | cons b bs ih => exact ih _ _ (twf_tset d m a b h)

end Sys2Proof.Laws
end

