-- ==== Sys2Proof/Laws/State.lean ====
section
/-!
SUPPORT. One lemma per field per update: what each named operation of Machine/Ops.lean leaves of the state, and what it makes
of the part it changes.
-/
namespace Sys2Proof.Laws
open Sys2Proof Sys2Proof.Machine

variable (s : State)

/-! ### modWelt -/

@[simp] theorem modWelt_sys (n : Nat) (f : WeltSt → WeltSt) : (s.modWelt n f).sys = s.sys := rfl
@[simp] theorem modWelt_stitch (n : Nat) (f : WeltSt → WeltSt) : (s.modWelt n f).stitch = s.stitch := rfl
@[simp] theorem modWelt_pat (n : Nat) (f : WeltSt → WeltSt) : (s.modWelt n f).pat = s.pat := rfl
@[simp] theorem modWelt_patNext (n : Nat) (f : WeltSt → WeltSt) : (s.modWelt n f).patNext = s.patNext := rfl
@[simp] theorem modWelt_patLoad (n : Nat) (f : WeltSt → WeltSt) : (s.modWelt n f).patLoad = s.patLoad := rfl
@[simp] theorem modWelt_pds (n : Nat) (f : WeltSt → WeltSt) : (s.modWelt n f).pds = s.pds := rfl
@[simp] theorem modWelt_eyes (n : Nat) (f : WeltSt → WeltSt) : (s.modWelt n f).eyes = s.eyes := rfl
@[simp] theorem modWelt_click (n : Nat) (f : WeltSt → WeltSt) : (s.modWelt n f).click = s.click := rfl
@[simp] theorem modWelt_sole (n : Nat) (f : WeltSt → WeltSt) : (s.modWelt n f).sole = s.sole := rfl
@[simp] theorem modWelt_latches (n : Nat) (f : WeltSt → WeltSt) : (s.modWelt n f).latches = s.latches := rfl
@[simp] theorem modWelt_bootLoad (n : Nat) (f : WeltSt → WeltSt) : (s.modWelt n f).bootLoad = s.bootLoad := rfl
@[simp] theorem modWelt_point (n : Nat) (f : WeltSt → WeltSt) : (s.modWelt n f).point = s.point := rfl
@[simp] theorem modWelt_plats (n : Nat) (f : WeltSt → WeltSt) : (s.modWelt n f).plats = s.plats := rfl
@[simp] theorem modWelt_cobLatest (n : Nat) (f : WeltSt → WeltSt) : (s.modWelt n f).cobLatest = s.cobLatest := rfl
@[simp] theorem modWelt_cobTurn (n : Nat) (f : WeltSt → WeltSt) : (s.modWelt n f).cobTurn = s.cobTurn := rfl
@[simp] theorem modWelt_cobLast (n : Nat) (f : WeltSt → WeltSt) : (s.modWelt n f).cobLast = s.cobLast := rfl
@[simp] theorem modWelt_cobSeq (n : Nat) (f : WeltSt → WeltSt) : (s.modWelt n f).cobSeq = s.cobSeq := rfl
@[simp] theorem modWelt_heel (n : Nat) (f : WeltSt → WeltSt) : (s.modWelt n f).heel = s.heel := rfl
@[simp] theorem modWelt_pair (n : Nat) (f : WeltSt → WeltSt) : (s.modWelt n f).pair = s.pair := rfl
@[simp] theorem modWelt_env (n : Nat) (f : WeltSt → WeltSt) : (s.modWelt n f).env = s.env := rfl
@[simp] theorem modWelt_log (n : Nat) (f : WeltSt → WeltSt) : (s.modWelt n f).log = s.log := rfl
@[simp] theorem modWelt_dgst (n : Nat) (f : WeltSt → WeltSt) : (s.modWelt n f).dgst = s.dgst := rfl
@[simp] theorem modWelt_keys (n : Nat) (f : WeltSt → WeltSt) : (s.modWelt n f).keys = s.keys := rfl
@[simp] theorem modWelt_att (n : Nat) (f : WeltSt → WeltSt) : (s.modWelt n f).att = s.att := rfl
@[simp] theorem modWelt_fuse (n : Nat) (f : WeltSt → WeltSt) : (s.modWelt n f).fuse = s.fuse := rfl
@[simp] theorem modWelt_boot (n : Nat) (f : WeltSt → WeltSt) : (s.modWelt n f).boot = s.boot := rfl
@[simp] theorem modWelt_vamp (n : Nat) (f : WeltSt → WeltSt) : (s.modWelt n f).vamp = s.vamp := rfl
@[simp] theorem modWelt_frz (n : Nat) (f : WeltSt → WeltSt) : (s.modWelt n f).frz = s.frz := rfl
@[simp] theorem modWelt_pwr (n : Nat) (f : WeltSt → WeltSt) : (s.modWelt n f).pwr = s.pwr := rfl
@[simp] theorem modWelt_sel (n : Nat) (f : WeltSt → WeltSt) : (s.modWelt n f).sel = s.sel := rfl
@[simp] theorem modWelt_mem (n : Nat) (f : WeltSt → WeltSt) : (s.modWelt n f).mem = s.mem := rfl
@[simp] theorem modWelt_pm (n : Nat) (f : WeltSt → WeltSt) : (s.modWelt n f).pm = s.pm := rfl
@[simp] theorem modWelt_deferred (n : Nat) (f : WeltSt → WeltSt) : (s.modWelt n f).deferred = s.deferred := rfl
@[simp] theorem modWelt_out (n : Nat) (f : WeltSt → WeltSt) : (s.modWelt n f).out = s.out := rfl
@[simp] theorem modWelt_fresh (n : Nat) (f : WeltSt → WeltSt) : (s.modWelt n f).fresh = s.fresh := rfl
@[simp] theorem modWelt_pending (n : Nat) (f : WeltSt → WeltSt) : (s.modWelt n f).pending = s.pending := rfl
@[simp] theorem modWelt_now (n : Nat) (f : WeltSt → WeltSt) : (s.modWelt n f).now  = s.now  := rfl
@[simp] theorem modWelt_pd (n : Nat) (f : WeltSt → WeltSt) (j : Nat) : (s.modWelt n f).pd j = s.pd j := rfl
@[simp] theorem modWelt_eye (n : Nat) (f : WeltSt → WeltSt) (j : Nat) : (s.modWelt n f).eye j = s.eye j := rfl
@[simp] theorem modWelt_latch (n : Nat) (f : WeltSt → WeltSt) (j : Nat) : (s.modWelt n f).latch j = s.latch j := rfl
@[simp] theorem modWelt_plat (n : Nat) (f : WeltSt → WeltSt) (j : Nat) : (s.modWelt n f).plat j = s.plat j := rfl
@[simp] theorem modWelt_chan (n : Nat) (f : WeltSt → WeltSt) (j : Nat) : (s.modWelt n f).chan j = s.chan j := rfl
@[simp] theorem modWelt_page (n : Nat) (f : WeltSt → WeltSt) (j : Nat) : (s.modWelt n f).page j = s.page j := rfl
@[simp] theorem modWelt_port (n : Nat) (f : WeltSt → WeltSt) (j : Nat) : (s.modWelt n f).port j = s.port j := rfl
@[simp] theorem modWelt_word (n : Nat) (f : WeltSt → WeltSt) (j : Nat) : (s.modWelt n f).word j = s.word j := rfl
@[simp] theorem modWelt_bytes (n : Nat) (f : WeltSt → WeltSt) (j k : Nat) : (s.modWelt n f).bytes j k = s.bytes j k := rfl
@[simp] theorem modWelt_weltCount (n : Nat) (f : WeltSt → WeltSt) : (s.modWelt n f).weltCount  = s.weltCount  := rfl
@[simp] theorem modWelt_platRecQ (n : Nat) (f : WeltSt → WeltSt) (j : Nat) : (s.modWelt n f).platRec? j = s.platRec? j := rfl
@[simp] theorem modWelt_platRec (n : Nat) (f : WeltSt → WeltSt) (j : Nat) : (s.modWelt n f).platRec j = s.platRec j := rfl
@[simp] theorem modWelt_pdRecQ (n : Nat) (f : WeltSt → WeltSt) (j : Nat) : (s.modWelt n f).pdRec? j = s.pdRec? j := rfl
@[simp] theorem modWelt_pdRec (n : Nat) (f : WeltSt → WeltSt) (j : Nat) : (s.modWelt n f).pdRec j = s.pdRec j := rfl
@[simp] theorem modWelt_eyeRecQ (n : Nat) (f : WeltSt → WeltSt) (j : Nat) : (s.modWelt n f).eyeRec? j = s.eyeRec? j := rfl
@[simp] theorem modWelt_eyeRec (n : Nat) (f : WeltSt → WeltSt) (j : Nat) : (s.modWelt n f).eyeRec j = s.eyeRec j := rfl
@[simp] theorem modWelt_platNums (n : Nat) (f : WeltSt → WeltSt) : (s.modWelt n f).platNums  = s.platNums  := rfl
@[simp] theorem modWelt_drives (n : Nat) (f : WeltSt → WeltSt) : (s.modWelt n f).drives  = s.drives  := rfl
@[simp] theorem modWelt_paired (n : Nat) (f : WeltSt → WeltSt) : (s.modWelt n f).paired  = s.paired  := rfl
@[simp] theorem modWelt_shadowing (n : Nat) (f : WeltSt → WeltSt) : (s.modWelt n f).shadowing  = s.shadowing  := rfl
@[simp] theorem modWelt_live (n : Nat) (f : WeltSt → WeltSt) : (s.modWelt n f).live  = s.live  := rfl
@[simp] theorem modWelt_welt_self (n : Nat) (f : WeltSt → WeltSt) : (s.modWelt n f).welt n = f (s.welt n) := by
  simp [State.modWelt, State.welt]
theorem modWelt_welt_ne (n j : Nat) (f : WeltSt → WeltSt) (h : j ≠ n) : (s.modWelt n f).welt j = s.welt j := by
  simp [State.modWelt, State.welt, tget_tmod_ne, h]
theorem modWelt_welt (n j : Nat) (f : WeltSt → WeltSt) : (s.modWelt n f).welt j = if j = n then f (s.welt n) else s.welt j := by
  simp only [State.modWelt, State.welt, tget_tmod]

/-! ### modPd -/

@[simp] theorem modPd_sys (n : Nat) (f : PdSt → PdSt) : (s.modPd n f).sys = s.sys := rfl
@[simp] theorem modPd_stitch (n : Nat) (f : PdSt → PdSt) : (s.modPd n f).stitch = s.stitch := rfl
@[simp] theorem modPd_pat (n : Nat) (f : PdSt → PdSt) : (s.modPd n f).pat = s.pat := rfl
@[simp] theorem modPd_patNext (n : Nat) (f : PdSt → PdSt) : (s.modPd n f).patNext = s.patNext := rfl
@[simp] theorem modPd_patLoad (n : Nat) (f : PdSt → PdSt) : (s.modPd n f).patLoad = s.patLoad := rfl
@[simp] theorem modPd_welts (n : Nat) (f : PdSt → PdSt) : (s.modPd n f).welts = s.welts := rfl
@[simp] theorem modPd_eyes (n : Nat) (f : PdSt → PdSt) : (s.modPd n f).eyes = s.eyes := rfl
@[simp] theorem modPd_click (n : Nat) (f : PdSt → PdSt) : (s.modPd n f).click = s.click := rfl
@[simp] theorem modPd_sole (n : Nat) (f : PdSt → PdSt) : (s.modPd n f).sole = s.sole := rfl
@[simp] theorem modPd_latches (n : Nat) (f : PdSt → PdSt) : (s.modPd n f).latches = s.latches := rfl
@[simp] theorem modPd_bootLoad (n : Nat) (f : PdSt → PdSt) : (s.modPd n f).bootLoad = s.bootLoad := rfl
@[simp] theorem modPd_point (n : Nat) (f : PdSt → PdSt) : (s.modPd n f).point = s.point := rfl
@[simp] theorem modPd_plats (n : Nat) (f : PdSt → PdSt) : (s.modPd n f).plats = s.plats := rfl
@[simp] theorem modPd_cobLatest (n : Nat) (f : PdSt → PdSt) : (s.modPd n f).cobLatest = s.cobLatest := rfl
@[simp] theorem modPd_cobTurn (n : Nat) (f : PdSt → PdSt) : (s.modPd n f).cobTurn = s.cobTurn := rfl
@[simp] theorem modPd_cobLast (n : Nat) (f : PdSt → PdSt) : (s.modPd n f).cobLast = s.cobLast := rfl
@[simp] theorem modPd_cobSeq (n : Nat) (f : PdSt → PdSt) : (s.modPd n f).cobSeq = s.cobSeq := rfl
@[simp] theorem modPd_heel (n : Nat) (f : PdSt → PdSt) : (s.modPd n f).heel = s.heel := rfl
@[simp] theorem modPd_pair (n : Nat) (f : PdSt → PdSt) : (s.modPd n f).pair = s.pair := rfl
@[simp] theorem modPd_env (n : Nat) (f : PdSt → PdSt) : (s.modPd n f).env = s.env := rfl
@[simp] theorem modPd_log (n : Nat) (f : PdSt → PdSt) : (s.modPd n f).log = s.log := rfl
@[simp] theorem modPd_dgst (n : Nat) (f : PdSt → PdSt) : (s.modPd n f).dgst = s.dgst := rfl
@[simp] theorem modPd_keys (n : Nat) (f : PdSt → PdSt) : (s.modPd n f).keys = s.keys := rfl
@[simp] theorem modPd_att (n : Nat) (f : PdSt → PdSt) : (s.modPd n f).att = s.att := rfl
@[simp] theorem modPd_fuse (n : Nat) (f : PdSt → PdSt) : (s.modPd n f).fuse = s.fuse := rfl
@[simp] theorem modPd_boot (n : Nat) (f : PdSt → PdSt) : (s.modPd n f).boot = s.boot := rfl
@[simp] theorem modPd_vamp (n : Nat) (f : PdSt → PdSt) : (s.modPd n f).vamp = s.vamp := rfl
@[simp] theorem modPd_frz (n : Nat) (f : PdSt → PdSt) : (s.modPd n f).frz = s.frz := rfl
@[simp] theorem modPd_pwr (n : Nat) (f : PdSt → PdSt) : (s.modPd n f).pwr = s.pwr := rfl
@[simp] theorem modPd_sel (n : Nat) (f : PdSt → PdSt) : (s.modPd n f).sel = s.sel := rfl
@[simp] theorem modPd_mem (n : Nat) (f : PdSt → PdSt) : (s.modPd n f).mem = s.mem := rfl
@[simp] theorem modPd_pm (n : Nat) (f : PdSt → PdSt) : (s.modPd n f).pm = s.pm := rfl
@[simp] theorem modPd_deferred (n : Nat) (f : PdSt → PdSt) : (s.modPd n f).deferred = s.deferred := rfl
@[simp] theorem modPd_out (n : Nat) (f : PdSt → PdSt) : (s.modPd n f).out = s.out := rfl
@[simp] theorem modPd_fresh (n : Nat) (f : PdSt → PdSt) : (s.modPd n f).fresh = s.fresh := rfl
@[simp] theorem modPd_pending (n : Nat) (f : PdSt → PdSt) : (s.modPd n f).pending = s.pending := rfl
@[simp] theorem modPd_now (n : Nat) (f : PdSt → PdSt) : (s.modPd n f).now  = s.now  := rfl
@[simp] theorem modPd_welt (n : Nat) (f : PdSt → PdSt) (j : Nat) : (s.modPd n f).welt j = s.welt j := rfl
@[simp] theorem modPd_eye (n : Nat) (f : PdSt → PdSt) (j : Nat) : (s.modPd n f).eye j = s.eye j := rfl
@[simp] theorem modPd_latch (n : Nat) (f : PdSt → PdSt) (j : Nat) : (s.modPd n f).latch j = s.latch j := rfl
@[simp] theorem modPd_plat (n : Nat) (f : PdSt → PdSt) (j : Nat) : (s.modPd n f).plat j = s.plat j := rfl
@[simp] theorem modPd_chan (n : Nat) (f : PdSt → PdSt) (j : Nat) : (s.modPd n f).chan j = s.chan j := rfl
@[simp] theorem modPd_page (n : Nat) (f : PdSt → PdSt) (j : Nat) : (s.modPd n f).page j = s.page j := rfl
@[simp] theorem modPd_port (n : Nat) (f : PdSt → PdSt) (j : Nat) : (s.modPd n f).port j = s.port j := rfl
@[simp] theorem modPd_word (n : Nat) (f : PdSt → PdSt) (j : Nat) : (s.modPd n f).word j = s.word j := rfl
@[simp] theorem modPd_bytes (n : Nat) (f : PdSt → PdSt) (j k : Nat) : (s.modPd n f).bytes j k = s.bytes j k := rfl
@[simp] theorem modPd_weltCount (n : Nat) (f : PdSt → PdSt) : (s.modPd n f).weltCount  = s.weltCount  := rfl
@[simp] theorem modPd_platRecQ (n : Nat) (f : PdSt → PdSt) (j : Nat) : (s.modPd n f).platRec? j = s.platRec? j := rfl
@[simp] theorem modPd_platRec (n : Nat) (f : PdSt → PdSt) (j : Nat) : (s.modPd n f).platRec j = s.platRec j := rfl
@[simp] theorem modPd_pdRecQ (n : Nat) (f : PdSt → PdSt) (j : Nat) : (s.modPd n f).pdRec? j = s.pdRec? j := rfl
@[simp] theorem modPd_pdRec (n : Nat) (f : PdSt → PdSt) (j : Nat) : (s.modPd n f).pdRec j = s.pdRec j := rfl
@[simp] theorem modPd_eyeRecQ (n : Nat) (f : PdSt → PdSt) (j : Nat) : (s.modPd n f).eyeRec? j = s.eyeRec? j := rfl
@[simp] theorem modPd_eyeRec (n : Nat) (f : PdSt → PdSt) (j : Nat) : (s.modPd n f).eyeRec j = s.eyeRec j := rfl
@[simp] theorem modPd_platNums (n : Nat) (f : PdSt → PdSt) : (s.modPd n f).platNums  = s.platNums  := rfl
@[simp] theorem modPd_drives (n : Nat) (f : PdSt → PdSt) : (s.modPd n f).drives  = s.drives  := rfl
@[simp] theorem modPd_paired (n : Nat) (f : PdSt → PdSt) : (s.modPd n f).paired  = s.paired  := rfl
@[simp] theorem modPd_shadowing (n : Nat) (f : PdSt → PdSt) : (s.modPd n f).shadowing  = s.shadowing  := rfl
@[simp] theorem modPd_live (n : Nat) (f : PdSt → PdSt) : (s.modPd n f).live  = s.live  := rfl
@[simp] theorem modPd_pd_self (n : Nat) (f : PdSt → PdSt) : (s.modPd n f).pd n = f (s.pd n) := by
  simp [State.modPd, State.pd]
theorem modPd_pd_ne (n j : Nat) (f : PdSt → PdSt) (h : j ≠ n) : (s.modPd n f).pd j = s.pd j := by
  simp [State.modPd, State.pd, tget_tmod_ne, h]
theorem modPd_pd (n j : Nat) (f : PdSt → PdSt) : (s.modPd n f).pd j = if j = n then f (s.pd n) else s.pd j := by
  simp only [State.modPd, State.pd, tget_tmod]

/-! ### modEye -/

@[simp] theorem modEye_sys (n : Nat) (f : EyeSt → EyeSt) : (s.modEye n f).sys = s.sys := rfl
@[simp] theorem modEye_stitch (n : Nat) (f : EyeSt → EyeSt) : (s.modEye n f).stitch = s.stitch := rfl
@[simp] theorem modEye_pat (n : Nat) (f : EyeSt → EyeSt) : (s.modEye n f).pat = s.pat := rfl
@[simp] theorem modEye_patNext (n : Nat) (f : EyeSt → EyeSt) : (s.modEye n f).patNext = s.patNext := rfl
@[simp] theorem modEye_patLoad (n : Nat) (f : EyeSt → EyeSt) : (s.modEye n f).patLoad = s.patLoad := rfl
@[simp] theorem modEye_welts (n : Nat) (f : EyeSt → EyeSt) : (s.modEye n f).welts = s.welts := rfl
@[simp] theorem modEye_pds (n : Nat) (f : EyeSt → EyeSt) : (s.modEye n f).pds = s.pds := rfl
@[simp] theorem modEye_click (n : Nat) (f : EyeSt → EyeSt) : (s.modEye n f).click = s.click := rfl
@[simp] theorem modEye_sole (n : Nat) (f : EyeSt → EyeSt) : (s.modEye n f).sole = s.sole := rfl
@[simp] theorem modEye_latches (n : Nat) (f : EyeSt → EyeSt) : (s.modEye n f).latches = s.latches := rfl
@[simp] theorem modEye_bootLoad (n : Nat) (f : EyeSt → EyeSt) : (s.modEye n f).bootLoad = s.bootLoad := rfl
@[simp] theorem modEye_point (n : Nat) (f : EyeSt → EyeSt) : (s.modEye n f).point = s.point := rfl
@[simp] theorem modEye_plats (n : Nat) (f : EyeSt → EyeSt) : (s.modEye n f).plats = s.plats := rfl
@[simp] theorem modEye_cobLatest (n : Nat) (f : EyeSt → EyeSt) : (s.modEye n f).cobLatest = s.cobLatest := rfl
@[simp] theorem modEye_cobTurn (n : Nat) (f : EyeSt → EyeSt) : (s.modEye n f).cobTurn = s.cobTurn := rfl
@[simp] theorem modEye_cobLast (n : Nat) (f : EyeSt → EyeSt) : (s.modEye n f).cobLast = s.cobLast := rfl
@[simp] theorem modEye_cobSeq (n : Nat) (f : EyeSt → EyeSt) : (s.modEye n f).cobSeq = s.cobSeq := rfl
@[simp] theorem modEye_heel (n : Nat) (f : EyeSt → EyeSt) : (s.modEye n f).heel = s.heel := rfl
@[simp] theorem modEye_pair (n : Nat) (f : EyeSt → EyeSt) : (s.modEye n f).pair = s.pair := rfl
@[simp] theorem modEye_env (n : Nat) (f : EyeSt → EyeSt) : (s.modEye n f).env = s.env := rfl
@[simp] theorem modEye_log (n : Nat) (f : EyeSt → EyeSt) : (s.modEye n f).log = s.log := rfl
@[simp] theorem modEye_dgst (n : Nat) (f : EyeSt → EyeSt) : (s.modEye n f).dgst = s.dgst := rfl
@[simp] theorem modEye_keys (n : Nat) (f : EyeSt → EyeSt) : (s.modEye n f).keys = s.keys := rfl
@[simp] theorem modEye_att (n : Nat) (f : EyeSt → EyeSt) : (s.modEye n f).att = s.att := rfl
@[simp] theorem modEye_fuse (n : Nat) (f : EyeSt → EyeSt) : (s.modEye n f).fuse = s.fuse := rfl
@[simp] theorem modEye_boot (n : Nat) (f : EyeSt → EyeSt) : (s.modEye n f).boot = s.boot := rfl
@[simp] theorem modEye_vamp (n : Nat) (f : EyeSt → EyeSt) : (s.modEye n f).vamp = s.vamp := rfl
@[simp] theorem modEye_frz (n : Nat) (f : EyeSt → EyeSt) : (s.modEye n f).frz = s.frz := rfl
@[simp] theorem modEye_pwr (n : Nat) (f : EyeSt → EyeSt) : (s.modEye n f).pwr = s.pwr := rfl
@[simp] theorem modEye_sel (n : Nat) (f : EyeSt → EyeSt) : (s.modEye n f).sel = s.sel := rfl
@[simp] theorem modEye_mem (n : Nat) (f : EyeSt → EyeSt) : (s.modEye n f).mem = s.mem := rfl
@[simp] theorem modEye_pm (n : Nat) (f : EyeSt → EyeSt) : (s.modEye n f).pm = s.pm := rfl
@[simp] theorem modEye_deferred (n : Nat) (f : EyeSt → EyeSt) : (s.modEye n f).deferred = s.deferred := rfl
@[simp] theorem modEye_out (n : Nat) (f : EyeSt → EyeSt) : (s.modEye n f).out = s.out := rfl
@[simp] theorem modEye_fresh (n : Nat) (f : EyeSt → EyeSt) : (s.modEye n f).fresh = s.fresh := rfl
@[simp] theorem modEye_pending (n : Nat) (f : EyeSt → EyeSt) : (s.modEye n f).pending = s.pending := rfl
@[simp] theorem modEye_now (n : Nat) (f : EyeSt → EyeSt) : (s.modEye n f).now  = s.now  := rfl
@[simp] theorem modEye_welt (n : Nat) (f : EyeSt → EyeSt) (j : Nat) : (s.modEye n f).welt j = s.welt j := rfl
@[simp] theorem modEye_pd (n : Nat) (f : EyeSt → EyeSt) (j : Nat) : (s.modEye n f).pd j = s.pd j := rfl
@[simp] theorem modEye_latch (n : Nat) (f : EyeSt → EyeSt) (j : Nat) : (s.modEye n f).latch j = s.latch j := rfl
@[simp] theorem modEye_plat (n : Nat) (f : EyeSt → EyeSt) (j : Nat) : (s.modEye n f).plat j = s.plat j := rfl
@[simp] theorem modEye_chan (n : Nat) (f : EyeSt → EyeSt) (j : Nat) : (s.modEye n f).chan j = s.chan j := rfl
@[simp] theorem modEye_page (n : Nat) (f : EyeSt → EyeSt) (j : Nat) : (s.modEye n f).page j = s.page j := rfl
@[simp] theorem modEye_port (n : Nat) (f : EyeSt → EyeSt) (j : Nat) : (s.modEye n f).port j = s.port j := rfl
@[simp] theorem modEye_word (n : Nat) (f : EyeSt → EyeSt) (j : Nat) : (s.modEye n f).word j = s.word j := rfl
@[simp] theorem modEye_bytes (n : Nat) (f : EyeSt → EyeSt) (j k : Nat) : (s.modEye n f).bytes j k = s.bytes j k := rfl
@[simp] theorem modEye_weltCount (n : Nat) (f : EyeSt → EyeSt) : (s.modEye n f).weltCount  = s.weltCount  := rfl
@[simp] theorem modEye_platRecQ (n : Nat) (f : EyeSt → EyeSt) (j : Nat) : (s.modEye n f).platRec? j = s.platRec? j := rfl
@[simp] theorem modEye_platRec (n : Nat) (f : EyeSt → EyeSt) (j : Nat) : (s.modEye n f).platRec j = s.platRec j := rfl
@[simp] theorem modEye_pdRecQ (n : Nat) (f : EyeSt → EyeSt) (j : Nat) : (s.modEye n f).pdRec? j = s.pdRec? j := rfl
@[simp] theorem modEye_pdRec (n : Nat) (f : EyeSt → EyeSt) (j : Nat) : (s.modEye n f).pdRec j = s.pdRec j := rfl
@[simp] theorem modEye_eyeRecQ (n : Nat) (f : EyeSt → EyeSt) (j : Nat) : (s.modEye n f).eyeRec? j = s.eyeRec? j := rfl
@[simp] theorem modEye_eyeRec (n : Nat) (f : EyeSt → EyeSt) (j : Nat) : (s.modEye n f).eyeRec j = s.eyeRec j := rfl
@[simp] theorem modEye_platNums (n : Nat) (f : EyeSt → EyeSt) : (s.modEye n f).platNums  = s.platNums  := rfl
@[simp] theorem modEye_drives (n : Nat) (f : EyeSt → EyeSt) : (s.modEye n f).drives  = s.drives  := rfl
@[simp] theorem modEye_paired (n : Nat) (f : EyeSt → EyeSt) : (s.modEye n f).paired  = s.paired  := rfl
@[simp] theorem modEye_shadowing (n : Nat) (f : EyeSt → EyeSt) : (s.modEye n f).shadowing  = s.shadowing  := rfl
@[simp] theorem modEye_live (n : Nat) (f : EyeSt → EyeSt) : (s.modEye n f).live  = s.live  := rfl
@[simp] theorem modEye_eye_self (n : Nat) (f : EyeSt → EyeSt) : (s.modEye n f).eye n = f (s.eye n) := by
  simp [State.modEye, State.eye]
theorem modEye_eye_ne (n j : Nat) (f : EyeSt → EyeSt) (h : j ≠ n) : (s.modEye n f).eye j = s.eye j := by
  simp [State.modEye, State.eye, tget_tmod_ne, h]
theorem modEye_eye (n j : Nat) (f : EyeSt → EyeSt) : (s.modEye n f).eye j = if j = n then f (s.eye n) else s.eye j := by
  simp only [State.modEye, State.eye, tget_tmod]

/-! ### modLatch -/

@[simp] theorem modLatch_sys (n : Nat) (f : Latch → Latch) : (s.modLatch n f).sys = s.sys := rfl
@[simp] theorem modLatch_stitch (n : Nat) (f : Latch → Latch) : (s.modLatch n f).stitch = s.stitch := rfl
@[simp] theorem modLatch_pat (n : Nat) (f : Latch → Latch) : (s.modLatch n f).pat = s.pat := rfl
@[simp] theorem modLatch_patNext (n : Nat) (f : Latch → Latch) : (s.modLatch n f).patNext = s.patNext := rfl
@[simp] theorem modLatch_patLoad (n : Nat) (f : Latch → Latch) : (s.modLatch n f).patLoad = s.patLoad := rfl
@[simp] theorem modLatch_welts (n : Nat) (f : Latch → Latch) : (s.modLatch n f).welts = s.welts := rfl
@[simp] theorem modLatch_pds (n : Nat) (f : Latch → Latch) : (s.modLatch n f).pds = s.pds := rfl
@[simp] theorem modLatch_eyes (n : Nat) (f : Latch → Latch) : (s.modLatch n f).eyes = s.eyes := rfl
@[simp] theorem modLatch_click (n : Nat) (f : Latch → Latch) : (s.modLatch n f).click = s.click := rfl
@[simp] theorem modLatch_sole (n : Nat) (f : Latch → Latch) : (s.modLatch n f).sole = s.sole := rfl
@[simp] theorem modLatch_bootLoad (n : Nat) (f : Latch → Latch) : (s.modLatch n f).bootLoad = s.bootLoad := rfl
@[simp] theorem modLatch_point (n : Nat) (f : Latch → Latch) : (s.modLatch n f).point = s.point := rfl
@[simp] theorem modLatch_plats (n : Nat) (f : Latch → Latch) : (s.modLatch n f).plats = s.plats := rfl
@[simp] theorem modLatch_cobLatest (n : Nat) (f : Latch → Latch) : (s.modLatch n f).cobLatest = s.cobLatest := rfl
@[simp] theorem modLatch_cobTurn (n : Nat) (f : Latch → Latch) : (s.modLatch n f).cobTurn = s.cobTurn := rfl
@[simp] theorem modLatch_cobLast (n : Nat) (f : Latch → Latch) : (s.modLatch n f).cobLast = s.cobLast := rfl
@[simp] theorem modLatch_cobSeq (n : Nat) (f : Latch → Latch) : (s.modLatch n f).cobSeq = s.cobSeq := rfl
@[simp] theorem modLatch_heel (n : Nat) (f : Latch → Latch) : (s.modLatch n f).heel = s.heel := rfl
@[simp] theorem modLatch_pair (n : Nat) (f : Latch → Latch) : (s.modLatch n f).pair = s.pair := rfl
@[simp] theorem modLatch_env (n : Nat) (f : Latch → Latch) : (s.modLatch n f).env = s.env := rfl
@[simp] theorem modLatch_log (n : Nat) (f : Latch → Latch) : (s.modLatch n f).log = s.log := rfl
@[simp] theorem modLatch_dgst (n : Nat) (f : Latch → Latch) : (s.modLatch n f).dgst = s.dgst := rfl
@[simp] theorem modLatch_keys (n : Nat) (f : Latch → Latch) : (s.modLatch n f).keys = s.keys := rfl
@[simp] theorem modLatch_att (n : Nat) (f : Latch → Latch) : (s.modLatch n f).att = s.att := rfl
@[simp] theorem modLatch_fuse (n : Nat) (f : Latch → Latch) : (s.modLatch n f).fuse = s.fuse := rfl
@[simp] theorem modLatch_boot (n : Nat) (f : Latch → Latch) : (s.modLatch n f).boot = s.boot := rfl
@[simp] theorem modLatch_vamp (n : Nat) (f : Latch → Latch) : (s.modLatch n f).vamp = s.vamp := rfl
@[simp] theorem modLatch_frz (n : Nat) (f : Latch → Latch) : (s.modLatch n f).frz = s.frz := rfl
@[simp] theorem modLatch_pwr (n : Nat) (f : Latch → Latch) : (s.modLatch n f).pwr = s.pwr := rfl
@[simp] theorem modLatch_sel (n : Nat) (f : Latch → Latch) : (s.modLatch n f).sel = s.sel := rfl
@[simp] theorem modLatch_mem (n : Nat) (f : Latch → Latch) : (s.modLatch n f).mem = s.mem := rfl
@[simp] theorem modLatch_pm (n : Nat) (f : Latch → Latch) : (s.modLatch n f).pm = s.pm := rfl
@[simp] theorem modLatch_deferred (n : Nat) (f : Latch → Latch) : (s.modLatch n f).deferred = s.deferred := rfl
@[simp] theorem modLatch_out (n : Nat) (f : Latch → Latch) : (s.modLatch n f).out = s.out := rfl
@[simp] theorem modLatch_fresh (n : Nat) (f : Latch → Latch) : (s.modLatch n f).fresh = s.fresh := rfl
@[simp] theorem modLatch_pending (n : Nat) (f : Latch → Latch) : (s.modLatch n f).pending = s.pending := rfl
@[simp] theorem modLatch_now (n : Nat) (f : Latch → Latch) : (s.modLatch n f).now  = s.now  := rfl
@[simp] theorem modLatch_welt (n : Nat) (f : Latch → Latch) (j : Nat) : (s.modLatch n f).welt j = s.welt j := rfl
@[simp] theorem modLatch_pd (n : Nat) (f : Latch → Latch) (j : Nat) : (s.modLatch n f).pd j = s.pd j := rfl
@[simp] theorem modLatch_eye (n : Nat) (f : Latch → Latch) (j : Nat) : (s.modLatch n f).eye j = s.eye j := rfl
@[simp] theorem modLatch_plat (n : Nat) (f : Latch → Latch) (j : Nat) : (s.modLatch n f).plat j = s.plat j := rfl
@[simp] theorem modLatch_chan (n : Nat) (f : Latch → Latch) (j : Nat) : (s.modLatch n f).chan j = s.chan j := rfl
@[simp] theorem modLatch_page (n : Nat) (f : Latch → Latch) (j : Nat) : (s.modLatch n f).page j = s.page j := rfl
@[simp] theorem modLatch_port (n : Nat) (f : Latch → Latch) (j : Nat) : (s.modLatch n f).port j = s.port j := rfl
@[simp] theorem modLatch_word (n : Nat) (f : Latch → Latch) (j : Nat) : (s.modLatch n f).word j = s.word j := rfl
@[simp] theorem modLatch_bytes (n : Nat) (f : Latch → Latch) (j k : Nat) : (s.modLatch n f).bytes j k = s.bytes j k := rfl
@[simp] theorem modLatch_weltCount (n : Nat) (f : Latch → Latch) : (s.modLatch n f).weltCount  = s.weltCount  := rfl
@[simp] theorem modLatch_platRecQ (n : Nat) (f : Latch → Latch) (j : Nat) : (s.modLatch n f).platRec? j = s.platRec? j := rfl
@[simp] theorem modLatch_platRec (n : Nat) (f : Latch → Latch) (j : Nat) : (s.modLatch n f).platRec j = s.platRec j := rfl
@[simp] theorem modLatch_pdRecQ (n : Nat) (f : Latch → Latch) (j : Nat) : (s.modLatch n f).pdRec? j = s.pdRec? j := rfl
@[simp] theorem modLatch_pdRec (n : Nat) (f : Latch → Latch) (j : Nat) : (s.modLatch n f).pdRec j = s.pdRec j := rfl
@[simp] theorem modLatch_eyeRecQ (n : Nat) (f : Latch → Latch) (j : Nat) : (s.modLatch n f).eyeRec? j = s.eyeRec? j := rfl
@[simp] theorem modLatch_eyeRec (n : Nat) (f : Latch → Latch) (j : Nat) : (s.modLatch n f).eyeRec j = s.eyeRec j := rfl
@[simp] theorem modLatch_platNums (n : Nat) (f : Latch → Latch) : (s.modLatch n f).platNums  = s.platNums  := rfl
@[simp] theorem modLatch_drives (n : Nat) (f : Latch → Latch) : (s.modLatch n f).drives  = s.drives  := rfl
@[simp] theorem modLatch_paired (n : Nat) (f : Latch → Latch) : (s.modLatch n f).paired  = s.paired  := rfl
@[simp] theorem modLatch_shadowing (n : Nat) (f : Latch → Latch) : (s.modLatch n f).shadowing  = s.shadowing  := rfl
@[simp] theorem modLatch_live (n : Nat) (f : Latch → Latch) : (s.modLatch n f).live  = s.live  := rfl
@[simp] theorem modLatch_latch_self (n : Nat) (f : Latch → Latch) : (s.modLatch n f).latch n = f (s.latch n) := by
  simp [State.modLatch, State.latch]
theorem modLatch_latch_ne (n j : Nat) (f : Latch → Latch) (h : j ≠ n) : (s.modLatch n f).latch j = s.latch j := by
  simp [State.modLatch, State.latch, tget_tmod_ne, h]
theorem modLatch_latch (n j : Nat) (f : Latch → Latch) : (s.modLatch n f).latch j = if j = n then f (s.latch n) else s.latch j := by
  simp only [State.modLatch, State.latch, tget_tmod]

/-! ### modPlat -/

@[simp] theorem modPlat_sys (n : Nat) (f : PlatSt → PlatSt) : (s.modPlat n f).sys = s.sys := rfl
@[simp] theorem modPlat_stitch (n : Nat) (f : PlatSt → PlatSt) : (s.modPlat n f).stitch = s.stitch := rfl
@[simp] theorem modPlat_pat (n : Nat) (f : PlatSt → PlatSt) : (s.modPlat n f).pat = s.pat := rfl
@[simp] theorem modPlat_patNext (n : Nat) (f : PlatSt → PlatSt) : (s.modPlat n f).patNext = s.patNext := rfl
@[simp] theorem modPlat_patLoad (n : Nat) (f : PlatSt → PlatSt) : (s.modPlat n f).patLoad = s.patLoad := rfl
@[simp] theorem modPlat_welts (n : Nat) (f : PlatSt → PlatSt) : (s.modPlat n f).welts = s.welts := rfl
@[simp] theorem modPlat_pds (n : Nat) (f : PlatSt → PlatSt) : (s.modPlat n f).pds = s.pds := rfl
@[simp] theorem modPlat_eyes (n : Nat) (f : PlatSt → PlatSt) : (s.modPlat n f).eyes = s.eyes := rfl
@[simp] theorem modPlat_click (n : Nat) (f : PlatSt → PlatSt) : (s.modPlat n f).click = s.click := rfl
@[simp] theorem modPlat_sole (n : Nat) (f : PlatSt → PlatSt) : (s.modPlat n f).sole = s.sole := rfl
@[simp] theorem modPlat_latches (n : Nat) (f : PlatSt → PlatSt) : (s.modPlat n f).latches = s.latches := rfl
@[simp] theorem modPlat_bootLoad (n : Nat) (f : PlatSt → PlatSt) : (s.modPlat n f).bootLoad = s.bootLoad := rfl
@[simp] theorem modPlat_point (n : Nat) (f : PlatSt → PlatSt) : (s.modPlat n f).point = s.point := rfl
@[simp] theorem modPlat_cobLatest (n : Nat) (f : PlatSt → PlatSt) : (s.modPlat n f).cobLatest = s.cobLatest := rfl
@[simp] theorem modPlat_cobTurn (n : Nat) (f : PlatSt → PlatSt) : (s.modPlat n f).cobTurn = s.cobTurn := rfl
@[simp] theorem modPlat_cobLast (n : Nat) (f : PlatSt → PlatSt) : (s.modPlat n f).cobLast = s.cobLast := rfl
@[simp] theorem modPlat_cobSeq (n : Nat) (f : PlatSt → PlatSt) : (s.modPlat n f).cobSeq = s.cobSeq := rfl
@[simp] theorem modPlat_heel (n : Nat) (f : PlatSt → PlatSt) : (s.modPlat n f).heel = s.heel := rfl
@[simp] theorem modPlat_pair (n : Nat) (f : PlatSt → PlatSt) : (s.modPlat n f).pair = s.pair := rfl
@[simp] theorem modPlat_env (n : Nat) (f : PlatSt → PlatSt) : (s.modPlat n f).env = s.env := rfl
@[simp] theorem modPlat_log (n : Nat) (f : PlatSt → PlatSt) : (s.modPlat n f).log = s.log := rfl
@[simp] theorem modPlat_dgst (n : Nat) (f : PlatSt → PlatSt) : (s.modPlat n f).dgst = s.dgst := rfl
@[simp] theorem modPlat_keys (n : Nat) (f : PlatSt → PlatSt) : (s.modPlat n f).keys = s.keys := rfl
@[simp] theorem modPlat_att (n : Nat) (f : PlatSt → PlatSt) : (s.modPlat n f).att = s.att := rfl
@[simp] theorem modPlat_fuse (n : Nat) (f : PlatSt → PlatSt) : (s.modPlat n f).fuse = s.fuse := rfl
@[simp] theorem modPlat_boot (n : Nat) (f : PlatSt → PlatSt) : (s.modPlat n f).boot = s.boot := rfl
@[simp] theorem modPlat_vamp (n : Nat) (f : PlatSt → PlatSt) : (s.modPlat n f).vamp = s.vamp := rfl
@[simp] theorem modPlat_frz (n : Nat) (f : PlatSt → PlatSt) : (s.modPlat n f).frz = s.frz := rfl
@[simp] theorem modPlat_pwr (n : Nat) (f : PlatSt → PlatSt) : (s.modPlat n f).pwr = s.pwr := rfl
@[simp] theorem modPlat_sel (n : Nat) (f : PlatSt → PlatSt) : (s.modPlat n f).sel = s.sel := rfl
@[simp] theorem modPlat_mem (n : Nat) (f : PlatSt → PlatSt) : (s.modPlat n f).mem = s.mem := rfl
@[simp] theorem modPlat_pm (n : Nat) (f : PlatSt → PlatSt) : (s.modPlat n f).pm = s.pm := rfl
@[simp] theorem modPlat_deferred (n : Nat) (f : PlatSt → PlatSt) : (s.modPlat n f).deferred = s.deferred := rfl
@[simp] theorem modPlat_out (n : Nat) (f : PlatSt → PlatSt) : (s.modPlat n f).out = s.out := rfl
@[simp] theorem modPlat_fresh (n : Nat) (f : PlatSt → PlatSt) : (s.modPlat n f).fresh = s.fresh := rfl
@[simp] theorem modPlat_pending (n : Nat) (f : PlatSt → PlatSt) : (s.modPlat n f).pending = s.pending := rfl
@[simp] theorem modPlat_now (n : Nat) (f : PlatSt → PlatSt) : (s.modPlat n f).now  = s.now  := rfl
@[simp] theorem modPlat_welt (n : Nat) (f : PlatSt → PlatSt) (j : Nat) : (s.modPlat n f).welt j = s.welt j := rfl
@[simp] theorem modPlat_pd (n : Nat) (f : PlatSt → PlatSt) (j : Nat) : (s.modPlat n f).pd j = s.pd j := rfl
@[simp] theorem modPlat_eye (n : Nat) (f : PlatSt → PlatSt) (j : Nat) : (s.modPlat n f).eye j = s.eye j := rfl
@[simp] theorem modPlat_latch (n : Nat) (f : PlatSt → PlatSt) (j : Nat) : (s.modPlat n f).latch j = s.latch j := rfl
@[simp] theorem modPlat_chan (n : Nat) (f : PlatSt → PlatSt) (j : Nat) : (s.modPlat n f).chan j = s.chan j := rfl
@[simp] theorem modPlat_page (n : Nat) (f : PlatSt → PlatSt) (j : Nat) : (s.modPlat n f).page j = s.page j := rfl
@[simp] theorem modPlat_port (n : Nat) (f : PlatSt → PlatSt) (j : Nat) : (s.modPlat n f).port j = s.port j := rfl
@[simp] theorem modPlat_word (n : Nat) (f : PlatSt → PlatSt) (j : Nat) : (s.modPlat n f).word j = s.word j := rfl
@[simp] theorem modPlat_bytes (n : Nat) (f : PlatSt → PlatSt) (j k : Nat) : (s.modPlat n f).bytes j k = s.bytes j k := rfl
@[simp] theorem modPlat_weltCount (n : Nat) (f : PlatSt → PlatSt) : (s.modPlat n f).weltCount  = s.weltCount  := rfl
@[simp] theorem modPlat_platRecQ (n : Nat) (f : PlatSt → PlatSt) (j : Nat) : (s.modPlat n f).platRec? j = s.platRec? j := rfl
@[simp] theorem modPlat_platRec (n : Nat) (f : PlatSt → PlatSt) (j : Nat) : (s.modPlat n f).platRec j = s.platRec j := rfl
@[simp] theorem modPlat_pdRecQ (n : Nat) (f : PlatSt → PlatSt) (j : Nat) : (s.modPlat n f).pdRec? j = s.pdRec? j := rfl
@[simp] theorem modPlat_pdRec (n : Nat) (f : PlatSt → PlatSt) (j : Nat) : (s.modPlat n f).pdRec j = s.pdRec j := rfl
@[simp] theorem modPlat_eyeRecQ (n : Nat) (f : PlatSt → PlatSt) (j : Nat) : (s.modPlat n f).eyeRec? j = s.eyeRec? j := rfl
@[simp] theorem modPlat_eyeRec (n : Nat) (f : PlatSt → PlatSt) (j : Nat) : (s.modPlat n f).eyeRec j = s.eyeRec j := rfl
@[simp] theorem modPlat_platNums (n : Nat) (f : PlatSt → PlatSt) : (s.modPlat n f).platNums  = s.platNums  := rfl
@[simp] theorem modPlat_drives (n : Nat) (f : PlatSt → PlatSt) : (s.modPlat n f).drives  = s.drives  := rfl
@[simp] theorem modPlat_paired (n : Nat) (f : PlatSt → PlatSt) : (s.modPlat n f).paired  = s.paired  := rfl
@[simp] theorem modPlat_shadowing (n : Nat) (f : PlatSt → PlatSt) : (s.modPlat n f).shadowing  = s.shadowing  := rfl
@[simp] theorem modPlat_live (n : Nat) (f : PlatSt → PlatSt) : (s.modPlat n f).live  = s.live  := rfl
@[simp] theorem modPlat_plat_self (n : Nat) (f : PlatSt → PlatSt) : (s.modPlat n f).plat n = f (s.plat n) := by
  simp [State.modPlat, State.plat]
theorem modPlat_plat_ne (n j : Nat) (f : PlatSt → PlatSt) (h : j ≠ n) : (s.modPlat n f).plat j = s.plat j := by
  simp [State.modPlat, State.plat, tget_tmod_ne, h]
theorem modPlat_plat (n j : Nat) (f : PlatSt → PlatSt) : (s.modPlat n f).plat j = if j = n then f (s.plat n) else s.plat j := by
  simp only [State.modPlat, State.plat, tget_tmod]

/-! ### modChan -/

@[simp] theorem modChan_sys (n : Nat) (f : ChanSt → ChanSt) : (s.modChan n f).sys = s.sys := rfl
@[simp] theorem modChan_stitch (n : Nat) (f : ChanSt → ChanSt) : (s.modChan n f).stitch = s.stitch := rfl
@[simp] theorem modChan_pat (n : Nat) (f : ChanSt → ChanSt) : (s.modChan n f).pat = s.pat := rfl
@[simp] theorem modChan_patNext (n : Nat) (f : ChanSt → ChanSt) : (s.modChan n f).patNext = s.patNext := rfl
@[simp] theorem modChan_patLoad (n : Nat) (f : ChanSt → ChanSt) : (s.modChan n f).patLoad = s.patLoad := rfl
@[simp] theorem modChan_welts (n : Nat) (f : ChanSt → ChanSt) : (s.modChan n f).welts = s.welts := rfl
@[simp] theorem modChan_pds (n : Nat) (f : ChanSt → ChanSt) : (s.modChan n f).pds = s.pds := rfl
@[simp] theorem modChan_eyes (n : Nat) (f : ChanSt → ChanSt) : (s.modChan n f).eyes = s.eyes := rfl
@[simp] theorem modChan_click (n : Nat) (f : ChanSt → ChanSt) : (s.modChan n f).click = s.click := rfl
@[simp] theorem modChan_latches (n : Nat) (f : ChanSt → ChanSt) : (s.modChan n f).latches = s.latches := rfl
@[simp] theorem modChan_bootLoad (n : Nat) (f : ChanSt → ChanSt) : (s.modChan n f).bootLoad = s.bootLoad := rfl
@[simp] theorem modChan_point (n : Nat) (f : ChanSt → ChanSt) : (s.modChan n f).point = s.point := rfl
@[simp] theorem modChan_plats (n : Nat) (f : ChanSt → ChanSt) : (s.modChan n f).plats = s.plats := rfl
@[simp] theorem modChan_cobLatest (n : Nat) (f : ChanSt → ChanSt) : (s.modChan n f).cobLatest = s.cobLatest := rfl
@[simp] theorem modChan_cobTurn (n : Nat) (f : ChanSt → ChanSt) : (s.modChan n f).cobTurn = s.cobTurn := rfl
@[simp] theorem modChan_cobLast (n : Nat) (f : ChanSt → ChanSt) : (s.modChan n f).cobLast = s.cobLast := rfl
@[simp] theorem modChan_cobSeq (n : Nat) (f : ChanSt → ChanSt) : (s.modChan n f).cobSeq = s.cobSeq := rfl
@[simp] theorem modChan_heel (n : Nat) (f : ChanSt → ChanSt) : (s.modChan n f).heel = s.heel := rfl
@[simp] theorem modChan_pair (n : Nat) (f : ChanSt → ChanSt) : (s.modChan n f).pair = s.pair := rfl
@[simp] theorem modChan_env (n : Nat) (f : ChanSt → ChanSt) : (s.modChan n f).env = s.env := rfl
@[simp] theorem modChan_log (n : Nat) (f : ChanSt → ChanSt) : (s.modChan n f).log = s.log := rfl
@[simp] theorem modChan_dgst (n : Nat) (f : ChanSt → ChanSt) : (s.modChan n f).dgst = s.dgst := rfl
@[simp] theorem modChan_keys (n : Nat) (f : ChanSt → ChanSt) : (s.modChan n f).keys = s.keys := rfl
@[simp] theorem modChan_att (n : Nat) (f : ChanSt → ChanSt) : (s.modChan n f).att = s.att := rfl
@[simp] theorem modChan_fuse (n : Nat) (f : ChanSt → ChanSt) : (s.modChan n f).fuse = s.fuse := rfl
@[simp] theorem modChan_boot (n : Nat) (f : ChanSt → ChanSt) : (s.modChan n f).boot = s.boot := rfl
@[simp] theorem modChan_vamp (n : Nat) (f : ChanSt → ChanSt) : (s.modChan n f).vamp = s.vamp := rfl
@[simp] theorem modChan_frz (n : Nat) (f : ChanSt → ChanSt) : (s.modChan n f).frz = s.frz := rfl
@[simp] theorem modChan_pwr (n : Nat) (f : ChanSt → ChanSt) : (s.modChan n f).pwr = s.pwr := rfl
@[simp] theorem modChan_sel (n : Nat) (f : ChanSt → ChanSt) : (s.modChan n f).sel = s.sel := rfl
@[simp] theorem modChan_mem (n : Nat) (f : ChanSt → ChanSt) : (s.modChan n f).mem = s.mem := rfl
@[simp] theorem modChan_pm (n : Nat) (f : ChanSt → ChanSt) : (s.modChan n f).pm = s.pm := rfl
@[simp] theorem modChan_deferred (n : Nat) (f : ChanSt → ChanSt) : (s.modChan n f).deferred = s.deferred := rfl
@[simp] theorem modChan_out (n : Nat) (f : ChanSt → ChanSt) : (s.modChan n f).out = s.out := rfl
@[simp] theorem modChan_fresh (n : Nat) (f : ChanSt → ChanSt) : (s.modChan n f).fresh = s.fresh := rfl
@[simp] theorem modChan_pending (n : Nat) (f : ChanSt → ChanSt) : (s.modChan n f).pending = s.pending := rfl
@[simp] theorem modChan_now (n : Nat) (f : ChanSt → ChanSt) : (s.modChan n f).now  = s.now  := rfl
@[simp] theorem modChan_welt (n : Nat) (f : ChanSt → ChanSt) (j : Nat) : (s.modChan n f).welt j = s.welt j := rfl
@[simp] theorem modChan_pd (n : Nat) (f : ChanSt → ChanSt) (j : Nat) : (s.modChan n f).pd j = s.pd j := rfl
@[simp] theorem modChan_eye (n : Nat) (f : ChanSt → ChanSt) (j : Nat) : (s.modChan n f).eye j = s.eye j := rfl
@[simp] theorem modChan_latch (n : Nat) (f : ChanSt → ChanSt) (j : Nat) : (s.modChan n f).latch j = s.latch j := rfl
@[simp] theorem modChan_plat (n : Nat) (f : ChanSt → ChanSt) (j : Nat) : (s.modChan n f).plat j = s.plat j := rfl
@[simp] theorem modChan_port (n : Nat) (f : ChanSt → ChanSt) (j : Nat) : (s.modChan n f).port j = s.port j := rfl
@[simp] theorem modChan_word (n : Nat) (f : ChanSt → ChanSt) (j : Nat) : (s.modChan n f).word j = s.word j := rfl
@[simp] theorem modChan_bytes (n : Nat) (f : ChanSt → ChanSt) (j k : Nat) : (s.modChan n f).bytes j k = s.bytes j k := rfl
@[simp] theorem modChan_weltCount (n : Nat) (f : ChanSt → ChanSt) : (s.modChan n f).weltCount  = s.weltCount  := rfl
@[simp] theorem modChan_platRecQ (n : Nat) (f : ChanSt → ChanSt) (j : Nat) : (s.modChan n f).platRec? j = s.platRec? j := rfl
@[simp] theorem modChan_platRec (n : Nat) (f : ChanSt → ChanSt) (j : Nat) : (s.modChan n f).platRec j = s.platRec j := rfl
@[simp] theorem modChan_pdRecQ (n : Nat) (f : ChanSt → ChanSt) (j : Nat) : (s.modChan n f).pdRec? j = s.pdRec? j := rfl
@[simp] theorem modChan_pdRec (n : Nat) (f : ChanSt → ChanSt) (j : Nat) : (s.modChan n f).pdRec j = s.pdRec j := rfl
@[simp] theorem modChan_eyeRecQ (n : Nat) (f : ChanSt → ChanSt) (j : Nat) : (s.modChan n f).eyeRec? j = s.eyeRec? j := rfl
@[simp] theorem modChan_eyeRec (n : Nat) (f : ChanSt → ChanSt) (j : Nat) : (s.modChan n f).eyeRec j = s.eyeRec j := rfl
@[simp] theorem modChan_platNums (n : Nat) (f : ChanSt → ChanSt) : (s.modChan n f).platNums  = s.platNums  := rfl
@[simp] theorem modChan_drives (n : Nat) (f : ChanSt → ChanSt) : (s.modChan n f).drives  = s.drives  := rfl
@[simp] theorem modChan_paired (n : Nat) (f : ChanSt → ChanSt) : (s.modChan n f).paired  = s.paired  := rfl
@[simp] theorem modChan_shadowing (n : Nat) (f : ChanSt → ChanSt) : (s.modChan n f).shadowing  = s.shadowing  := rfl
@[simp] theorem modChan_live (n : Nat) (f : ChanSt → ChanSt) : (s.modChan n f).live  = s.live  := rfl
@[simp] theorem modChan_chan_self (n : Nat) (f : ChanSt → ChanSt) : (s.modChan n f).chan n = f (s.chan n) := by
  simp [State.modChan, State.chan]
theorem modChan_chan_ne (n j : Nat) (f : ChanSt → ChanSt) (h : j ≠ n) : (s.modChan n f).chan j = s.chan j := by
  simp [State.modChan, State.chan, tget_tmod_ne, h]
theorem modChan_chan (n j : Nat) (f : ChanSt → ChanSt) : (s.modChan n f).chan j = if j = n then f (s.chan n) else s.chan j := by
  simp only [State.modChan, State.chan, tget_tmod]
@[simp] theorem modChan_page (n j : Nat) (f : ChanSt → ChanSt) : (s.modChan n f).page j = s.page j := rfl

/-! ### modPage -/

@[simp] theorem modPage_sys (n : Nat) (f : PageDesc → PageDesc) : (s.modPage n f).sys = s.sys := rfl
@[simp] theorem modPage_stitch (n : Nat) (f : PageDesc → PageDesc) : (s.modPage n f).stitch = s.stitch := rfl
@[simp] theorem modPage_pat (n : Nat) (f : PageDesc → PageDesc) : (s.modPage n f).pat = s.pat := rfl
@[simp] theorem modPage_patNext (n : Nat) (f : PageDesc → PageDesc) : (s.modPage n f).patNext = s.patNext := rfl
@[simp] theorem modPage_patLoad (n : Nat) (f : PageDesc → PageDesc) : (s.modPage n f).patLoad = s.patLoad := rfl
@[simp] theorem modPage_welts (n : Nat) (f : PageDesc → PageDesc) : (s.modPage n f).welts = s.welts := rfl
@[simp] theorem modPage_pds (n : Nat) (f : PageDesc → PageDesc) : (s.modPage n f).pds = s.pds := rfl
@[simp] theorem modPage_eyes (n : Nat) (f : PageDesc → PageDesc) : (s.modPage n f).eyes = s.eyes := rfl
@[simp] theorem modPage_click (n : Nat) (f : PageDesc → PageDesc) : (s.modPage n f).click = s.click := rfl
@[simp] theorem modPage_latches (n : Nat) (f : PageDesc → PageDesc) : (s.modPage n f).latches = s.latches := rfl
@[simp] theorem modPage_bootLoad (n : Nat) (f : PageDesc → PageDesc) : (s.modPage n f).bootLoad = s.bootLoad := rfl
@[simp] theorem modPage_point (n : Nat) (f : PageDesc → PageDesc) : (s.modPage n f).point = s.point := rfl
@[simp] theorem modPage_plats (n : Nat) (f : PageDesc → PageDesc) : (s.modPage n f).plats = s.plats := rfl
@[simp] theorem modPage_cobLatest (n : Nat) (f : PageDesc → PageDesc) : (s.modPage n f).cobLatest = s.cobLatest := rfl
@[simp] theorem modPage_cobTurn (n : Nat) (f : PageDesc → PageDesc) : (s.modPage n f).cobTurn = s.cobTurn := rfl
@[simp] theorem modPage_cobLast (n : Nat) (f : PageDesc → PageDesc) : (s.modPage n f).cobLast = s.cobLast := rfl
@[simp] theorem modPage_cobSeq (n : Nat) (f : PageDesc → PageDesc) : (s.modPage n f).cobSeq = s.cobSeq := rfl
@[simp] theorem modPage_heel (n : Nat) (f : PageDesc → PageDesc) : (s.modPage n f).heel = s.heel := rfl
@[simp] theorem modPage_pair (n : Nat) (f : PageDesc → PageDesc) : (s.modPage n f).pair = s.pair := rfl
@[simp] theorem modPage_env (n : Nat) (f : PageDesc → PageDesc) : (s.modPage n f).env = s.env := rfl
@[simp] theorem modPage_log (n : Nat) (f : PageDesc → PageDesc) : (s.modPage n f).log = s.log := rfl
@[simp] theorem modPage_dgst (n : Nat) (f : PageDesc → PageDesc) : (s.modPage n f).dgst = s.dgst := rfl
@[simp] theorem modPage_keys (n : Nat) (f : PageDesc → PageDesc) : (s.modPage n f).keys = s.keys := rfl
@[simp] theorem modPage_att (n : Nat) (f : PageDesc → PageDesc) : (s.modPage n f).att = s.att := rfl
@[simp] theorem modPage_fuse (n : Nat) (f : PageDesc → PageDesc) : (s.modPage n f).fuse = s.fuse := rfl
@[simp] theorem modPage_boot (n : Nat) (f : PageDesc → PageDesc) : (s.modPage n f).boot = s.boot := rfl
@[simp] theorem modPage_vamp (n : Nat) (f : PageDesc → PageDesc) : (s.modPage n f).vamp = s.vamp := rfl
@[simp] theorem modPage_frz (n : Nat) (f : PageDesc → PageDesc) : (s.modPage n f).frz = s.frz := rfl
@[simp] theorem modPage_pwr (n : Nat) (f : PageDesc → PageDesc) : (s.modPage n f).pwr = s.pwr := rfl
@[simp] theorem modPage_sel (n : Nat) (f : PageDesc → PageDesc) : (s.modPage n f).sel = s.sel := rfl
@[simp] theorem modPage_mem (n : Nat) (f : PageDesc → PageDesc) : (s.modPage n f).mem = s.mem := rfl
@[simp] theorem modPage_pm (n : Nat) (f : PageDesc → PageDesc) : (s.modPage n f).pm = s.pm := rfl
@[simp] theorem modPage_deferred (n : Nat) (f : PageDesc → PageDesc) : (s.modPage n f).deferred = s.deferred := rfl
@[simp] theorem modPage_out (n : Nat) (f : PageDesc → PageDesc) : (s.modPage n f).out = s.out := rfl
@[simp] theorem modPage_fresh (n : Nat) (f : PageDesc → PageDesc) : (s.modPage n f).fresh = s.fresh := rfl
@[simp] theorem modPage_pending (n : Nat) (f : PageDesc → PageDesc) : (s.modPage n f).pending = s.pending := rfl
@[simp] theorem modPage_now (n : Nat) (f : PageDesc → PageDesc) : (s.modPage n f).now  = s.now  := rfl
@[simp] theorem modPage_welt (n : Nat) (f : PageDesc → PageDesc) (j : Nat) : (s.modPage n f).welt j = s.welt j := rfl
@[simp] theorem modPage_pd (n : Nat) (f : PageDesc → PageDesc) (j : Nat) : (s.modPage n f).pd j = s.pd j := rfl
@[simp] theorem modPage_eye (n : Nat) (f : PageDesc → PageDesc) (j : Nat) : (s.modPage n f).eye j = s.eye j := rfl
@[simp] theorem modPage_latch (n : Nat) (f : PageDesc → PageDesc) (j : Nat) : (s.modPage n f).latch j = s.latch j := rfl
@[simp] theorem modPage_plat (n : Nat) (f : PageDesc → PageDesc) (j : Nat) : (s.modPage n f).plat j = s.plat j := rfl
@[simp] theorem modPage_port (n : Nat) (f : PageDesc → PageDesc) (j : Nat) : (s.modPage n f).port j = s.port j := rfl
@[simp] theorem modPage_word (n : Nat) (f : PageDesc → PageDesc) (j : Nat) : (s.modPage n f).word j = s.word j := rfl
@[simp] theorem modPage_bytes (n : Nat) (f : PageDesc → PageDesc) (j k : Nat) : (s.modPage n f).bytes j k = s.bytes j k := rfl
@[simp] theorem modPage_weltCount (n : Nat) (f : PageDesc → PageDesc) : (s.modPage n f).weltCount  = s.weltCount  := rfl
@[simp] theorem modPage_platRecQ (n : Nat) (f : PageDesc → PageDesc) (j : Nat) : (s.modPage n f).platRec? j = s.platRec? j := rfl
@[simp] theorem modPage_platRec (n : Nat) (f : PageDesc → PageDesc) (j : Nat) : (s.modPage n f).platRec j = s.platRec j := rfl
@[simp] theorem modPage_pdRecQ (n : Nat) (f : PageDesc → PageDesc) (j : Nat) : (s.modPage n f).pdRec? j = s.pdRec? j := rfl
@[simp] theorem modPage_pdRec (n : Nat) (f : PageDesc → PageDesc) (j : Nat) : (s.modPage n f).pdRec j = s.pdRec j := rfl
@[simp] theorem modPage_eyeRecQ (n : Nat) (f : PageDesc → PageDesc) (j : Nat) : (s.modPage n f).eyeRec? j = s.eyeRec? j := rfl
@[simp] theorem modPage_eyeRec (n : Nat) (f : PageDesc → PageDesc) (j : Nat) : (s.modPage n f).eyeRec j = s.eyeRec j := rfl
@[simp] theorem modPage_platNums (n : Nat) (f : PageDesc → PageDesc) : (s.modPage n f).platNums  = s.platNums  := rfl
@[simp] theorem modPage_drives (n : Nat) (f : PageDesc → PageDesc) : (s.modPage n f).drives  = s.drives  := rfl
@[simp] theorem modPage_paired (n : Nat) (f : PageDesc → PageDesc) : (s.modPage n f).paired  = s.paired  := rfl
@[simp] theorem modPage_shadowing (n : Nat) (f : PageDesc → PageDesc) : (s.modPage n f).shadowing  = s.shadowing  := rfl
@[simp] theorem modPage_live (n : Nat) (f : PageDesc → PageDesc) : (s.modPage n f).live  = s.live  := rfl
@[simp] theorem modPage_page_self (n : Nat) (f : PageDesc → PageDesc) : (s.modPage n f).page n = f (s.page n) := by
  simp [State.modPage, State.page]
theorem modPage_page_ne (n j : Nat) (f : PageDesc → PageDesc) (h : j ≠ n) : (s.modPage n f).page j = s.page j := by
  simp [State.modPage, State.page, tget_tmod_ne, h]
theorem modPage_page (n j : Nat) (f : PageDesc → PageDesc) : (s.modPage n f).page j = if j = n then f (s.page n) else s.page j := by
  simp only [State.modPage, State.page, tget_tmod]
@[simp] theorem modPage_chan (n j : Nat) (f : PageDesc → PageDesc) : (s.modPage n f).chan j = s.chan j := rfl

/-! ### modPort -/

@[simp] theorem modPort_sys (n : Nat) (f : LacePort → LacePort) : (s.modPort n f).sys = s.sys := rfl
@[simp] theorem modPort_stitch (n : Nat) (f : LacePort → LacePort) : (s.modPort n f).stitch = s.stitch := rfl
@[simp] theorem modPort_pat (n : Nat) (f : LacePort → LacePort) : (s.modPort n f).pat = s.pat := rfl
@[simp] theorem modPort_patNext (n : Nat) (f : LacePort → LacePort) : (s.modPort n f).patNext = s.patNext := rfl
@[simp] theorem modPort_patLoad (n : Nat) (f : LacePort → LacePort) : (s.modPort n f).patLoad = s.patLoad := rfl
@[simp] theorem modPort_welts (n : Nat) (f : LacePort → LacePort) : (s.modPort n f).welts = s.welts := rfl
@[simp] theorem modPort_pds (n : Nat) (f : LacePort → LacePort) : (s.modPort n f).pds = s.pds := rfl
@[simp] theorem modPort_eyes (n : Nat) (f : LacePort → LacePort) : (s.modPort n f).eyes = s.eyes := rfl
@[simp] theorem modPort_click (n : Nat) (f : LacePort → LacePort) : (s.modPort n f).click = s.click := rfl
@[simp] theorem modPort_sole (n : Nat) (f : LacePort → LacePort) : (s.modPort n f).sole = s.sole := rfl
@[simp] theorem modPort_latches (n : Nat) (f : LacePort → LacePort) : (s.modPort n f).latches = s.latches := rfl
@[simp] theorem modPort_bootLoad (n : Nat) (f : LacePort → LacePort) : (s.modPort n f).bootLoad = s.bootLoad := rfl
@[simp] theorem modPort_point (n : Nat) (f : LacePort → LacePort) : (s.modPort n f).point = s.point := rfl
@[simp] theorem modPort_plats (n : Nat) (f : LacePort → LacePort) : (s.modPort n f).plats = s.plats := rfl
@[simp] theorem modPort_cobLatest (n : Nat) (f : LacePort → LacePort) : (s.modPort n f).cobLatest = s.cobLatest := rfl
@[simp] theorem modPort_cobTurn (n : Nat) (f : LacePort → LacePort) : (s.modPort n f).cobTurn = s.cobTurn := rfl
@[simp] theorem modPort_cobLast (n : Nat) (f : LacePort → LacePort) : (s.modPort n f).cobLast = s.cobLast := rfl
@[simp] theorem modPort_cobSeq (n : Nat) (f : LacePort → LacePort) : (s.modPort n f).cobSeq = s.cobSeq := rfl
@[simp] theorem modPort_heel (n : Nat) (f : LacePort → LacePort) : (s.modPort n f).heel = s.heel := rfl
@[simp] theorem modPort_env (n : Nat) (f : LacePort → LacePort) : (s.modPort n f).env = s.env := rfl
@[simp] theorem modPort_log (n : Nat) (f : LacePort → LacePort) : (s.modPort n f).log = s.log := rfl
@[simp] theorem modPort_dgst (n : Nat) (f : LacePort → LacePort) : (s.modPort n f).dgst = s.dgst := rfl
@[simp] theorem modPort_keys (n : Nat) (f : LacePort → LacePort) : (s.modPort n f).keys = s.keys := rfl
@[simp] theorem modPort_att (n : Nat) (f : LacePort → LacePort) : (s.modPort n f).att = s.att := rfl
@[simp] theorem modPort_fuse (n : Nat) (f : LacePort → LacePort) : (s.modPort n f).fuse = s.fuse := rfl
@[simp] theorem modPort_boot (n : Nat) (f : LacePort → LacePort) : (s.modPort n f).boot = s.boot := rfl
@[simp] theorem modPort_vamp (n : Nat) (f : LacePort → LacePort) : (s.modPort n f).vamp = s.vamp := rfl
@[simp] theorem modPort_frz (n : Nat) (f : LacePort → LacePort) : (s.modPort n f).frz = s.frz := rfl
@[simp] theorem modPort_pwr (n : Nat) (f : LacePort → LacePort) : (s.modPort n f).pwr = s.pwr := rfl
@[simp] theorem modPort_sel (n : Nat) (f : LacePort → LacePort) : (s.modPort n f).sel = s.sel := rfl
@[simp] theorem modPort_mem (n : Nat) (f : LacePort → LacePort) : (s.modPort n f).mem = s.mem := rfl
@[simp] theorem modPort_pm (n : Nat) (f : LacePort → LacePort) : (s.modPort n f).pm = s.pm := rfl
@[simp] theorem modPort_deferred (n : Nat) (f : LacePort → LacePort) : (s.modPort n f).deferred = s.deferred := rfl
@[simp] theorem modPort_out (n : Nat) (f : LacePort → LacePort) : (s.modPort n f).out = s.out := rfl
@[simp] theorem modPort_fresh (n : Nat) (f : LacePort → LacePort) : (s.modPort n f).fresh = s.fresh := rfl
@[simp] theorem modPort_pending (n : Nat) (f : LacePort → LacePort) : (s.modPort n f).pending = s.pending := rfl
@[simp] theorem modPort_now (n : Nat) (f : LacePort → LacePort) : (s.modPort n f).now  = s.now  := rfl
@[simp] theorem modPort_welt (n : Nat) (f : LacePort → LacePort) (j : Nat) : (s.modPort n f).welt j = s.welt j := rfl
@[simp] theorem modPort_pd (n : Nat) (f : LacePort → LacePort) (j : Nat) : (s.modPort n f).pd j = s.pd j := rfl
@[simp] theorem modPort_eye (n : Nat) (f : LacePort → LacePort) (j : Nat) : (s.modPort n f).eye j = s.eye j := rfl
@[simp] theorem modPort_latch (n : Nat) (f : LacePort → LacePort) (j : Nat) : (s.modPort n f).latch j = s.latch j := rfl
@[simp] theorem modPort_plat (n : Nat) (f : LacePort → LacePort) (j : Nat) : (s.modPort n f).plat j = s.plat j := rfl
@[simp] theorem modPort_chan (n : Nat) (f : LacePort → LacePort) (j : Nat) : (s.modPort n f).chan j = s.chan j := rfl
@[simp] theorem modPort_page (n : Nat) (f : LacePort → LacePort) (j : Nat) : (s.modPort n f).page j = s.page j := rfl
@[simp] theorem modPort_word (n : Nat) (f : LacePort → LacePort) (j : Nat) : (s.modPort n f).word j = s.word j := rfl
@[simp] theorem modPort_bytes (n : Nat) (f : LacePort → LacePort) (j k : Nat) : (s.modPort n f).bytes j k = s.bytes j k := rfl
@[simp] theorem modPort_weltCount (n : Nat) (f : LacePort → LacePort) : (s.modPort n f).weltCount  = s.weltCount  := rfl
@[simp] theorem modPort_platRecQ (n : Nat) (f : LacePort → LacePort) (j : Nat) : (s.modPort n f).platRec? j = s.platRec? j := rfl
@[simp] theorem modPort_platRec (n : Nat) (f : LacePort → LacePort) (j : Nat) : (s.modPort n f).platRec j = s.platRec j := rfl
@[simp] theorem modPort_pdRecQ (n : Nat) (f : LacePort → LacePort) (j : Nat) : (s.modPort n f).pdRec? j = s.pdRec? j := rfl
@[simp] theorem modPort_pdRec (n : Nat) (f : LacePort → LacePort) (j : Nat) : (s.modPort n f).pdRec j = s.pdRec j := rfl
@[simp] theorem modPort_eyeRecQ (n : Nat) (f : LacePort → LacePort) (j : Nat) : (s.modPort n f).eyeRec? j = s.eyeRec? j := rfl
@[simp] theorem modPort_eyeRec (n : Nat) (f : LacePort → LacePort) (j : Nat) : (s.modPort n f).eyeRec j = s.eyeRec j := rfl
@[simp] theorem modPort_platNums (n : Nat) (f : LacePort → LacePort) : (s.modPort n f).platNums  = s.platNums  := rfl
@[simp] theorem modPort_live (n : Nat) (f : LacePort → LacePort) : (s.modPort n f).live  = s.live  := rfl
@[simp] theorem modPort_port_self (n : Nat) (f : LacePort → LacePort) : (s.modPort n f).port n = f (s.port n) := by
  simp [State.modPort, State.port]
theorem modPort_port_ne (n j : Nat) (f : LacePort → LacePort) (h : j ≠ n) : (s.modPort n f).port j = s.port j := by
  simp [State.modPort, State.port, tget_tmod_ne, h]
theorem modPort_port (n j : Nat) (f : LacePort → LacePort) : (s.modPort n f).port j = if j = n then f (s.port n) else s.port j := by
  simp only [State.modPort, State.port, tget_tmod]

/-! ### later -/

@[simp] theorem later_sys (d : Deferred) : (s.later d).sys = s.sys := rfl
@[simp] theorem later_stitch (d : Deferred) : (s.later d).stitch = s.stitch := rfl
@[simp] theorem later_pat (d : Deferred) : (s.later d).pat = s.pat := rfl
@[simp] theorem later_patNext (d : Deferred) : (s.later d).patNext = s.patNext := rfl
@[simp] theorem later_patLoad (d : Deferred) : (s.later d).patLoad = s.patLoad := rfl
@[simp] theorem later_welts (d : Deferred) : (s.later d).welts = s.welts := rfl
@[simp] theorem later_pds (d : Deferred) : (s.later d).pds = s.pds := rfl
@[simp] theorem later_eyes (d : Deferred) : (s.later d).eyes = s.eyes := rfl
@[simp] theorem later_click (d : Deferred) : (s.later d).click = s.click := rfl
@[simp] theorem later_sole (d : Deferred) : (s.later d).sole = s.sole := rfl
@[simp] theorem later_latches (d : Deferred) : (s.later d).latches = s.latches := rfl
@[simp] theorem later_bootLoad (d : Deferred) : (s.later d).bootLoad = s.bootLoad := rfl
@[simp] theorem later_point (d : Deferred) : (s.later d).point = s.point := rfl
@[simp] theorem later_plats (d : Deferred) : (s.later d).plats = s.plats := rfl
@[simp] theorem later_cobLatest (d : Deferred) : (s.later d).cobLatest = s.cobLatest := rfl
@[simp] theorem later_cobTurn (d : Deferred) : (s.later d).cobTurn = s.cobTurn := rfl
@[simp] theorem later_cobLast (d : Deferred) : (s.later d).cobLast = s.cobLast := rfl
@[simp] theorem later_cobSeq (d : Deferred) : (s.later d).cobSeq = s.cobSeq := rfl
@[simp] theorem later_heel (d : Deferred) : (s.later d).heel = s.heel := rfl
@[simp] theorem later_pair (d : Deferred) : (s.later d).pair = s.pair := rfl
@[simp] theorem later_env (d : Deferred) : (s.later d).env = s.env := rfl
@[simp] theorem later_log (d : Deferred) : (s.later d).log = s.log := rfl
@[simp] theorem later_dgst (d : Deferred) : (s.later d).dgst = s.dgst := rfl
@[simp] theorem later_keys (d : Deferred) : (s.later d).keys = s.keys := rfl
@[simp] theorem later_att (d : Deferred) : (s.later d).att = s.att := rfl
@[simp] theorem later_fuse (d : Deferred) : (s.later d).fuse = s.fuse := rfl
@[simp] theorem later_boot (d : Deferred) : (s.later d).boot = s.boot := rfl
@[simp] theorem later_vamp (d : Deferred) : (s.later d).vamp = s.vamp := rfl
@[simp] theorem later_frz (d : Deferred) : (s.later d).frz = s.frz := rfl
@[simp] theorem later_pwr (d : Deferred) : (s.later d).pwr = s.pwr := rfl
@[simp] theorem later_sel (d : Deferred) : (s.later d).sel = s.sel := rfl
@[simp] theorem later_mem (d : Deferred) : (s.later d).mem = s.mem := rfl
@[simp] theorem later_pm (d : Deferred) : (s.later d).pm = s.pm := rfl
@[simp] theorem later_out (d : Deferred) : (s.later d).out = s.out := rfl
@[simp] theorem later_fresh (d : Deferred) : (s.later d).fresh = s.fresh := rfl
@[simp] theorem later_pending (d : Deferred) : (s.later d).pending = s.pending := rfl
@[simp] theorem later_now (d : Deferred) : (s.later d).now  = s.now  := rfl
@[simp] theorem later_welt (d : Deferred) (j : Nat) : (s.later d).welt j = s.welt j := rfl
@[simp] theorem later_pd (d : Deferred) (j : Nat) : (s.later d).pd j = s.pd j := rfl
@[simp] theorem later_eye (d : Deferred) (j : Nat) : (s.later d).eye j = s.eye j := rfl
@[simp] theorem later_latch (d : Deferred) (j : Nat) : (s.later d).latch j = s.latch j := rfl
@[simp] theorem later_plat (d : Deferred) (j : Nat) : (s.later d).plat j = s.plat j := rfl
@[simp] theorem later_chan (d : Deferred) (j : Nat) : (s.later d).chan j = s.chan j := rfl
@[simp] theorem later_page (d : Deferred) (j : Nat) : (s.later d).page j = s.page j := rfl
@[simp] theorem later_port (d : Deferred) (j : Nat) : (s.later d).port j = s.port j := rfl
@[simp] theorem later_word (d : Deferred) (j : Nat) : (s.later d).word j = s.word j := rfl
@[simp] theorem later_bytes (d : Deferred) (j k : Nat) : (s.later d).bytes j k = s.bytes j k := rfl
@[simp] theorem later_weltCount (d : Deferred) : (s.later d).weltCount  = s.weltCount  := rfl
@[simp] theorem later_platRecQ (d : Deferred) (j : Nat) : (s.later d).platRec? j = s.platRec? j := rfl
@[simp] theorem later_platRec (d : Deferred) (j : Nat) : (s.later d).platRec j = s.platRec j := rfl
@[simp] theorem later_pdRecQ (d : Deferred) (j : Nat) : (s.later d).pdRec? j = s.pdRec? j := rfl
@[simp] theorem later_pdRec (d : Deferred) (j : Nat) : (s.later d).pdRec j = s.pdRec j := rfl
@[simp] theorem later_eyeRecQ (d : Deferred) (j : Nat) : (s.later d).eyeRec? j = s.eyeRec? j := rfl
@[simp] theorem later_eyeRec (d : Deferred) (j : Nat) : (s.later d).eyeRec j = s.eyeRec j := rfl
@[simp] theorem later_platNums (d : Deferred) : (s.later d).platNums  = s.platNums  := rfl
@[simp] theorem later_drives (d : Deferred) : (s.later d).drives  = s.drives  := rfl
@[simp] theorem later_paired (d : Deferred) : (s.later d).paired  = s.paired  := rfl
@[simp] theorem later_shadowing (d : Deferred) : (s.later d).shadowing  = s.shadowing  := rfl
@[simp] theorem later_live (d : Deferred) : (s.later d).live  = s.live  := rfl

/-! ### emit -/

@[simp] theorem emit_sys (o : Output) : (s.emit o).sys = s.sys := rfl
@[simp] theorem emit_stitch (o : Output) : (s.emit o).stitch = s.stitch := rfl
@[simp] theorem emit_pat (o : Output) : (s.emit o).pat = s.pat := rfl
@[simp] theorem emit_patNext (o : Output) : (s.emit o).patNext = s.patNext := rfl
@[simp] theorem emit_patLoad (o : Output) : (s.emit o).patLoad = s.patLoad := rfl
@[simp] theorem emit_welts (o : Output) : (s.emit o).welts = s.welts := rfl
@[simp] theorem emit_pds (o : Output) : (s.emit o).pds = s.pds := rfl
@[simp] theorem emit_eyes (o : Output) : (s.emit o).eyes = s.eyes := rfl
@[simp] theorem emit_click (o : Output) : (s.emit o).click = s.click := rfl
@[simp] theorem emit_sole (o : Output) : (s.emit o).sole = s.sole := rfl
@[simp] theorem emit_latches (o : Output) : (s.emit o).latches = s.latches := rfl
@[simp] theorem emit_bootLoad (o : Output) : (s.emit o).bootLoad = s.bootLoad := rfl
@[simp] theorem emit_point (o : Output) : (s.emit o).point = s.point := rfl
@[simp] theorem emit_plats (o : Output) : (s.emit o).plats = s.plats := rfl
@[simp] theorem emit_cobLatest (o : Output) : (s.emit o).cobLatest = s.cobLatest := rfl
@[simp] theorem emit_cobTurn (o : Output) : (s.emit o).cobTurn = s.cobTurn := rfl
@[simp] theorem emit_cobLast (o : Output) : (s.emit o).cobLast = s.cobLast := rfl
@[simp] theorem emit_cobSeq (o : Output) : (s.emit o).cobSeq = s.cobSeq := rfl
@[simp] theorem emit_heel (o : Output) : (s.emit o).heel = s.heel := rfl
@[simp] theorem emit_pair (o : Output) : (s.emit o).pair = s.pair := rfl
@[simp] theorem emit_env (o : Output) : (s.emit o).env = s.env := rfl
@[simp] theorem emit_log (o : Output) : (s.emit o).log = s.log := rfl
@[simp] theorem emit_dgst (o : Output) : (s.emit o).dgst = s.dgst := rfl
@[simp] theorem emit_keys (o : Output) : (s.emit o).keys = s.keys := rfl
@[simp] theorem emit_att (o : Output) : (s.emit o).att = s.att := rfl
@[simp] theorem emit_fuse (o : Output) : (s.emit o).fuse = s.fuse := rfl
@[simp] theorem emit_boot (o : Output) : (s.emit o).boot = s.boot := rfl
@[simp] theorem emit_vamp (o : Output) : (s.emit o).vamp = s.vamp := rfl
@[simp] theorem emit_frz (o : Output) : (s.emit o).frz = s.frz := rfl
@[simp] theorem emit_pwr (o : Output) : (s.emit o).pwr = s.pwr := rfl
@[simp] theorem emit_sel (o : Output) : (s.emit o).sel = s.sel := rfl
@[simp] theorem emit_mem (o : Output) : (s.emit o).mem = s.mem := rfl
@[simp] theorem emit_pm (o : Output) : (s.emit o).pm = s.pm := rfl
@[simp] theorem emit_deferred (o : Output) : (s.emit o).deferred = s.deferred := rfl
@[simp] theorem emit_fresh (o : Output) : (s.emit o).fresh = s.fresh := rfl
@[simp] theorem emit_pending (o : Output) : (s.emit o).pending = s.pending := rfl
@[simp] theorem emit_now (o : Output) : (s.emit o).now  = s.now  := rfl
@[simp] theorem emit_welt (o : Output) (j : Nat) : (s.emit o).welt j = s.welt j := rfl
@[simp] theorem emit_pd (o : Output) (j : Nat) : (s.emit o).pd j = s.pd j := rfl
@[simp] theorem emit_eye (o : Output) (j : Nat) : (s.emit o).eye j = s.eye j := rfl
@[simp] theorem emit_latch (o : Output) (j : Nat) : (s.emit o).latch j = s.latch j := rfl
@[simp] theorem emit_plat (o : Output) (j : Nat) : (s.emit o).plat j = s.plat j := rfl
@[simp] theorem emit_chan (o : Output) (j : Nat) : (s.emit o).chan j = s.chan j := rfl
@[simp] theorem emit_page (o : Output) (j : Nat) : (s.emit o).page j = s.page j := rfl
@[simp] theorem emit_port (o : Output) (j : Nat) : (s.emit o).port j = s.port j := rfl
@[simp] theorem emit_word (o : Output) (j : Nat) : (s.emit o).word j = s.word j := rfl
@[simp] theorem emit_bytes (o : Output) (j k : Nat) : (s.emit o).bytes j k = s.bytes j k := rfl
@[simp] theorem emit_weltCount (o : Output) : (s.emit o).weltCount  = s.weltCount  := rfl
@[simp] theorem emit_platRecQ (o : Output) (j : Nat) : (s.emit o).platRec? j = s.platRec? j := rfl
@[simp] theorem emit_platRec (o : Output) (j : Nat) : (s.emit o).platRec j = s.platRec j := rfl
@[simp] theorem emit_pdRecQ (o : Output) (j : Nat) : (s.emit o).pdRec? j = s.pdRec? j := rfl
@[simp] theorem emit_pdRec (o : Output) (j : Nat) : (s.emit o).pdRec j = s.pdRec j := rfl
@[simp] theorem emit_eyeRecQ (o : Output) (j : Nat) : (s.emit o).eyeRec? j = s.eyeRec? j := rfl
@[simp] theorem emit_eyeRec (o : Output) (j : Nat) : (s.emit o).eyeRec j = s.eyeRec j := rfl
@[simp] theorem emit_platNums (o : Output) : (s.emit o).platNums  = s.platNums  := rfl
@[simp] theorem emit_drives (o : Output) : (s.emit o).drives  = s.drives  := rfl
@[simp] theorem emit_paired (o : Output) : (s.emit o).paired  = s.paired  := rfl
@[simp] theorem emit_shadowing (o : Output) : (s.emit o).shadowing  = s.shadowing  := rfl
@[simp] theorem emit_live (o : Output) : (s.emit o).live  = s.live  := rfl

/-! ### setWord -/

@[simp] theorem setWord_sys (a v : Nat) : (s.setWord a v).sys = s.sys := rfl
@[simp] theorem setWord_stitch (a v : Nat) : (s.setWord a v).stitch = s.stitch := rfl
@[simp] theorem setWord_pat (a v : Nat) : (s.setWord a v).pat = s.pat := rfl
@[simp] theorem setWord_patNext (a v : Nat) : (s.setWord a v).patNext = s.patNext := rfl
@[simp] theorem setWord_patLoad (a v : Nat) : (s.setWord a v).patLoad = s.patLoad := rfl
@[simp] theorem setWord_welts (a v : Nat) : (s.setWord a v).welts = s.welts := rfl
@[simp] theorem setWord_pds (a v : Nat) : (s.setWord a v).pds = s.pds := rfl
@[simp] theorem setWord_eyes (a v : Nat) : (s.setWord a v).eyes = s.eyes := rfl
@[simp] theorem setWord_click (a v : Nat) : (s.setWord a v).click = s.click := rfl
@[simp] theorem setWord_sole (a v : Nat) : (s.setWord a v).sole = s.sole := rfl
@[simp] theorem setWord_latches (a v : Nat) : (s.setWord a v).latches = s.latches := rfl
@[simp] theorem setWord_bootLoad (a v : Nat) : (s.setWord a v).bootLoad = s.bootLoad := rfl
@[simp] theorem setWord_point (a v : Nat) : (s.setWord a v).point = s.point := rfl
@[simp] theorem setWord_plats (a v : Nat) : (s.setWord a v).plats = s.plats := rfl
@[simp] theorem setWord_cobLatest (a v : Nat) : (s.setWord a v).cobLatest = s.cobLatest := rfl
@[simp] theorem setWord_cobTurn (a v : Nat) : (s.setWord a v).cobTurn = s.cobTurn := rfl
@[simp] theorem setWord_cobLast (a v : Nat) : (s.setWord a v).cobLast = s.cobLast := rfl
@[simp] theorem setWord_cobSeq (a v : Nat) : (s.setWord a v).cobSeq = s.cobSeq := rfl
@[simp] theorem setWord_heel (a v : Nat) : (s.setWord a v).heel = s.heel := rfl
@[simp] theorem setWord_pair (a v : Nat) : (s.setWord a v).pair = s.pair := rfl
@[simp] theorem setWord_env (a v : Nat) : (s.setWord a v).env = s.env := rfl
@[simp] theorem setWord_log (a v : Nat) : (s.setWord a v).log = s.log := rfl
@[simp] theorem setWord_dgst (a v : Nat) : (s.setWord a v).dgst = s.dgst := rfl
@[simp] theorem setWord_keys (a v : Nat) : (s.setWord a v).keys = s.keys := rfl
@[simp] theorem setWord_att (a v : Nat) : (s.setWord a v).att = s.att := rfl
@[simp] theorem setWord_fuse (a v : Nat) : (s.setWord a v).fuse = s.fuse := rfl
@[simp] theorem setWord_boot (a v : Nat) : (s.setWord a v).boot = s.boot := rfl
@[simp] theorem setWord_vamp (a v : Nat) : (s.setWord a v).vamp = s.vamp := rfl
@[simp] theorem setWord_frz (a v : Nat) : (s.setWord a v).frz = s.frz := rfl
@[simp] theorem setWord_pwr (a v : Nat) : (s.setWord a v).pwr = s.pwr := rfl
@[simp] theorem setWord_sel (a v : Nat) : (s.setWord a v).sel = s.sel := rfl
@[simp] theorem setWord_pm (a v : Nat) : (s.setWord a v).pm = s.pm := rfl
@[simp] theorem setWord_deferred (a v : Nat) : (s.setWord a v).deferred = s.deferred := rfl
@[simp] theorem setWord_out (a v : Nat) : (s.setWord a v).out = s.out := rfl
@[simp] theorem setWord_fresh (a v : Nat) : (s.setWord a v).fresh = s.fresh := rfl
@[simp] theorem setWord_pending (a v : Nat) : (s.setWord a v).pending = s.pending := rfl
@[simp] theorem setWord_now (a v : Nat) : (s.setWord a v).now  = s.now  := rfl
@[simp] theorem setWord_welt (a v : Nat) (j : Nat) : (s.setWord a v).welt j = s.welt j := rfl
@[simp] theorem setWord_pd (a v : Nat) (j : Nat) : (s.setWord a v).pd j = s.pd j := rfl
@[simp] theorem setWord_eye (a v : Nat) (j : Nat) : (s.setWord a v).eye j = s.eye j := rfl
@[simp] theorem setWord_latch (a v : Nat) (j : Nat) : (s.setWord a v).latch j = s.latch j := rfl
@[simp] theorem setWord_plat (a v : Nat) (j : Nat) : (s.setWord a v).plat j = s.plat j := rfl
@[simp] theorem setWord_chan (a v : Nat) (j : Nat) : (s.setWord a v).chan j = s.chan j := rfl
@[simp] theorem setWord_page (a v : Nat) (j : Nat) : (s.setWord a v).page j = s.page j := rfl
@[simp] theorem setWord_port (a v : Nat) (j : Nat) : (s.setWord a v).port j = s.port j := rfl
@[simp] theorem setWord_weltCount (a v : Nat) : (s.setWord a v).weltCount  = s.weltCount  := rfl
@[simp] theorem setWord_platRecQ (a v : Nat) (j : Nat) : (s.setWord a v).platRec? j = s.platRec? j := rfl
@[simp] theorem setWord_platRec (a v : Nat) (j : Nat) : (s.setWord a v).platRec j = s.platRec j := rfl
@[simp] theorem setWord_pdRecQ (a v : Nat) (j : Nat) : (s.setWord a v).pdRec? j = s.pdRec? j := rfl
@[simp] theorem setWord_pdRec (a v : Nat) (j : Nat) : (s.setWord a v).pdRec j = s.pdRec j := rfl
@[simp] theorem setWord_eyeRecQ (a v : Nat) (j : Nat) : (s.setWord a v).eyeRec? j = s.eyeRec? j := rfl
@[simp] theorem setWord_eyeRec (a v : Nat) (j : Nat) : (s.setWord a v).eyeRec j = s.eyeRec j := rfl
@[simp] theorem setWord_platNums (a v : Nat) : (s.setWord a v).platNums  = s.platNums  := rfl
@[simp] theorem setWord_drives (a v : Nat) : (s.setWord a v).drives  = s.drives  := rfl
@[simp] theorem setWord_paired (a v : Nat) : (s.setWord a v).paired  = s.paired  := rfl
@[simp] theorem setWord_shadowing (a v : Nat) : (s.setWord a v).shadowing  = s.shadowing  := rfl
@[simp] theorem setWord_live (a v : Nat) : (s.setWord a v).live  = s.live  := rfl

/-! ### setBytes -/

@[simp] theorem setBytes_sys (a : Nat) (b : Bytes) : (s.setBytes a b).sys = s.sys := rfl
@[simp] theorem setBytes_stitch (a : Nat) (b : Bytes) : (s.setBytes a b).stitch = s.stitch := rfl
@[simp] theorem setBytes_pat (a : Nat) (b : Bytes) : (s.setBytes a b).pat = s.pat := rfl
@[simp] theorem setBytes_patNext (a : Nat) (b : Bytes) : (s.setBytes a b).patNext = s.patNext := rfl
@[simp] theorem setBytes_patLoad (a : Nat) (b : Bytes) : (s.setBytes a b).patLoad = s.patLoad := rfl
@[simp] theorem setBytes_welts (a : Nat) (b : Bytes) : (s.setBytes a b).welts = s.welts := rfl
@[simp] theorem setBytes_pds (a : Nat) (b : Bytes) : (s.setBytes a b).pds = s.pds := rfl
@[simp] theorem setBytes_eyes (a : Nat) (b : Bytes) : (s.setBytes a b).eyes = s.eyes := rfl
@[simp] theorem setBytes_click (a : Nat) (b : Bytes) : (s.setBytes a b).click = s.click := rfl
@[simp] theorem setBytes_sole (a : Nat) (b : Bytes) : (s.setBytes a b).sole = s.sole := rfl
@[simp] theorem setBytes_latches (a : Nat) (b : Bytes) : (s.setBytes a b).latches = s.latches := rfl
@[simp] theorem setBytes_bootLoad (a : Nat) (b : Bytes) : (s.setBytes a b).bootLoad = s.bootLoad := rfl
@[simp] theorem setBytes_point (a : Nat) (b : Bytes) : (s.setBytes a b).point = s.point := rfl
@[simp] theorem setBytes_plats (a : Nat) (b : Bytes) : (s.setBytes a b).plats = s.plats := rfl
@[simp] theorem setBytes_cobLatest (a : Nat) (b : Bytes) : (s.setBytes a b).cobLatest = s.cobLatest := rfl
@[simp] theorem setBytes_cobTurn (a : Nat) (b : Bytes) : (s.setBytes a b).cobTurn = s.cobTurn := rfl
@[simp] theorem setBytes_cobLast (a : Nat) (b : Bytes) : (s.setBytes a b).cobLast = s.cobLast := rfl
@[simp] theorem setBytes_cobSeq (a : Nat) (b : Bytes) : (s.setBytes a b).cobSeq = s.cobSeq := rfl
@[simp] theorem setBytes_heel (a : Nat) (b : Bytes) : (s.setBytes a b).heel = s.heel := rfl
@[simp] theorem setBytes_pair (a : Nat) (b : Bytes) : (s.setBytes a b).pair = s.pair := rfl
@[simp] theorem setBytes_env (a : Nat) (b : Bytes) : (s.setBytes a b).env = s.env := rfl
@[simp] theorem setBytes_log (a : Nat) (b : Bytes) : (s.setBytes a b).log = s.log := rfl
@[simp] theorem setBytes_dgst (a : Nat) (b : Bytes) : (s.setBytes a b).dgst = s.dgst := rfl
@[simp] theorem setBytes_keys (a : Nat) (b : Bytes) : (s.setBytes a b).keys = s.keys := rfl
@[simp] theorem setBytes_att (a : Nat) (b : Bytes) : (s.setBytes a b).att = s.att := rfl
@[simp] theorem setBytes_fuse (a : Nat) (b : Bytes) : (s.setBytes a b).fuse = s.fuse := rfl
@[simp] theorem setBytes_boot (a : Nat) (b : Bytes) : (s.setBytes a b).boot = s.boot := rfl
@[simp] theorem setBytes_vamp (a : Nat) (b : Bytes) : (s.setBytes a b).vamp = s.vamp := rfl
@[simp] theorem setBytes_frz (a : Nat) (b : Bytes) : (s.setBytes a b).frz = s.frz := rfl
@[simp] theorem setBytes_pwr (a : Nat) (b : Bytes) : (s.setBytes a b).pwr = s.pwr := rfl
@[simp] theorem setBytes_sel (a : Nat) (b : Bytes) : (s.setBytes a b).sel = s.sel := rfl
@[simp] theorem setBytes_pm (a : Nat) (b : Bytes) : (s.setBytes a b).pm = s.pm := rfl
@[simp] theorem setBytes_deferred (a : Nat) (b : Bytes) : (s.setBytes a b).deferred = s.deferred := rfl
@[simp] theorem setBytes_out (a : Nat) (b : Bytes) : (s.setBytes a b).out = s.out := rfl
@[simp] theorem setBytes_fresh (a : Nat) (b : Bytes) : (s.setBytes a b).fresh = s.fresh := rfl
@[simp] theorem setBytes_pending (a : Nat) (b : Bytes) : (s.setBytes a b).pending = s.pending := rfl
@[simp] theorem setBytes_now (a : Nat) (b : Bytes) : (s.setBytes a b).now  = s.now  := rfl
@[simp] theorem setBytes_welt (a : Nat) (b : Bytes) (j : Nat) : (s.setBytes a b).welt j = s.welt j := rfl
@[simp] theorem setBytes_pd (a : Nat) (b : Bytes) (j : Nat) : (s.setBytes a b).pd j = s.pd j := rfl
@[simp] theorem setBytes_eye (a : Nat) (b : Bytes) (j : Nat) : (s.setBytes a b).eye j = s.eye j := rfl
@[simp] theorem setBytes_latch (a : Nat) (b : Bytes) (j : Nat) : (s.setBytes a b).latch j = s.latch j := rfl
@[simp] theorem setBytes_plat (a : Nat) (b : Bytes) (j : Nat) : (s.setBytes a b).plat j = s.plat j := rfl
@[simp] theorem setBytes_chan (a : Nat) (b : Bytes) (j : Nat) : (s.setBytes a b).chan j = s.chan j := rfl
@[simp] theorem setBytes_page (a : Nat) (b : Bytes) (j : Nat) : (s.setBytes a b).page j = s.page j := rfl
@[simp] theorem setBytes_port (a : Nat) (b : Bytes) (j : Nat) : (s.setBytes a b).port j = s.port j := rfl
@[simp] theorem setBytes_weltCount (a : Nat) (b : Bytes) : (s.setBytes a b).weltCount  = s.weltCount  := rfl
@[simp] theorem setBytes_platRecQ (a : Nat) (b : Bytes) (j : Nat) : (s.setBytes a b).platRec? j = s.platRec? j := rfl
@[simp] theorem setBytes_platRec (a : Nat) (b : Bytes) (j : Nat) : (s.setBytes a b).platRec j = s.platRec j := rfl
@[simp] theorem setBytes_pdRecQ (a : Nat) (b : Bytes) (j : Nat) : (s.setBytes a b).pdRec? j = s.pdRec? j := rfl
@[simp] theorem setBytes_pdRec (a : Nat) (b : Bytes) (j : Nat) : (s.setBytes a b).pdRec j = s.pdRec j := rfl
@[simp] theorem setBytes_eyeRecQ (a : Nat) (b : Bytes) (j : Nat) : (s.setBytes a b).eyeRec? j = s.eyeRec? j := rfl
@[simp] theorem setBytes_eyeRec (a : Nat) (b : Bytes) (j : Nat) : (s.setBytes a b).eyeRec j = s.eyeRec j := rfl
@[simp] theorem setBytes_platNums (a : Nat) (b : Bytes) : (s.setBytes a b).platNums  = s.platNums  := rfl
@[simp] theorem setBytes_drives (a : Nat) (b : Bytes) : (s.setBytes a b).drives  = s.drives  := rfl
@[simp] theorem setBytes_paired (a : Nat) (b : Bytes) : (s.setBytes a b).paired  = s.paired  := rfl
@[simp] theorem setBytes_shadowing (a : Nat) (b : Bytes) : (s.setBytes a b).shadowing  = s.shadowing  := rfl
@[simp] theorem setBytes_live (a : Nat) (b : Bytes) : (s.setBytes a b).live  = s.live  := rfl

/-! ### push -/

@[simp] theorem push_sys (r : Bytes) : (s.push r).sys = s.sys := by unfold State.push; split <;> rfl
@[simp] theorem push_stitch (r : Bytes) : (s.push r).stitch = s.stitch := by unfold State.push; split <;> rfl
@[simp] theorem push_pat (r : Bytes) : (s.push r).pat = s.pat := by unfold State.push; split <;> rfl
@[simp] theorem push_patNext (r : Bytes) : (s.push r).patNext = s.patNext := by unfold State.push; split <;> rfl
@[simp] theorem push_patLoad (r : Bytes) : (s.push r).patLoad = s.patLoad := by unfold State.push; split <;> rfl
@[simp] theorem push_welts (r : Bytes) : (s.push r).welts = s.welts := by unfold State.push; split <;> rfl
@[simp] theorem push_pds (r : Bytes) : (s.push r).pds = s.pds := by unfold State.push; split <;> rfl
@[simp] theorem push_eyes (r : Bytes) : (s.push r).eyes = s.eyes := by unfold State.push; split <;> rfl
@[simp] theorem push_click (r : Bytes) : (s.push r).click = s.click := by unfold State.push; split <;> rfl
@[simp] theorem push_sole (r : Bytes) : (s.push r).sole = s.sole := by unfold State.push; split <;> rfl
@[simp] theorem push_latches (r : Bytes) : (s.push r).latches = s.latches := by unfold State.push; split <;> rfl
@[simp] theorem push_bootLoad (r : Bytes) : (s.push r).bootLoad = s.bootLoad := by unfold State.push; split <;> rfl
@[simp] theorem push_point (r : Bytes) : (s.push r).point = s.point := by unfold State.push; split <;> rfl
@[simp] theorem push_plats (r : Bytes) : (s.push r).plats = s.plats := by unfold State.push; split <;> rfl
@[simp] theorem push_cobLatest (r : Bytes) : (s.push r).cobLatest = s.cobLatest := by unfold State.push; split <;> rfl
@[simp] theorem push_cobTurn (r : Bytes) : (s.push r).cobTurn = s.cobTurn := by unfold State.push; split <;> rfl
@[simp] theorem push_cobLast (r : Bytes) : (s.push r).cobLast = s.cobLast := by unfold State.push; split <;> rfl
@[simp] theorem push_cobSeq (r : Bytes) : (s.push r).cobSeq = s.cobSeq := by unfold State.push; split <;> rfl
@[simp] theorem push_heel (r : Bytes) : (s.push r).heel = s.heel := by unfold State.push; split <;> rfl
@[simp] theorem push_pair (r : Bytes) : (s.push r).pair = s.pair := by unfold State.push; split <;> rfl
@[simp] theorem push_env (r : Bytes) : (s.push r).env = s.env := by unfold State.push; split <;> rfl
@[simp] theorem push_dgst (r : Bytes) : (s.push r).dgst = s.dgst := by unfold State.push; split <;> rfl
@[simp] theorem push_keys (r : Bytes) : (s.push r).keys = s.keys := by unfold State.push; split <;> rfl
@[simp] theorem push_att (r : Bytes) : (s.push r).att = s.att := by unfold State.push; split <;> rfl
@[simp] theorem push_fuse (r : Bytes) : (s.push r).fuse = s.fuse := by unfold State.push; split <;> rfl
@[simp] theorem push_boot (r : Bytes) : (s.push r).boot = s.boot := by unfold State.push; split <;> rfl
@[simp] theorem push_vamp (r : Bytes) : (s.push r).vamp = s.vamp := by unfold State.push; split <;> rfl
@[simp] theorem push_frz (r : Bytes) : (s.push r).frz = s.frz := by unfold State.push; split <;> rfl
@[simp] theorem push_pwr (r : Bytes) : (s.push r).pwr = s.pwr := by unfold State.push; split <;> rfl
@[simp] theorem push_sel (r : Bytes) : (s.push r).sel = s.sel := by unfold State.push; split <;> rfl
@[simp] theorem push_mem (r : Bytes) : (s.push r).mem = s.mem := by unfold State.push; split <;> rfl
@[simp] theorem push_pm (r : Bytes) : (s.push r).pm = s.pm := by unfold State.push; split <;> rfl
@[simp] theorem push_deferred (r : Bytes) : (s.push r).deferred = s.deferred := by unfold State.push; split <;> rfl
@[simp] theorem push_out (r : Bytes) : (s.push r).out = s.out := by unfold State.push; split <;> rfl
@[simp] theorem push_fresh (r : Bytes) : (s.push r).fresh = s.fresh := by unfold State.push; split <;> rfl
@[simp] theorem push_pending (r : Bytes) : (s.push r).pending = s.pending := by unfold State.push; split <;> rfl
@[simp] theorem push_now (r : Bytes) : (s.push r).now  = s.now  := by simp [State.now]
@[simp] theorem push_welt (r : Bytes) (j : Nat) : (s.push r).welt j = s.welt j := by simp [State.welt]
@[simp] theorem push_pd (r : Bytes) (j : Nat) : (s.push r).pd j = s.pd j := by simp [State.pd]
@[simp] theorem push_eye (r : Bytes) (j : Nat) : (s.push r).eye j = s.eye j := by simp [State.eye]
@[simp] theorem push_latch (r : Bytes) (j : Nat) : (s.push r).latch j = s.latch j := by simp [State.latch]
@[simp] theorem push_plat (r : Bytes) (j : Nat) : (s.push r).plat j = s.plat j := by simp [State.plat]
@[simp] theorem push_chan (r : Bytes) (j : Nat) : (s.push r).chan j = s.chan j := by simp [State.chan]
@[simp] theorem push_page (r : Bytes) (j : Nat) : (s.push r).page j = s.page j := by simp [State.page]
@[simp] theorem push_port (r : Bytes) (j : Nat) : (s.push r).port j = s.port j := by simp [State.port]
@[simp] theorem push_word (r : Bytes) (j : Nat) : (s.push r).word j = s.word j := by simp [State.word]
@[simp] theorem push_bytes (r : Bytes) (j k : Nat) : (s.push r).bytes j k = s.bytes j k := by simp [State.bytes]
@[simp] theorem push_weltCount (r : Bytes) : (s.push r).weltCount  = s.weltCount  := by simp [State.weltCount]
@[simp] theorem push_platRecQ (r : Bytes) (j : Nat) : (s.push r).platRec? j = s.platRec? j := by simp [State.platRec?]
@[simp] theorem push_platRec (r : Bytes) (j : Nat) : (s.push r).platRec j = s.platRec j := by simp [State.platRec, State.platRec?]
@[simp] theorem push_pdRecQ (r : Bytes) (j : Nat) : (s.push r).pdRec? j = s.pdRec? j := by simp [State.pdRec?]
@[simp] theorem push_pdRec (r : Bytes) (j : Nat) : (s.push r).pdRec j = s.pdRec j := by simp [State.pdRec, State.pdRec?]
@[simp] theorem push_eyeRecQ (r : Bytes) (j : Nat) : (s.push r).eyeRec? j = s.eyeRec? j := by simp [State.eyeRec?]
@[simp] theorem push_eyeRec (r : Bytes) (j : Nat) : (s.push r).eyeRec j = s.eyeRec j := by simp [State.eyeRec, State.eyeRec?]
@[simp] theorem push_platNums (r : Bytes) : (s.push r).platNums  = s.platNums  := by simp [State.platNums]
@[simp] theorem push_drives (r : Bytes) : (s.push r).drives  = s.drives  := by simp [State.drives]
@[simp] theorem push_paired (r : Bytes) : (s.push r).paired  = s.paired  := by simp [State.paired]
@[simp] theorem push_shadowing (r : Bytes) : (s.push r).shadowing  = s.shadowing  := by simp [State.shadowing]
@[simp] theorem push_live (r : Bytes) : (s.push r).live  = s.live  := by simp [State.live]

/-! ### event -/

@[simp] theorem event_sys (ty : Nat) (sub : Subject) (c : Nat) (d : Bytes) (i : Nat) : (s.event ty sub c d i).sys = s.sys := by simp [State.event]
@[simp] theorem event_stitch (ty : Nat) (sub : Subject) (c : Nat) (d : Bytes) (i : Nat) : (s.event ty sub c d i).stitch = s.stitch := by simp [State.event]
@[simp] theorem event_pat (ty : Nat) (sub : Subject) (c : Nat) (d : Bytes) (i : Nat) : (s.event ty sub c d i).pat = s.pat := by simp [State.event]
@[simp] theorem event_patNext (ty : Nat) (sub : Subject) (c : Nat) (d : Bytes) (i : Nat) : (s.event ty sub c d i).patNext = s.patNext := by simp [State.event]
@[simp] theorem event_patLoad (ty : Nat) (sub : Subject) (c : Nat) (d : Bytes) (i : Nat) : (s.event ty sub c d i).patLoad = s.patLoad := by simp [State.event]
@[simp] theorem event_welts (ty : Nat) (sub : Subject) (c : Nat) (d : Bytes) (i : Nat) : (s.event ty sub c d i).welts = s.welts := by simp [State.event]
@[simp] theorem event_pds (ty : Nat) (sub : Subject) (c : Nat) (d : Bytes) (i : Nat) : (s.event ty sub c d i).pds = s.pds := by simp [State.event]
@[simp] theorem event_eyes (ty : Nat) (sub : Subject) (c : Nat) (d : Bytes) (i : Nat) : (s.event ty sub c d i).eyes = s.eyes := by simp [State.event]
@[simp] theorem event_click (ty : Nat) (sub : Subject) (c : Nat) (d : Bytes) (i : Nat) : (s.event ty sub c d i).click = s.click := by simp [State.event]
@[simp] theorem event_sole (ty : Nat) (sub : Subject) (c : Nat) (d : Bytes) (i : Nat) : (s.event ty sub c d i).sole = s.sole := by simp [State.event]
@[simp] theorem event_latches (ty : Nat) (sub : Subject) (c : Nat) (d : Bytes) (i : Nat) : (s.event ty sub c d i).latches = s.latches := by simp [State.event]
@[simp] theorem event_bootLoad (ty : Nat) (sub : Subject) (c : Nat) (d : Bytes) (i : Nat) : (s.event ty sub c d i).bootLoad = s.bootLoad := by simp [State.event]
@[simp] theorem event_point (ty : Nat) (sub : Subject) (c : Nat) (d : Bytes) (i : Nat) : (s.event ty sub c d i).point = s.point := by simp [State.event]
@[simp] theorem event_plats (ty : Nat) (sub : Subject) (c : Nat) (d : Bytes) (i : Nat) : (s.event ty sub c d i).plats = s.plats := by simp [State.event]
@[simp] theorem event_cobLatest (ty : Nat) (sub : Subject) (c : Nat) (d : Bytes) (i : Nat) : (s.event ty sub c d i).cobLatest = s.cobLatest := by simp [State.event]
@[simp] theorem event_cobTurn (ty : Nat) (sub : Subject) (c : Nat) (d : Bytes) (i : Nat) : (s.event ty sub c d i).cobTurn = s.cobTurn := by simp [State.event]
@[simp] theorem event_cobLast (ty : Nat) (sub : Subject) (c : Nat) (d : Bytes) (i : Nat) : (s.event ty sub c d i).cobLast = s.cobLast := by simp [State.event]
@[simp] theorem event_cobSeq (ty : Nat) (sub : Subject) (c : Nat) (d : Bytes) (i : Nat) : (s.event ty sub c d i).cobSeq = s.cobSeq := by simp [State.event]
@[simp] theorem event_heel (ty : Nat) (sub : Subject) (c : Nat) (d : Bytes) (i : Nat) : (s.event ty sub c d i).heel = s.heel := by simp [State.event]
@[simp] theorem event_pair (ty : Nat) (sub : Subject) (c : Nat) (d : Bytes) (i : Nat) : (s.event ty sub c d i).pair = s.pair := by simp [State.event]
@[simp] theorem event_env (ty : Nat) (sub : Subject) (c : Nat) (d : Bytes) (i : Nat) : (s.event ty sub c d i).env = s.env := by simp [State.event]
@[simp] theorem event_dgst (ty : Nat) (sub : Subject) (c : Nat) (d : Bytes) (i : Nat) : (s.event ty sub c d i).dgst = s.dgst := by simp [State.event]
@[simp] theorem event_keys (ty : Nat) (sub : Subject) (c : Nat) (d : Bytes) (i : Nat) : (s.event ty sub c d i).keys = s.keys := by simp [State.event]
@[simp] theorem event_att (ty : Nat) (sub : Subject) (c : Nat) (d : Bytes) (i : Nat) : (s.event ty sub c d i).att = s.att := by simp [State.event]
@[simp] theorem event_fuse (ty : Nat) (sub : Subject) (c : Nat) (d : Bytes) (i : Nat) : (s.event ty sub c d i).fuse = s.fuse := by simp [State.event]
@[simp] theorem event_boot (ty : Nat) (sub : Subject) (c : Nat) (d : Bytes) (i : Nat) : (s.event ty sub c d i).boot = s.boot := by simp [State.event]
@[simp] theorem event_vamp (ty : Nat) (sub : Subject) (c : Nat) (d : Bytes) (i : Nat) : (s.event ty sub c d i).vamp = s.vamp := by simp [State.event]
@[simp] theorem event_frz (ty : Nat) (sub : Subject) (c : Nat) (d : Bytes) (i : Nat) : (s.event ty sub c d i).frz = s.frz := by simp [State.event]
@[simp] theorem event_pwr (ty : Nat) (sub : Subject) (c : Nat) (d : Bytes) (i : Nat) : (s.event ty sub c d i).pwr = s.pwr := by simp [State.event]
@[simp] theorem event_sel (ty : Nat) (sub : Subject) (c : Nat) (d : Bytes) (i : Nat) : (s.event ty sub c d i).sel = s.sel := by simp [State.event]
@[simp] theorem event_mem (ty : Nat) (sub : Subject) (c : Nat) (d : Bytes) (i : Nat) : (s.event ty sub c d i).mem = s.mem := by simp [State.event]
@[simp] theorem event_pm (ty : Nat) (sub : Subject) (c : Nat) (d : Bytes) (i : Nat) : (s.event ty sub c d i).pm = s.pm := by simp [State.event]
@[simp] theorem event_deferred (ty : Nat) (sub : Subject) (c : Nat) (d : Bytes) (i : Nat) : (s.event ty sub c d i).deferred = s.deferred := by simp [State.event]
@[simp] theorem event_out (ty : Nat) (sub : Subject) (c : Nat) (d : Bytes) (i : Nat) : (s.event ty sub c d i).out = s.out := by simp [State.event]
@[simp] theorem event_fresh (ty : Nat) (sub : Subject) (c : Nat) (d : Bytes) (i : Nat) : (s.event ty sub c d i).fresh = s.fresh := by simp [State.event]
@[simp] theorem event_pending (ty : Nat) (sub : Subject) (c : Nat) (d : Bytes) (i : Nat) : (s.event ty sub c d i).pending = s.pending := by simp [State.event]
@[simp] theorem event_now (ty : Nat) (sub : Subject) (c : Nat) (d : Bytes) (i : Nat) : (s.event ty sub c d i).now  = s.now  := by simp [State.now]
@[simp] theorem event_welt (ty : Nat) (sub : Subject) (c : Nat) (d : Bytes) (i : Nat) (j : Nat) : (s.event ty sub c d i).welt j = s.welt j := by simp [State.welt]
@[simp] theorem event_pd (ty : Nat) (sub : Subject) (c : Nat) (d : Bytes) (i : Nat) (j : Nat) : (s.event ty sub c d i).pd j = s.pd j := by simp [State.pd]
@[simp] theorem event_eye (ty : Nat) (sub : Subject) (c : Nat) (d : Bytes) (i : Nat) (j : Nat) : (s.event ty sub c d i).eye j = s.eye j := by simp [State.eye]
@[simp] theorem event_latch (ty : Nat) (sub : Subject) (c : Nat) (d : Bytes) (i : Nat) (j : Nat) : (s.event ty sub c d i).latch j = s.latch j := by simp [State.latch]
@[simp] theorem event_plat (ty : Nat) (sub : Subject) (c : Nat) (d : Bytes) (i : Nat) (j : Nat) : (s.event ty sub c d i).plat j = s.plat j := by simp [State.plat]
@[simp] theorem event_chan (ty : Nat) (sub : Subject) (c : Nat) (d : Bytes) (i : Nat) (j : Nat) : (s.event ty sub c d i).chan j = s.chan j := by simp [State.chan]
@[simp] theorem event_page (ty : Nat) (sub : Subject) (c : Nat) (d : Bytes) (i : Nat) (j : Nat) : (s.event ty sub c d i).page j = s.page j := by simp [State.page]
@[simp] theorem event_port (ty : Nat) (sub : Subject) (c : Nat) (d : Bytes) (i : Nat) (j : Nat) : (s.event ty sub c d i).port j = s.port j := by simp [State.port]
@[simp] theorem event_word (ty : Nat) (sub : Subject) (c : Nat) (d : Bytes) (i : Nat) (j : Nat) : (s.event ty sub c d i).word j = s.word j := by simp [State.word]
@[simp] theorem event_bytes (ty : Nat) (sub : Subject) (c : Nat) (d : Bytes) (i : Nat) (j k : Nat) : (s.event ty sub c d i).bytes j k = s.bytes j k := by simp [State.bytes]
@[simp] theorem event_weltCount (ty : Nat) (sub : Subject) (c : Nat) (d : Bytes) (i : Nat) : (s.event ty sub c d i).weltCount  = s.weltCount  := by simp [State.weltCount]
@[simp] theorem event_platRecQ (ty : Nat) (sub : Subject) (c : Nat) (d : Bytes) (i : Nat) (j : Nat) : (s.event ty sub c d i).platRec? j = s.platRec? j := by simp [State.platRec?]
@[simp] theorem event_platRec (ty : Nat) (sub : Subject) (c : Nat) (d : Bytes) (i : Nat) (j : Nat) : (s.event ty sub c d i).platRec j = s.platRec j := by simp [State.platRec, State.platRec?]
@[simp] theorem event_pdRecQ (ty : Nat) (sub : Subject) (c : Nat) (d : Bytes) (i : Nat) (j : Nat) : (s.event ty sub c d i).pdRec? j = s.pdRec? j := by simp [State.pdRec?]
@[simp] theorem event_pdRec (ty : Nat) (sub : Subject) (c : Nat) (d : Bytes) (i : Nat) (j : Nat) : (s.event ty sub c d i).pdRec j = s.pdRec j := by simp [State.pdRec, State.pdRec?]
@[simp] theorem event_eyeRecQ (ty : Nat) (sub : Subject) (c : Nat) (d : Bytes) (i : Nat) (j : Nat) : (s.event ty sub c d i).eyeRec? j = s.eyeRec? j := by simp [State.eyeRec?]
@[simp] theorem event_eyeRec (ty : Nat) (sub : Subject) (c : Nat) (d : Bytes) (i : Nat) (j : Nat) : (s.event ty sub c d i).eyeRec j = s.eyeRec j := by simp [State.eyeRec, State.eyeRec?]
@[simp] theorem event_platNums (ty : Nat) (sub : Subject) (c : Nat) (d : Bytes) (i : Nat) : (s.event ty sub c d i).platNums  = s.platNums  := by simp [State.platNums]
@[simp] theorem event_drives (ty : Nat) (sub : Subject) (c : Nat) (d : Bytes) (i : Nat) : (s.event ty sub c d i).drives  = s.drives  := by simp [State.drives]
@[simp] theorem event_paired (ty : Nat) (sub : Subject) (c : Nat) (d : Bytes) (i : Nat) : (s.event ty sub c d i).paired  = s.paired  := by simp [State.paired]
@[simp] theorem event_shadowing (ty : Nat) (sub : Subject) (c : Nat) (d : Bytes) (i : Nat) : (s.event ty sub c d i).shadowing  = s.shadowing  := by simp [State.shadowing]
@[simp] theorem event_live (ty : Nat) (sub : Subject) (c : Nat) (d : Bytes) (i : Nat) : (s.event ty sub c d i).live  = s.live  := by simp [State.live]

/-! ### eventInc -/

@[simp] theorem eventInc_sys (ty : Nat) (sub : Subject) (c : Nat) (d : Bytes) : (s.eventInc ty sub c d).sys = s.sys := by simp [State.eventInc, State.incident]
@[simp] theorem eventInc_stitch (ty : Nat) (sub : Subject) (c : Nat) (d : Bytes) : (s.eventInc ty sub c d).stitch = s.stitch := by simp [State.eventInc, State.incident]
@[simp] theorem eventInc_pat (ty : Nat) (sub : Subject) (c : Nat) (d : Bytes) : (s.eventInc ty sub c d).pat = s.pat := by simp [State.eventInc, State.incident]
@[simp] theorem eventInc_patNext (ty : Nat) (sub : Subject) (c : Nat) (d : Bytes) : (s.eventInc ty sub c d).patNext = s.patNext := by simp [State.eventInc, State.incident]
@[simp] theorem eventInc_patLoad (ty : Nat) (sub : Subject) (c : Nat) (d : Bytes) : (s.eventInc ty sub c d).patLoad = s.patLoad := by simp [State.eventInc, State.incident]
@[simp] theorem eventInc_welts (ty : Nat) (sub : Subject) (c : Nat) (d : Bytes) : (s.eventInc ty sub c d).welts = s.welts := by simp [State.eventInc, State.incident]
@[simp] theorem eventInc_pds (ty : Nat) (sub : Subject) (c : Nat) (d : Bytes) : (s.eventInc ty sub c d).pds = s.pds := by simp [State.eventInc, State.incident]
@[simp] theorem eventInc_eyes (ty : Nat) (sub : Subject) (c : Nat) (d : Bytes) : (s.eventInc ty sub c d).eyes = s.eyes := by simp [State.eventInc, State.incident]
@[simp] theorem eventInc_click (ty : Nat) (sub : Subject) (c : Nat) (d : Bytes) : (s.eventInc ty sub c d).click = s.click := by simp [State.eventInc, State.incident]
@[simp] theorem eventInc_sole (ty : Nat) (sub : Subject) (c : Nat) (d : Bytes) : (s.eventInc ty sub c d).sole = s.sole := by simp [State.eventInc, State.incident]
@[simp] theorem eventInc_latches (ty : Nat) (sub : Subject) (c : Nat) (d : Bytes) : (s.eventInc ty sub c d).latches = s.latches := by simp [State.eventInc, State.incident]
@[simp] theorem eventInc_bootLoad (ty : Nat) (sub : Subject) (c : Nat) (d : Bytes) : (s.eventInc ty sub c d).bootLoad = s.bootLoad := by simp [State.eventInc, State.incident]
@[simp] theorem eventInc_point (ty : Nat) (sub : Subject) (c : Nat) (d : Bytes) : (s.eventInc ty sub c d).point = s.point := by simp [State.eventInc, State.incident]
@[simp] theorem eventInc_plats (ty : Nat) (sub : Subject) (c : Nat) (d : Bytes) : (s.eventInc ty sub c d).plats = s.plats := by simp [State.eventInc, State.incident]
@[simp] theorem eventInc_cobLatest (ty : Nat) (sub : Subject) (c : Nat) (d : Bytes) : (s.eventInc ty sub c d).cobLatest = s.cobLatest := by simp [State.eventInc, State.incident]
@[simp] theorem eventInc_cobTurn (ty : Nat) (sub : Subject) (c : Nat) (d : Bytes) : (s.eventInc ty sub c d).cobTurn = s.cobTurn := by simp [State.eventInc, State.incident]
@[simp] theorem eventInc_cobLast (ty : Nat) (sub : Subject) (c : Nat) (d : Bytes) : (s.eventInc ty sub c d).cobLast = s.cobLast := by simp [State.eventInc, State.incident]
@[simp] theorem eventInc_cobSeq (ty : Nat) (sub : Subject) (c : Nat) (d : Bytes) : (s.eventInc ty sub c d).cobSeq = s.cobSeq := by simp [State.eventInc, State.incident]
@[simp] theorem eventInc_heel (ty : Nat) (sub : Subject) (c : Nat) (d : Bytes) : (s.eventInc ty sub c d).heel = s.heel := by simp [State.eventInc, State.incident]
@[simp] theorem eventInc_pair (ty : Nat) (sub : Subject) (c : Nat) (d : Bytes) : (s.eventInc ty sub c d).pair = s.pair := by simp [State.eventInc, State.incident]
@[simp] theorem eventInc_env (ty : Nat) (sub : Subject) (c : Nat) (d : Bytes) : (s.eventInc ty sub c d).env = s.env := by simp [State.eventInc, State.incident]
@[simp] theorem eventInc_dgst (ty : Nat) (sub : Subject) (c : Nat) (d : Bytes) : (s.eventInc ty sub c d).dgst = s.dgst := by simp [State.eventInc, State.incident]
@[simp] theorem eventInc_keys (ty : Nat) (sub : Subject) (c : Nat) (d : Bytes) : (s.eventInc ty sub c d).keys = s.keys := by simp [State.eventInc, State.incident]
@[simp] theorem eventInc_att (ty : Nat) (sub : Subject) (c : Nat) (d : Bytes) : (s.eventInc ty sub c d).att = s.att := by simp [State.eventInc, State.incident]
@[simp] theorem eventInc_fuse (ty : Nat) (sub : Subject) (c : Nat) (d : Bytes) : (s.eventInc ty sub c d).fuse = s.fuse := by simp [State.eventInc, State.incident]
@[simp] theorem eventInc_boot (ty : Nat) (sub : Subject) (c : Nat) (d : Bytes) : (s.eventInc ty sub c d).boot = s.boot := by simp [State.eventInc, State.incident]
@[simp] theorem eventInc_vamp (ty : Nat) (sub : Subject) (c : Nat) (d : Bytes) : (s.eventInc ty sub c d).vamp = s.vamp := by simp [State.eventInc, State.incident]
@[simp] theorem eventInc_frz (ty : Nat) (sub : Subject) (c : Nat) (d : Bytes) : (s.eventInc ty sub c d).frz = s.frz := by simp [State.eventInc, State.incident]
@[simp] theorem eventInc_pwr (ty : Nat) (sub : Subject) (c : Nat) (d : Bytes) : (s.eventInc ty sub c d).pwr = s.pwr := by simp [State.eventInc, State.incident]
@[simp] theorem eventInc_sel (ty : Nat) (sub : Subject) (c : Nat) (d : Bytes) : (s.eventInc ty sub c d).sel = s.sel := by simp [State.eventInc, State.incident]
@[simp] theorem eventInc_pm (ty : Nat) (sub : Subject) (c : Nat) (d : Bytes) : (s.eventInc ty sub c d).pm = s.pm := by simp [State.eventInc, State.incident]
@[simp] theorem eventInc_deferred (ty : Nat) (sub : Subject) (c : Nat) (d : Bytes) : (s.eventInc ty sub c d).deferred = s.deferred := by simp [State.eventInc, State.incident]
@[simp] theorem eventInc_out (ty : Nat) (sub : Subject) (c : Nat) (d : Bytes) : (s.eventInc ty sub c d).out = s.out := by simp [State.eventInc, State.incident]
@[simp] theorem eventInc_fresh (ty : Nat) (sub : Subject) (c : Nat) (d : Bytes) : (s.eventInc ty sub c d).fresh = s.fresh := by simp [State.eventInc, State.incident]
@[simp] theorem eventInc_pending (ty : Nat) (sub : Subject) (c : Nat) (d : Bytes) : (s.eventInc ty sub c d).pending = s.pending := by simp [State.eventInc, State.incident]
@[simp] theorem eventInc_now (ty : Nat) (sub : Subject) (c : Nat) (d : Bytes) : (s.eventInc ty sub c d).now  = s.now  := by simp [State.now]
@[simp] theorem eventInc_welt (ty : Nat) (sub : Subject) (c : Nat) (d : Bytes) (j : Nat) : (s.eventInc ty sub c d).welt j = s.welt j := by simp [State.welt]
@[simp] theorem eventInc_pd (ty : Nat) (sub : Subject) (c : Nat) (d : Bytes) (j : Nat) : (s.eventInc ty sub c d).pd j = s.pd j := by simp [State.pd]
@[simp] theorem eventInc_eye (ty : Nat) (sub : Subject) (c : Nat) (d : Bytes) (j : Nat) : (s.eventInc ty sub c d).eye j = s.eye j := by simp [State.eye]
@[simp] theorem eventInc_latch (ty : Nat) (sub : Subject) (c : Nat) (d : Bytes) (j : Nat) : (s.eventInc ty sub c d).latch j = s.latch j := by simp [State.latch]
@[simp] theorem eventInc_plat (ty : Nat) (sub : Subject) (c : Nat) (d : Bytes) (j : Nat) : (s.eventInc ty sub c d).plat j = s.plat j := by simp [State.plat]
@[simp] theorem eventInc_chan (ty : Nat) (sub : Subject) (c : Nat) (d : Bytes) (j : Nat) : (s.eventInc ty sub c d).chan j = s.chan j := by simp [State.chan]
@[simp] theorem eventInc_page (ty : Nat) (sub : Subject) (c : Nat) (d : Bytes) (j : Nat) : (s.eventInc ty sub c d).page j = s.page j := by simp [State.page]
@[simp] theorem eventInc_port (ty : Nat) (sub : Subject) (c : Nat) (d : Bytes) (j : Nat) : (s.eventInc ty sub c d).port j = s.port j := by simp [State.port]
@[simp] theorem eventInc_weltCount (ty : Nat) (sub : Subject) (c : Nat) (d : Bytes) : (s.eventInc ty sub c d).weltCount  = s.weltCount  := by simp [State.weltCount]
@[simp] theorem eventInc_platRecQ (ty : Nat) (sub : Subject) (c : Nat) (d : Bytes) (j : Nat) : (s.eventInc ty sub c d).platRec? j = s.platRec? j := by simp [State.platRec?]
@[simp] theorem eventInc_platRec (ty : Nat) (sub : Subject) (c : Nat) (d : Bytes) (j : Nat) : (s.eventInc ty sub c d).platRec j = s.platRec j := by simp [State.platRec, State.platRec?]
@[simp] theorem eventInc_pdRecQ (ty : Nat) (sub : Subject) (c : Nat) (d : Bytes) (j : Nat) : (s.eventInc ty sub c d).pdRec? j = s.pdRec? j := by simp [State.pdRec?]
@[simp] theorem eventInc_pdRec (ty : Nat) (sub : Subject) (c : Nat) (d : Bytes) (j : Nat) : (s.eventInc ty sub c d).pdRec j = s.pdRec j := by simp [State.pdRec, State.pdRec?]
@[simp] theorem eventInc_eyeRecQ (ty : Nat) (sub : Subject) (c : Nat) (d : Bytes) (j : Nat) : (s.eventInc ty sub c d).eyeRec? j = s.eyeRec? j := by simp [State.eyeRec?]
@[simp] theorem eventInc_eyeRec (ty : Nat) (sub : Subject) (c : Nat) (d : Bytes) (j : Nat) : (s.eventInc ty sub c d).eyeRec j = s.eyeRec j := by simp [State.eyeRec, State.eyeRec?]
@[simp] theorem eventInc_platNums (ty : Nat) (sub : Subject) (c : Nat) (d : Bytes) : (s.eventInc ty sub c d).platNums  = s.platNums  := by simp [State.platNums]
@[simp] theorem eventInc_drives (ty : Nat) (sub : Subject) (c : Nat) (d : Bytes) : (s.eventInc ty sub c d).drives  = s.drives  := by simp [State.drives]
@[simp] theorem eventInc_paired (ty : Nat) (sub : Subject) (c : Nat) (d : Bytes) : (s.eventInc ty sub c d).paired  = s.paired  := by simp [State.paired]
@[simp] theorem eventInc_shadowing (ty : Nat) (sub : Subject) (c : Nat) (d : Bytes) : (s.eventInc ty sub c d).shadowing  = s.shadowing  := by simp [State.shadowing]
@[simp] theorem eventInc_live (ty : Nat) (sub : Subject) (c : Nat) (d : Bytes) : (s.eventInc ty sub c d).live  = s.live  := by simp [State.live]

/-! ### post -/

@[simp] theorem post_sys (r c : Nat) (a : Bytes) (o : Option Origin) : (s.post r c a o).sys = s.sys := by unfold State.post; simp only; split <;> rfl
@[simp] theorem post_stitch (r c : Nat) (a : Bytes) (o : Option Origin) : (s.post r c a o).stitch = s.stitch := by unfold State.post; simp only; split <;> rfl
@[simp] theorem post_pat (r c : Nat) (a : Bytes) (o : Option Origin) : (s.post r c a o).pat = s.pat := by unfold State.post; simp only; split <;> rfl
@[simp] theorem post_patNext (r c : Nat) (a : Bytes) (o : Option Origin) : (s.post r c a o).patNext = s.patNext := by unfold State.post; simp only; split <;> rfl
@[simp] theorem post_patLoad (r c : Nat) (a : Bytes) (o : Option Origin) : (s.post r c a o).patLoad = s.patLoad := by unfold State.post; simp only; split <;> rfl
@[simp] theorem post_welts (r c : Nat) (a : Bytes) (o : Option Origin) : (s.post r c a o).welts = s.welts := by unfold State.post; simp only; split <;> rfl
@[simp] theorem post_pds (r c : Nat) (a : Bytes) (o : Option Origin) : (s.post r c a o).pds = s.pds := by unfold State.post; simp only; split <;> rfl
@[simp] theorem post_eyes (r c : Nat) (a : Bytes) (o : Option Origin) : (s.post r c a o).eyes = s.eyes := by unfold State.post; simp only; split <;> rfl
@[simp] theorem post_click (r c : Nat) (a : Bytes) (o : Option Origin) : (s.post r c a o).click = s.click := by unfold State.post; simp only; split <;> rfl
@[simp] theorem post_sole (r c : Nat) (a : Bytes) (o : Option Origin) : (s.post r c a o).sole = s.sole := by unfold State.post; simp only; split <;> rfl
@[simp] theorem post_latches (r c : Nat) (a : Bytes) (o : Option Origin) : (s.post r c a o).latches = s.latches := by unfold State.post; simp only; split <;> rfl
@[simp] theorem post_bootLoad (r c : Nat) (a : Bytes) (o : Option Origin) : (s.post r c a o).bootLoad = s.bootLoad := by unfold State.post; simp only; split <;> rfl
@[simp] theorem post_point (r c : Nat) (a : Bytes) (o : Option Origin) : (s.post r c a o).point = s.point := by unfold State.post; simp only; split <;> rfl
@[simp] theorem post_plats (r c : Nat) (a : Bytes) (o : Option Origin) : (s.post r c a o).plats = s.plats := by unfold State.post; simp only; split <;> rfl
@[simp] theorem post_cobLatest (r c : Nat) (a : Bytes) (o : Option Origin) : (s.post r c a o).cobLatest = s.cobLatest := by unfold State.post; simp only; split <;> rfl
@[simp] theorem post_cobTurn (r c : Nat) (a : Bytes) (o : Option Origin) : (s.post r c a o).cobTurn = s.cobTurn := by unfold State.post; simp only; split <;> rfl
@[simp] theorem post_cobLast (r c : Nat) (a : Bytes) (o : Option Origin) : (s.post r c a o).cobLast = s.cobLast := by unfold State.post; simp only; split <;> rfl
@[simp] theorem post_cobSeq (r c : Nat) (a : Bytes) (o : Option Origin) : (s.post r c a o).cobSeq = s.cobSeq := by unfold State.post; simp only; split <;> rfl
@[simp] theorem post_pair (r c : Nat) (a : Bytes) (o : Option Origin) : (s.post r c a o).pair = s.pair := by unfold State.post; simp only; split <;> rfl
@[simp] theorem post_env (r c : Nat) (a : Bytes) (o : Option Origin) : (s.post r c a o).env = s.env := by unfold State.post; simp only; split <;> rfl
@[simp] theorem post_log (r c : Nat) (a : Bytes) (o : Option Origin) : (s.post r c a o).log = s.log := by unfold State.post; simp only; split <;> rfl
@[simp] theorem post_dgst (r c : Nat) (a : Bytes) (o : Option Origin) : (s.post r c a o).dgst = s.dgst := by unfold State.post; simp only; split <;> rfl
@[simp] theorem post_keys (r c : Nat) (a : Bytes) (o : Option Origin) : (s.post r c a o).keys = s.keys := by unfold State.post; simp only; split <;> rfl
@[simp] theorem post_att (r c : Nat) (a : Bytes) (o : Option Origin) : (s.post r c a o).att = s.att := by unfold State.post; simp only; split <;> rfl
@[simp] theorem post_fuse (r c : Nat) (a : Bytes) (o : Option Origin) : (s.post r c a o).fuse = s.fuse := by unfold State.post; simp only; split <;> rfl
@[simp] theorem post_boot (r c : Nat) (a : Bytes) (o : Option Origin) : (s.post r c a o).boot = s.boot := by unfold State.post; simp only; split <;> rfl
@[simp] theorem post_vamp (r c : Nat) (a : Bytes) (o : Option Origin) : (s.post r c a o).vamp = s.vamp := by unfold State.post; simp only; split <;> rfl
@[simp] theorem post_frz (r c : Nat) (a : Bytes) (o : Option Origin) : (s.post r c a o).frz = s.frz := by unfold State.post; simp only; split <;> rfl
@[simp] theorem post_pwr (r c : Nat) (a : Bytes) (o : Option Origin) : (s.post r c a o).pwr = s.pwr := by unfold State.post; simp only; split <;> rfl
@[simp] theorem post_sel (r c : Nat) (a : Bytes) (o : Option Origin) : (s.post r c a o).sel = s.sel := by unfold State.post; simp only; split <;> rfl
@[simp] theorem post_mem (r c : Nat) (a : Bytes) (o : Option Origin) : (s.post r c a o).mem = s.mem := by unfold State.post; simp only; split <;> rfl
@[simp] theorem post_pm (r c : Nat) (a : Bytes) (o : Option Origin) : (s.post r c a o).pm = s.pm := by unfold State.post; simp only; split <;> rfl
@[simp] theorem post_deferred (r c : Nat) (a : Bytes) (o : Option Origin) : (s.post r c a o).deferred = s.deferred := by unfold State.post; simp only; split <;> rfl
@[simp] theorem post_out (r c : Nat) (a : Bytes) (o : Option Origin) : (s.post r c a o).out = s.out := by unfold State.post; simp only; split <;> rfl
@[simp] theorem post_fresh (r c : Nat) (a : Bytes) (o : Option Origin) : (s.post r c a o).fresh = s.fresh := by unfold State.post; simp only; split <;> rfl
@[simp] theorem post_pending (r c : Nat) (a : Bytes) (o : Option Origin) : (s.post r c a o).pending = s.pending := by unfold State.post; simp only; split <;> rfl
@[simp] theorem post_now (r c : Nat) (a : Bytes) (o : Option Origin) : (s.post r c a o).now  = s.now  := by simp [State.now]
@[simp] theorem post_welt (r c : Nat) (a : Bytes) (o : Option Origin) (j : Nat) : (s.post r c a o).welt j = s.welt j := by simp [State.welt]
@[simp] theorem post_pd (r c : Nat) (a : Bytes) (o : Option Origin) (j : Nat) : (s.post r c a o).pd j = s.pd j := by simp [State.pd]
@[simp] theorem post_eye (r c : Nat) (a : Bytes) (o : Option Origin) (j : Nat) : (s.post r c a o).eye j = s.eye j := by simp [State.eye]
@[simp] theorem post_latch (r c : Nat) (a : Bytes) (o : Option Origin) (j : Nat) : (s.post r c a o).latch j = s.latch j := by simp [State.latch]
@[simp] theorem post_plat (r c : Nat) (a : Bytes) (o : Option Origin) (j : Nat) : (s.post r c a o).plat j = s.plat j := by simp [State.plat]
@[simp] theorem post_chan (r c : Nat) (a : Bytes) (o : Option Origin) (j : Nat) : (s.post r c a o).chan j = s.chan j := by simp [State.chan]
@[simp] theorem post_page (r c : Nat) (a : Bytes) (o : Option Origin) (j : Nat) : (s.post r c a o).page j = s.page j := by simp [State.page]
@[simp] theorem post_port (r c : Nat) (a : Bytes) (o : Option Origin) (j : Nat) : (s.post r c a o).port j = s.port j := by simp [State.port]
@[simp] theorem post_word (r c : Nat) (a : Bytes) (o : Option Origin) (j : Nat) : (s.post r c a o).word j = s.word j := by simp [State.word]
@[simp] theorem post_bytes (r c : Nat) (a : Bytes) (o : Option Origin) (j k : Nat) : (s.post r c a o).bytes j k = s.bytes j k := by simp [State.bytes]
@[simp] theorem post_weltCount (r c : Nat) (a : Bytes) (o : Option Origin) : (s.post r c a o).weltCount  = s.weltCount  := by simp [State.weltCount]
@[simp] theorem post_platRecQ (r c : Nat) (a : Bytes) (o : Option Origin) (j : Nat) : (s.post r c a o).platRec? j = s.platRec? j := by simp [State.platRec?]
@[simp] theorem post_platRec (r c : Nat) (a : Bytes) (o : Option Origin) (j : Nat) : (s.post r c a o).platRec j = s.platRec j := by simp [State.platRec, State.platRec?]
@[simp] theorem post_pdRecQ (r c : Nat) (a : Bytes) (o : Option Origin) (j : Nat) : (s.post r c a o).pdRec? j = s.pdRec? j := by simp [State.pdRec?]
@[simp] theorem post_pdRec (r c : Nat) (a : Bytes) (o : Option Origin) (j : Nat) : (s.post r c a o).pdRec j = s.pdRec j := by simp [State.pdRec, State.pdRec?]
@[simp] theorem post_eyeRecQ (r c : Nat) (a : Bytes) (o : Option Origin) (j : Nat) : (s.post r c a o).eyeRec? j = s.eyeRec? j := by simp [State.eyeRec?]
@[simp] theorem post_eyeRec (r c : Nat) (a : Bytes) (o : Option Origin) (j : Nat) : (s.post r c a o).eyeRec j = s.eyeRec j := by simp [State.eyeRec, State.eyeRec?]
@[simp] theorem post_platNums (r c : Nat) (a : Bytes) (o : Option Origin) : (s.post r c a o).platNums  = s.platNums  := by simp [State.platNums]
@[simp] theorem post_drives (r c : Nat) (a : Bytes) (o : Option Origin) : (s.post r c a o).drives  = s.drives  := by simp [State.drives]
@[simp] theorem post_paired (r c : Nat) (a : Bytes) (o : Option Origin) : (s.post r c a o).paired  = s.paired  := by simp [State.paired]
@[simp] theorem post_shadowing (r c : Nat) (a : Bytes) (o : Option Origin) : (s.post r c a o).shadowing  = s.shadowing  := by simp [State.shadowing]

/-! ### toPartner -/

@[simp] theorem toPartner_sys (ty : Nat) (p : Bytes) : (s.toPartner ty p).sys = s.sys := by unfold State.toPartner; split <;> rfl
@[simp] theorem toPartner_stitch (ty : Nat) (p : Bytes) : (s.toPartner ty p).stitch = s.stitch := by unfold State.toPartner; split <;> rfl
@[simp] theorem toPartner_pat (ty : Nat) (p : Bytes) : (s.toPartner ty p).pat = s.pat := by unfold State.toPartner; split <;> rfl
@[simp] theorem toPartner_patNext (ty : Nat) (p : Bytes) : (s.toPartner ty p).patNext = s.patNext := by unfold State.toPartner; split <;> rfl
@[simp] theorem toPartner_patLoad (ty : Nat) (p : Bytes) : (s.toPartner ty p).patLoad = s.patLoad := by unfold State.toPartner; split <;> rfl
@[simp] theorem toPartner_welts (ty : Nat) (p : Bytes) : (s.toPartner ty p).welts = s.welts := by unfold State.toPartner; split <;> rfl
@[simp] theorem toPartner_pds (ty : Nat) (p : Bytes) : (s.toPartner ty p).pds = s.pds := by unfold State.toPartner; split <;> rfl
@[simp] theorem toPartner_eyes (ty : Nat) (p : Bytes) : (s.toPartner ty p).eyes = s.eyes := by unfold State.toPartner; split <;> rfl
@[simp] theorem toPartner_click (ty : Nat) (p : Bytes) : (s.toPartner ty p).click = s.click := by unfold State.toPartner; split <;> rfl
@[simp] theorem toPartner_sole (ty : Nat) (p : Bytes) : (s.toPartner ty p).sole = s.sole := by unfold State.toPartner; split <;> rfl
@[simp] theorem toPartner_latches (ty : Nat) (p : Bytes) : (s.toPartner ty p).latches = s.latches := by unfold State.toPartner; split <;> rfl
@[simp] theorem toPartner_bootLoad (ty : Nat) (p : Bytes) : (s.toPartner ty p).bootLoad = s.bootLoad := by unfold State.toPartner; split <;> rfl
@[simp] theorem toPartner_point (ty : Nat) (p : Bytes) : (s.toPartner ty p).point = s.point := by unfold State.toPartner; split <;> rfl
@[simp] theorem toPartner_plats (ty : Nat) (p : Bytes) : (s.toPartner ty p).plats = s.plats := by unfold State.toPartner; split <;> rfl
@[simp] theorem toPartner_cobLatest (ty : Nat) (p : Bytes) : (s.toPartner ty p).cobLatest = s.cobLatest := by unfold State.toPartner; split <;> rfl
@[simp] theorem toPartner_cobTurn (ty : Nat) (p : Bytes) : (s.toPartner ty p).cobTurn = s.cobTurn := by unfold State.toPartner; split <;> rfl
@[simp] theorem toPartner_cobLast (ty : Nat) (p : Bytes) : (s.toPartner ty p).cobLast = s.cobLast := by unfold State.toPartner; split <;> rfl
@[simp] theorem toPartner_cobSeq (ty : Nat) (p : Bytes) : (s.toPartner ty p).cobSeq = s.cobSeq := by unfold State.toPartner; split <;> rfl
@[simp] theorem toPartner_heel (ty : Nat) (p : Bytes) : (s.toPartner ty p).heel = s.heel := by unfold State.toPartner; split <;> rfl
@[simp] theorem toPartner_pair (ty : Nat) (p : Bytes) : (s.toPartner ty p).pair = s.pair := by unfold State.toPartner; split <;> rfl
@[simp] theorem toPartner_env (ty : Nat) (p : Bytes) : (s.toPartner ty p).env = s.env := by unfold State.toPartner; split <;> rfl
@[simp] theorem toPartner_log (ty : Nat) (p : Bytes) : (s.toPartner ty p).log = s.log := by unfold State.toPartner; split <;> rfl
@[simp] theorem toPartner_dgst (ty : Nat) (p : Bytes) : (s.toPartner ty p).dgst = s.dgst := by unfold State.toPartner; split <;> rfl
@[simp] theorem toPartner_keys (ty : Nat) (p : Bytes) : (s.toPartner ty p).keys = s.keys := by unfold State.toPartner; split <;> rfl
@[simp] theorem toPartner_att (ty : Nat) (p : Bytes) : (s.toPartner ty p).att = s.att := by unfold State.toPartner; split <;> rfl
@[simp] theorem toPartner_fuse (ty : Nat) (p : Bytes) : (s.toPartner ty p).fuse = s.fuse := by unfold State.toPartner; split <;> rfl
@[simp] theorem toPartner_boot (ty : Nat) (p : Bytes) : (s.toPartner ty p).boot = s.boot := by unfold State.toPartner; split <;> rfl
@[simp] theorem toPartner_vamp (ty : Nat) (p : Bytes) : (s.toPartner ty p).vamp = s.vamp := by unfold State.toPartner; split <;> rfl
@[simp] theorem toPartner_frz (ty : Nat) (p : Bytes) : (s.toPartner ty p).frz = s.frz := by unfold State.toPartner; split <;> rfl
@[simp] theorem toPartner_pwr (ty : Nat) (p : Bytes) : (s.toPartner ty p).pwr = s.pwr := by unfold State.toPartner; split <;> rfl
@[simp] theorem toPartner_sel (ty : Nat) (p : Bytes) : (s.toPartner ty p).sel = s.sel := by unfold State.toPartner; split <;> rfl
@[simp] theorem toPartner_mem (ty : Nat) (p : Bytes) : (s.toPartner ty p).mem = s.mem := by unfold State.toPartner; split <;> rfl
@[simp] theorem toPartner_pm (ty : Nat) (p : Bytes) : (s.toPartner ty p).pm = s.pm := by unfold State.toPartner; split <;> rfl
@[simp] theorem toPartner_deferred (ty : Nat) (p : Bytes) : (s.toPartner ty p).deferred = s.deferred := by unfold State.toPartner; split <;> rfl
@[simp] theorem toPartner_fresh (ty : Nat) (p : Bytes) : (s.toPartner ty p).fresh = s.fresh := by unfold State.toPartner; split <;> rfl
@[simp] theorem toPartner_pending (ty : Nat) (p : Bytes) : (s.toPartner ty p).pending = s.pending := by unfold State.toPartner; split <;> rfl
@[simp] theorem toPartner_now (ty : Nat) (p : Bytes) : (s.toPartner ty p).now  = s.now  := by simp [State.now]
@[simp] theorem toPartner_welt (ty : Nat) (p : Bytes) (j : Nat) : (s.toPartner ty p).welt j = s.welt j := by simp [State.welt]
@[simp] theorem toPartner_pd (ty : Nat) (p : Bytes) (j : Nat) : (s.toPartner ty p).pd j = s.pd j := by simp [State.pd]
@[simp] theorem toPartner_eye (ty : Nat) (p : Bytes) (j : Nat) : (s.toPartner ty p).eye j = s.eye j := by simp [State.eye]
@[simp] theorem toPartner_latch (ty : Nat) (p : Bytes) (j : Nat) : (s.toPartner ty p).latch j = s.latch j := by simp [State.latch]
@[simp] theorem toPartner_plat (ty : Nat) (p : Bytes) (j : Nat) : (s.toPartner ty p).plat j = s.plat j := by simp [State.plat]
@[simp] theorem toPartner_chan (ty : Nat) (p : Bytes) (j : Nat) : (s.toPartner ty p).chan j = s.chan j := by simp [State.chan]
@[simp] theorem toPartner_page (ty : Nat) (p : Bytes) (j : Nat) : (s.toPartner ty p).page j = s.page j := by simp [State.page]
@[simp] theorem toPartner_port (ty : Nat) (p : Bytes) (j : Nat) : (s.toPartner ty p).port j = s.port j := by simp [State.port]
@[simp] theorem toPartner_word (ty : Nat) (p : Bytes) (j : Nat) : (s.toPartner ty p).word j = s.word j := by simp [State.word]
@[simp] theorem toPartner_bytes (ty : Nat) (p : Bytes) (j k : Nat) : (s.toPartner ty p).bytes j k = s.bytes j k := by simp [State.bytes]
@[simp] theorem toPartner_weltCount (ty : Nat) (p : Bytes) : (s.toPartner ty p).weltCount  = s.weltCount  := by simp [State.weltCount]
@[simp] theorem toPartner_platRecQ (ty : Nat) (p : Bytes) (j : Nat) : (s.toPartner ty p).platRec? j = s.platRec? j := by simp [State.platRec?]
@[simp] theorem toPartner_platRec (ty : Nat) (p : Bytes) (j : Nat) : (s.toPartner ty p).platRec j = s.platRec j := by simp [State.platRec, State.platRec?]
@[simp] theorem toPartner_pdRecQ (ty : Nat) (p : Bytes) (j : Nat) : (s.toPartner ty p).pdRec? j = s.pdRec? j := by simp [State.pdRec?]
@[simp] theorem toPartner_pdRec (ty : Nat) (p : Bytes) (j : Nat) : (s.toPartner ty p).pdRec j = s.pdRec j := by simp [State.pdRec, State.pdRec?]
@[simp] theorem toPartner_eyeRecQ (ty : Nat) (p : Bytes) (j : Nat) : (s.toPartner ty p).eyeRec? j = s.eyeRec? j := by simp [State.eyeRec?]
@[simp] theorem toPartner_eyeRec (ty : Nat) (p : Bytes) (j : Nat) : (s.toPartner ty p).eyeRec j = s.eyeRec j := by simp [State.eyeRec, State.eyeRec?]
@[simp] theorem toPartner_platNums (ty : Nat) (p : Bytes) : (s.toPartner ty p).platNums  = s.platNums  := by simp [State.platNums]
@[simp] theorem toPartner_drives (ty : Nat) (p : Bytes) : (s.toPartner ty p).drives  = s.drives  := by simp [State.drives]
@[simp] theorem toPartner_paired (ty : Nat) (p : Bytes) : (s.toPartner ty p).paired  = s.paired  := by simp [State.paired]
@[simp] theorem toPartner_shadowing (ty : Nat) (p : Bytes) : (s.toPartner ty p).shadowing  = s.shadowing  := by simp [State.shadowing]
@[simp] theorem toPartner_live (ty : Nat) (p : Bytes) : (s.toPartner ty p).live  = s.live  := by simp [State.live]

/-! ### raise -/

@[simp] theorem raise_sys (a v : Nat) : (s.raise a v).sys = s.sys := by unfold State.raise; split <;> rfl
@[simp] theorem raise_stitch (a v : Nat) : (s.raise a v).stitch = s.stitch := by unfold State.raise; split <;> rfl
@[simp] theorem raise_pat (a v : Nat) : (s.raise a v).pat = s.pat := by unfold State.raise; split <;> rfl
@[simp] theorem raise_patNext (a v : Nat) : (s.raise a v).patNext = s.patNext := by unfold State.raise; split <;> rfl
@[simp] theorem raise_patLoad (a v : Nat) : (s.raise a v).patLoad = s.patLoad := by unfold State.raise; split <;> rfl
@[simp] theorem raise_welts (a v : Nat) : (s.raise a v).welts = s.welts := by unfold State.raise; split <;> rfl
@[simp] theorem raise_pds (a v : Nat) : (s.raise a v).pds = s.pds := by unfold State.raise; split <;> rfl
@[simp] theorem raise_eyes (a v : Nat) : (s.raise a v).eyes = s.eyes := by unfold State.raise; split <;> rfl
@[simp] theorem raise_click (a v : Nat) : (s.raise a v).click = s.click := by unfold State.raise; split <;> rfl
@[simp] theorem raise_sole (a v : Nat) : (s.raise a v).sole = s.sole := by unfold State.raise; split <;> rfl
@[simp] theorem raise_latches (a v : Nat) : (s.raise a v).latches = s.latches := by unfold State.raise; split <;> rfl
@[simp] theorem raise_bootLoad (a v : Nat) : (s.raise a v).bootLoad = s.bootLoad := by unfold State.raise; split <;> rfl
@[simp] theorem raise_point (a v : Nat) : (s.raise a v).point = s.point := by unfold State.raise; split <;> rfl
@[simp] theorem raise_plats (a v : Nat) : (s.raise a v).plats = s.plats := by unfold State.raise; split <;> rfl
@[simp] theorem raise_cobLatest (a v : Nat) : (s.raise a v).cobLatest = s.cobLatest := by unfold State.raise; split <;> rfl
@[simp] theorem raise_cobTurn (a v : Nat) : (s.raise a v).cobTurn = s.cobTurn := by unfold State.raise; split <;> rfl
@[simp] theorem raise_cobLast (a v : Nat) : (s.raise a v).cobLast = s.cobLast := by unfold State.raise; split <;> rfl
@[simp] theorem raise_cobSeq (a v : Nat) : (s.raise a v).cobSeq = s.cobSeq := by unfold State.raise; split <;> rfl
@[simp] theorem raise_heel (a v : Nat) : (s.raise a v).heel = s.heel := by unfold State.raise; split <;> rfl
@[simp] theorem raise_pair (a v : Nat) : (s.raise a v).pair = s.pair := by unfold State.raise; split <;> rfl
@[simp] theorem raise_env (a v : Nat) : (s.raise a v).env = s.env := by unfold State.raise; split <;> rfl
@[simp] theorem raise_log (a v : Nat) : (s.raise a v).log = s.log := by unfold State.raise; split <;> rfl
@[simp] theorem raise_dgst (a v : Nat) : (s.raise a v).dgst = s.dgst := by unfold State.raise; split <;> rfl
@[simp] theorem raise_keys (a v : Nat) : (s.raise a v).keys = s.keys := by unfold State.raise; split <;> rfl
@[simp] theorem raise_att (a v : Nat) : (s.raise a v).att = s.att := by unfold State.raise; split <;> rfl
@[simp] theorem raise_fuse (a v : Nat) : (s.raise a v).fuse = s.fuse := by unfold State.raise; split <;> rfl
@[simp] theorem raise_boot (a v : Nat) : (s.raise a v).boot = s.boot := by unfold State.raise; split <;> rfl
@[simp] theorem raise_vamp (a v : Nat) : (s.raise a v).vamp = s.vamp := by unfold State.raise; split <;> rfl
@[simp] theorem raise_frz (a v : Nat) : (s.raise a v).frz = s.frz := by unfold State.raise; split <;> rfl
@[simp] theorem raise_pwr (a v : Nat) : (s.raise a v).pwr = s.pwr := by unfold State.raise; split <;> rfl
@[simp] theorem raise_sel (a v : Nat) : (s.raise a v).sel = s.sel := by unfold State.raise; split <;> rfl
@[simp] theorem raise_pm (a v : Nat) : (s.raise a v).pm = s.pm := by unfold State.raise; split <;> rfl
@[simp] theorem raise_deferred (a v : Nat) : (s.raise a v).deferred = s.deferred := by unfold State.raise; split <;> rfl
@[simp] theorem raise_out (a v : Nat) : (s.raise a v).out = s.out := by unfold State.raise; split <;> rfl
@[simp] theorem raise_fresh (a v : Nat) : (s.raise a v).fresh = s.fresh := by unfold State.raise; split <;> rfl
@[simp] theorem raise_pending (a v : Nat) : (s.raise a v).pending = s.pending := by unfold State.raise; split <;> rfl
@[simp] theorem raise_now (a v : Nat) : (s.raise a v).now  = s.now  := by simp [State.now]
@[simp] theorem raise_welt (a v : Nat) (j : Nat) : (s.raise a v).welt j = s.welt j := by simp [State.welt]
@[simp] theorem raise_pd (a v : Nat) (j : Nat) : (s.raise a v).pd j = s.pd j := by simp [State.pd]
@[simp] theorem raise_eye (a v : Nat) (j : Nat) : (s.raise a v).eye j = s.eye j := by simp [State.eye]
@[simp] theorem raise_latch (a v : Nat) (j : Nat) : (s.raise a v).latch j = s.latch j := by simp [State.latch]
@[simp] theorem raise_plat (a v : Nat) (j : Nat) : (s.raise a v).plat j = s.plat j := by simp [State.plat]
@[simp] theorem raise_chan (a v : Nat) (j : Nat) : (s.raise a v).chan j = s.chan j := by simp [State.chan]
@[simp] theorem raise_page (a v : Nat) (j : Nat) : (s.raise a v).page j = s.page j := by simp [State.page]
@[simp] theorem raise_port (a v : Nat) (j : Nat) : (s.raise a v).port j = s.port j := by simp [State.port]
@[simp] theorem raise_weltCount (a v : Nat) : (s.raise a v).weltCount  = s.weltCount  := by simp [State.weltCount]
@[simp] theorem raise_platRecQ (a v : Nat) (j : Nat) : (s.raise a v).platRec? j = s.platRec? j := by simp [State.platRec?]
@[simp] theorem raise_platRec (a v : Nat) (j : Nat) : (s.raise a v).platRec j = s.platRec j := by simp [State.platRec, State.platRec?]
@[simp] theorem raise_pdRecQ (a v : Nat) (j : Nat) : (s.raise a v).pdRec? j = s.pdRec? j := by simp [State.pdRec?]
@[simp] theorem raise_pdRec (a v : Nat) (j : Nat) : (s.raise a v).pdRec j = s.pdRec j := by simp [State.pdRec, State.pdRec?]
@[simp] theorem raise_eyeRecQ (a v : Nat) (j : Nat) : (s.raise a v).eyeRec? j = s.eyeRec? j := by simp [State.eyeRec?]
@[simp] theorem raise_eyeRec (a v : Nat) (j : Nat) : (s.raise a v).eyeRec j = s.eyeRec j := by simp [State.eyeRec, State.eyeRec?]
@[simp] theorem raise_platNums (a v : Nat) : (s.raise a v).platNums  = s.platNums  := by simp [State.platNums]
@[simp] theorem raise_drives (a v : Nat) : (s.raise a v).drives  = s.drives  := by simp [State.drives]
@[simp] theorem raise_paired (a v : Nat) : (s.raise a v).paired  = s.paired  := by simp [State.paired]
@[simp] theorem raise_shadowing (a v : Nat) : (s.raise a v).shadowing  = s.shadowing  := by simp [State.shadowing]
@[simp] theorem raise_live (a v : Nat) : (s.raise a v).live  = s.live  := by simp [State.live]

/-- The word just written is read back. -/
@[simp] theorem setWord_word_self (a v : Nat) (h : v < 2 ^ 32) : (s.setWord a v).word a = v := by
  have hb : ∀ x : Nat, x < 2 ^ 32 → beNat (natBE 4 x) = x := by
    intro x hx
    simp only [natBE, beNat, List.foldl, BitVec.toNat_ofNat]
    omega
  have := readN_writeN 0 s.mem a (natBE 4 v)
  simp only [State.word, State.setWord]
  rw [show (natBE 4 v).length = 4 from rfl] at this
  rw [this, hb v h]

/-- A word that does not meet the one written reads as before. -/
theorem setWord_word_ne (a b v : Nat) (h : b + 4 ≤ a ∨ a + 4 ≤ b) : (s.setWord a v).word b = s.word b := by
  simp only [State.word, State.setWord]
  rw [readN_writeN_disjoint]
  exact h

end Sys2Proof.Laws
end

