-- ==== Sys2Proof/Laws/Heel.lean ====
section
/-!
SUPPORT. What the heel does with the request at the head of its ring, and what posting one does.
-/
namespace Sys2Proof.Laws
open Sys2Proof Sys2Proof.Machine

variable (s : State)

/-- An entry at HEAD that is a request stops the flush of those that are none. -/
theorem ringFlush_request (n : Nat) (h1 : (s.ringAt s.heel.head).state = 1)
    (h2 : ringCodes.contains (s.ringAt s.heel.head).req = true) : s.ringFlush n = s := by
  cases n with
  | zero => rfl
  | succ n =>
    have h3 : (s.ringAt s.heel.head).req ∈ ringCodes := by simpa using h2
    simp [State.ringFlush, h1, h3]
/-- STATUS, STITCH and STATE written at HEAD, and HEAD past it, change the HEEL block alone. -/
theorem ringWrite_advanced (ok : Bool) (status stitch : Nat) :
    (s.ringWrite s.heel.head ok status stitch).advanceHead = { s with heel := {
      s.heel with
      ring := tmod {} s.heel.ring s.heel.head (fun e => { e with state := if ok then 2 else 3, status := status, stitch := stitch })
      head := (s.heel.head + 1) % 64
      taken := s.heel.taken + 1 } } := rfl

/-- The request `req` waits at HEAD as the entry `e`, its ARGS zero from byte `used` on, and the heel may take it. -/
structure Waits (req used : Nat) (e : RingEntry) : Prop where
  live : s.live = true
  some : s.heel.head ≠ s.heel.tail
  room : s.heel.taken < 8
  entry : s.ringAt s.heel.head = e
  state : e.state = 1
  code : e.req = req
  known : ringCodes.contains req = true
  zeros : allZero (e.args.drop used) = true

variable {s}

/-- A request whose judge gives a code is refused with it. -/
theorem heelTakeWith_refused {req used : Nat} {e : RingEntry} (w : Waits s req used e) (imm : Bool)
    (judge : State → RingEntry → Option Nat) (effect : State → RingEntry → State) (after : State → RingEntry → Option Nat → State)
    (c : Nat) (hj : judge s e = some c) :
    s.heelTakeWith req used imm judge effect after =
      after ((s.ringWrite s.heel.head false c 0).advanceHead) e (some c) := by
  have f : s.ringFlush 8 = s := ringFlush_request s 8 (by rw [w.entry]; exact w.state) (by rw [w.entry, w.code]; exact w.known)
  have m : s.mayTake = true := by simp [State.mayTake, w.live, w.some, w.room]
  simp [State.heelTakeWith, f, m, w.entry, w.code, w.state, w.zeros, hj]
/-- One whose judge gives none is answered OK and has its effect. -/
theorem heelTakeWith_accepted {req used : Nat} {e : RingEntry} (w : Waits s req used e) (imm : Bool)
    (judge : State → RingEntry → Option Nat) (effect : State → RingEntry → State) (after : State → RingEntry → Option Nat → State)
    (hj : judge s e = none) :
    s.heelTakeWith req used imm judge effect after =
      after (effect ((s.ringWrite s.heel.head true Code.ok (if imm then s.now else s.now + 1)).advanceHead) e) e none := by
  have f : s.ringFlush 8 = s := ringFlush_request s 8 (by rw [w.entry]; exact w.state) (by rw [w.entry, w.code]; exact w.known)
  have m : s.mayTake = true := by simp [State.mayTake, w.live, w.some, w.room]
  simp [State.heelTakeWith, f, m, w.entry, w.code, w.state, w.zeros, hj]
/-- The usual request that no VAMP command posted: refused with its judge's code. -/
theorem heelReq_refused {req used : Nat} {e : RingEntry} (w : Waits s req used e) (ho : e.origin = none) (hl : e.lease = 0)
    (imm : Bool) (judge : State → Bytes → Option Nat) (effect : State → Bytes → State) (c : Nat) (hj : judge s e.args = some c) :
    s.heelReq req used imm judge effect = .next ((s.ringWrite s.heel.head false c 0).advanceHead) := by
  simp [State.heelReq, State.heelTake, heelTakeWith_refused w imm (fun s e => judge s e.args) _ _ c hj, State.ringOrigin, ho, hl]
/-- The usual request that no VAMP command posted: answered OK, with its effect. -/
theorem heelReq_accepted {req used : Nat} {e : RingEntry} (w : Waits s req used e) (ho : e.origin = none) (imm : Bool)
    (judge : State → Bytes → Option Nat) (effect : State → Bytes → State) (hj : judge s e.args = none) :
    s.heelReq req used imm judge effect =
      .next (effect ((s.ringWrite s.heel.head true Code.ok (if imm then s.now else s.now + 1)).advanceHead) e.args) := by
  simp [State.heelReq, State.heelTake, heelTakeWith_accepted w imm (fun s e => judge s e.args) _ _ hj, State.ringOrigin, ho]

/-- A request that a running core posts into a ring with room stands at the old TAIL, and TAIL is past it; nothing outside the HEEL block differs. -/
theorem post_room (req core : Nat) (args : Bytes) (origin : Option Origin) (hf : s.posting = true) (h : s.ringRoom = true)
    (hw : s.heel.waiting = []) :
    s.post req core args origin = { s with heel := {
      s.heel with
      ring := tset {} s.heel.ring s.heel.tail (ringRequest req core args origin)
      tail := (s.heel.tail + 1) % 64 } } := by
  simp [State.post, State.postNow, hf, h, hw]
/-- A request posted changes the HEEL block alone, whether or not there is room. -/
theorem post_frame (req core : Nat) (args : Bytes) (origin : Option Origin) :
    { s.post req core args origin with heel := s.heel } = s := by
  unfold State.post
  split <;> rfl

end Sys2Proof.Laws
end

