-- ==== Sys2Proof/Laws/Host.lean ====
section
/-!
SUPPORT. What the shared operations of host commands do: the prelude of a command that is taken, and the verdict of the clicker,
which does not look at the arming of 0x66.
-/
namespace Sys2Proof.Laws
open Sys2Proof Sys2Proof.Machine

variable (s : State) (h : HostCmd) (d : Decoded)

/-- The state in which a taken command of presented device `k` is judged: 0x66 is disarmed (R114). -/
def disarmed (s : State) (k : Nat) : State := s.modPd k (fun p => { p with armed := false })

/-- Cutting the Larir's own reads on a welt (R139) touches nothing but its welts and its sole channels. -/
theorem cutReads_eq (n : Nat) : s.cutReads n = { s with welts := (s.cutReads n).welts, sole := (s.cutReads n).sole } := by
  unfold State.cutReads
  by_cases hr : s.weltReleased n <;> by_cases hc : (s.welt n).credit % 16 = 0 <;> simp only [hr, hc, Bool.not_true, Bool.not_false, if_true, if_false,
    Bool.false_eq_true] <;> repeat' split
  all_goals rfl

/-- What a command is decoded as does not hang on the reads it cuts. -/
@[simp] theorem cutReads_decodeHost (n : Nat) : (s.cutReads n).decodeHost h = s.decodeHost h := by rw [cutReads_eq]; rfl

/-- A complete command of one of the opcodes, decoded as `d`, goes on as `d` with the reads it cuts cut and 0x66 disarmed. -/
theorem hostCommand_taken (ops : List Nat) (go : Decoded → State → State) (ho : ops.contains h.opcode.toNat = true)
    (hd : s.decodes h = true) (hc : h.complete = true) (hh : s.decodeHost h = some d) :
    s.hostCommand h ops go = go d (disarmed (s.cutReads h.welt.val) d.pd) := by
  simp only [State.hostCommand, ho, hd, hc, cutReads_decodeHost, hh, disarmed]; simp

/-- A command of another row changes nothing. -/
theorem hostCommand_other (ops : List Nat) (go : Decoded → State → State) (ho : ops.contains h.opcode.toNat = false) :
    s.hostCommand h ops go = s := by
  simp only [State.hostCommand, ho]; simp

/-- A command on a welt that does not decode changes nothing. -/
theorem hostCommand_deaf (ops : List Nat) (go : Decoded → State → State) (hd : s.decodes h = false) :
    s.hostCommand h ops go = s := by
  simp only [State.hostCommand, hd]; simp

/-- The presented device of a decoded command is the one that its welt and chip select name (R22). -/
theorem decodeHost_pd (hh : s.decodeHost h = some d) : d.pd = hostPd h := by
  unfold State.decodeHost at hh; grind

@[simp] theorem disarmed_pd : (disarmed s d.pd).pd d.pd = { s.pd d.pd with armed := false } := by simp [disarmed]

theorem disarmed_pd_ne (k j : Nat) (hj : j ≠ k) : (disarmed s k).pd j = s.pd j := by simp [disarmed, modPd_pd, hj]

@[simp] theorem disarmed_wel (k j : Nat) : ((disarmed s k).pd j).wel = (s.pd j).wel := by
  by_cases hj : j = k <;> simp [disarmed, modPd_pd, hj]

@[simp] theorem disarmed_judgePage (k page : Nat) : (disarmed s k).judgePage d page = s.judgePage d page := rfl

@[simp] theorem disarmed_judge (k : Nat) : (disarmed s k).judge d = s.judge d := by
  simp only [State.judge, disarmed_judgePage, disarmed_wel]; rfl

end Sys2Proof.Laws
end

