-- ==== Sys2Proof/Laws/Link.lean ====
section
/-!
SUPPORT. What the operations over the VAMP link can do: a request served at the front of its channel's inbox, and an answer given
to it.
-/
namespace Sys2Proof.Laws
open Sys2Proof Sys2Proof.Machine

variable (s : State)

/-- The channel changed reads as changed, the others as before. -/
theorem modVchan_vchan (ch k : Nat) (f : VChan → VChan) :
    (s.modVchan ch f).vchan k = if k = ch then f (s.vchan ch) else s.vchan k := by
  simp [State.modVchan, State.modVamp, State.vchan, tget_tmod]
/-- A channel's update leaves everything outside the link as it was. -/
theorem modVchan_frame (ch : Nat) (f : VChan → VChan) : { s.modVchan ch f with vamp := s.vamp } = s := rfl
@[simp] theorem modVchan_out (ch : Nat) (f : VChan → VChan) : (s.modVchan ch f).out = s.out := rfl
@[simp] theorem modVchan_canSend (ch k : Nat) (f : VChan → VChan) : (s.modVchan ch f).canSend k = s.canSend k := rfl

/-- A frame queued changes the frames that wait, and on a session its counter. -/
theorem queueFrame_vamp (ch : Nat) (more event : Bool) (recs : List Nat) (tag : Option Nat) (p : Bytes) :
    ∃ v, s.queueFrame ch more event recs tag p = { s with vamp := v } ∧ v.chans = s.vamp.chans := by
  unfold State.queueFrame
  split
  · exact ⟨_, rfl, rfl⟩
  · exact ⟨_, rfl, rfl⟩
/-- So does a message queued in parts. -/
theorem queueParts_vamp (ch : Nat) (tag : Option Nat) (bs : List Bytes) :
    ∃ v, s.queueParts ch tag bs = { s with vamp := v } ∧ v.chans = s.vamp.chans := by
  induction bs generalizing s with
  | nil => exact ⟨s.vamp, rfl, rfl⟩
  | cons b bs ih =>
    cases bs with
    | nil => exact queueFrame_vamp s ch false false [] tag b
    | cons c cs =>
      obtain ⟨v, hv, cv⟩ := queueFrame_vamp s ch true false [] tag b
      obtain ⟨w, hw, cw⟩ := ih (s.queueFrame ch true false [] tag b)
      refine ⟨w, ?_, ?_⟩
      · rw [State.queueParts, hw, hv]
        · simp
      · rw [cw, hv]
        exact cv
/-- A response sent leaves once, when the link and the session let it, and changes nothing else outside the link. -/
theorem send_eq (ch tag op status : Nat) (interim : Bool) (inc : Nat) (body : Bytes) :
    ∃ v, s.send ch tag op status interim inc body =
      { s with vamp := v, out := s.out ++ (if s.canSend ch = true then [.response ch tag op status body] else []) } ∧
      v.chans = s.vamp.chans := by
  unfold State.send
  split
  · obtain ⟨v, hv, cv⟩ := queueParts_vamp (s.emit (.response ch tag op status body)) ch (some tag)
      (chunks (if ch = 0 then 2048 else 2024)
        ((envelope op tag status interim inc ++ body).length / (if ch = 0 then 2048 else 2024) + 1)
        (envelope op tag status interim inc ++ body))
    exact ⟨v, hv, cv⟩
  · exact ⟨s.vamp, by simp, rfl⟩
/-- A refusal counted leaves the link as it was. -/
@[simp] theorem busyCounted_vamp (code : Nat) : (s.busyCounted code).vamp = s.vamp := by
  unfold State.busyCounted; split <;> rfl
/-- It leaves what has left the block. -/
@[simp] theorem busyCounted_out (code : Nat) : (s.busyCounted code).out = s.out := by
  unfold State.busyCounted; split <;> rfl
@[simp] theorem busyCounted_vchan (code k : Nat) : (s.busyCounted code).vchan k = s.vchan k := by
  simp [State.vchan]
@[simp] theorem busyCounted_canSend (code k : Nat) : (s.busyCounted code).canSend k = s.canSend k := by
  simp [State.canSend, State.session?]
/-- Any code but BUSY counts nothing. -/
theorem busyCounted_other (code : Nat) (h : code ≠ Code.busy) : s.busyCounted code = s := if_neg h

/-- An answer leaves once, when the link and the session let it; outside the link nothing else differs but BUSY_COUNT, and every
inbox keeps what it holds. -/
theorem answer_spec (o : Origin) (status : Nat) (body : Bytes) :
    (s.answer o status body).out =
      s.out ++ (if s.canSend o.ch = true then [.response o.ch o.tag o.opcode status body] else []) ∧
    { s.answer o status body with vamp := s.vamp, out := s.out } = s.busyCounted status ∧
    ∀ k, ((s.answer o status body).vchan k).inbox = (s.vchan k).inbox := by
  simp only [State.answer]
  rw [← busyCounted_out s status, ← busyCounted_vamp s status, ← busyCounted_canSend s status o.ch]
  simp only [← busyCounted_vchan s status]
  generalize s.busyCounted status = u
  generalize hf : (fun v : VChan => { v with cmds := v.cmds.map (fun c : VCmd =>
    if c.tag = o.tag && c.state = 1 then { c with status := status, state := if u.canSend o.ch then 2 else 3 } else c) }) = f
  have hi : ∀ v, (f v).inbox = v.inbox := fun v => by rw [← hf]
  have key : ∀ inc : Nat,
      ((u.modVchan o.ch f).send o.ch o.tag o.opcode status false inc body).out =
        u.out ++ (if u.canSend o.ch = true then [.response o.ch o.tag o.opcode status body] else []) ∧
      { (u.modVchan o.ch f).send o.ch o.tag o.opcode status false inc body with vamp := u.vamp, out := u.out } = u ∧
      ∀ k, (((u.modVchan o.ch f).send o.ch o.tag o.opcode status false inc body).vchan k).inbox = (u.vchan k).inbox := by
    intro inc
    obtain ⟨v, hv, cv⟩ := send_eq (u.modVchan o.ch f) o.ch o.tag o.opcode status false inc body
    rw [hv]
    refine ⟨rfl, rfl, fun k => ?_⟩
    change (tget {} v.chans k).inbox = _
    rw [cv]
    change ((u.modVchan o.ch f).vchan k).inbox = _
    rw [modVchan_vchan]
    split
    · subst_vars
      rw [hi]
    · rfl
  exact key _

/-- A command of the link always answers a next state. -/
theorem serve_next (ch op : Nat) (sub : Bytes → Bool) (act : State → Origin → Bytes → State) :
    ∃ t, s.serve ch op sub act = .next t := by
  unfold State.serve
  split
  · exact ⟨_, rfl⟩
  · exact ⟨_, rfl⟩
/-- With its request in front it takes it out of the inbox and acts on it. -/
theorem serve_front (ch op : Nat) (sub : Bytes → Bool) (act : State → Origin → Bytes → State) (m : Bytes) (ms : List Bytes)
    (hi : (s.vchan ch).inbox = m :: ms) (ho : fieldAt m 0 2 = op) (hs : sub (m.drop 12) = true) :
    s.serve ch op sub act =
      .next (act (s.modVchan ch (fun v => { v with inbox := ms })) ⟨ch, fieldAt m 2 2, op⟩ (m.drop 12)) := by
  simp [State.serve, State.takeReq, hi, ho, hs]
/-- Without it, it changes nothing. -/
theorem serve_idle (ch op : Nat) (sub : Bytes → Bool) (act : State → Origin → Bytes → State)
    (h : ∀ m ms, (s.vchan ch).inbox = m :: ms → fieldAt m 0 2 ≠ op ∨ sub (m.drop 12) = false) :
    s.serve ch op sub act = .next s := by
  unfold State.serve State.takeReq
  cases hi : (s.vchan ch).inbox with
  | nil => rfl
  | cons m ms => rcases h m ms hi with g | g <;> simp [g]

end Sys2Proof.Laws
end

