-- ==== Sys2Proof/WellFormed.lean ====
section
/-!
DEFINITION. When a command is well formed: its numbers fit the field or the index the spec gives them. What a command brings
beyond that (a length, a check that fails, a state it does not meet) is for its meaning to judge.
-/
namespace Sys2Proof

/-- A management core or HC (R48). -/
def wfCore (c : Nat) : Bool := c < 5
/-- A platform number (R596). -/
def wfPlat (p : Nat) : Bool := p < 64
/-- A last index, 16 × platform + entry (R240). -/
def wfLast (l : Nat) : Bool := l < 1024
/-- A VAMP channel (R553). -/
def wfCh (c : Nat) : Bool := c ≤ 8
/-- A global eyelet number (R25). -/
def wfEye (e : Nat) : Bool := e < 512
/-- A mirror page (R191). -/
def wfPage (m : Nat) : Bool := m < 8 * 524288
/-- A sample code, or VFPROG in mV (R608). -/
def wfCode (c : Nat) : Bool := c < 4096
/-- A 32-bit reading. -/
def wfWord (v : Nat) : Bool := v < 2 ^ 32
/-- The facts of a stitch (R56, R90, R225, R357, R608): source codes of a byte, cycles of the channels, sectors of pages, channels,
sensors and codes, volatile slots. -/
def StitchFacts.wf (f : StitchFacts) : Bool :=
  f.overruns.all (· < 256) && f.ovrCycles.all (fun x => x.1 < 8 && x.2 < 10) &&
  f.scrubFails.all (fun x => wfPage x.1 && x.2 < 16) && f.corrected.all (· < 8) &&
  f.samples.all (fun s => s.1 ≤ 64 && wfCode s.2) && f.keyBad.all (fun k => 1024 ≤ k && k < 1280)
/-- A page read's purpose (R252). -/
def ReadFor.wf : ReadFor → Bool
  | .fill l => wfLast l
  | .activation p => wfPlat p
  | .rejoin m => wfPage m
/-- A lease's name. -/
def LeaseId.wf : LeaseId → Bool
  | .platform p => wfPlat p
  | _ => true
/-- The bank voltages of R659: eight of them. -/
def Straps.wf (s : Straps) : Bool := s.banks.length = 8 && s.banks.all wfCode
/-- A JTAG operation names a core and a chain that exist (R642, R648). -/
def JtagOp.wf : JtagOp → Bool
  | .chainRead c _ _ => c < 8
  | .halt c => c < 4
  | .step c => c < 4
  | .readRegister c _ => c < 4
  | .readSram c _ => c < 4
  | _ => true
/-- The fields of a ring frame's header (R532). -/
def RingHdr.wf (r : RingHdr) : Bool := r.dst < 256 && r.hops < 256 && wfWord r.seq

/-- The command is well formed. -/
def Instr.wf : Instr → Bool
  | .stitchBoundary f => f.wf
  | .stitchCountLoRead r => r ≤ 16
  | .statusPoll x _ _ | .eyeletInit x _ => wfEye x
  | .bootDone x | .activateRequest x | .mailboxStatus x | .measureExtend x | .activationCommit x | .activateDeadline x
    | .fillJobStart x | .platformRelease x | .pwrgdHigh x | .pwrgdLow x | .doneRise x | .bootTimerExpiry x
    | .cobblerJobStart x | .cobblerSourceVerified x _ _ _ | .recoveryWaitExpiry x | .cobblerRead x _ _
    | .cobblerErase x | .cobblerProgram x _ | .cobblerCheck x _ _ _ | .writebackStart x => wfPlat x
  | .lastHeaderRead x _ | .lastHeaderVerified x | .tableStreamDone x _ _ | .pageCheck x _ _ _ => wfLast x
  | .pageReadDone w _ _ => w.wf
  | .leaseExpiry w => w.wf
  | .suspectExpiry _ x => wfPage x
  | .soleSelfTestDone _ _ l => l.all (· < 704512)
  | .soleApertureRead x _ _ _ | .heelRingTailWrite x _ | .heelTimerSvcWrite x _ | .dgstFeed x _ | .dgstFinish x _
    | .dgstClose x _ => wfCore x
  | .dgstOpen o => wfCore o.who
  | .hotRefreshChange x | .sensorTrip _ x | .envExcursion _ x => wfCode x
  | .coldPowerOn s => s.wf
  | .floorRaise ws => ws.length = 8 && ws.all (fun w => wfWord w.1 && wfWord w.2)
  | .sessionExpired x | .hello x | .sessionClose x | .statusGetDevice x | .statusGetCommand x | .regRead x
    | .regWrite x | .logDrain x | .attest x | .domainAttest x | .stageOpen x | .stageData x | .stageClose x
    | .stageCloseFirmware x | .stageClosePattern x | .stageCloseCerts x | .stageAbort x | .platformCtlHold x
    | .platformCtlRefill x | .platformCtlRecover x | .updateOpen x | .updateClose x | .platformCtlRetire x
    | .platformCtlQuiesce x | .keyImport x | .keyReplace x | .keyDestroy x | .keyInfo x | .fuseRead x
    | .fuseShadowSet x | .fuseProgram x | .fuseLock x | .lifecycleAdvance x | .swap x | .solo x | .soloClear x
    | .freezeRead x | .debugToken x => wfCh x
  | .digestRun o => wfCh o.who
  | .fuseProgramDone a b c d => wfWord a && wfWord b && wfWord c && wfWord d
  | .fuseProgramEnv a b => wfWord a && wfWord b
  | .state rs => rs.all (fun r => wfPlat r.1)
  | .mirror q _ i v => q < 2 ^ 24 && i < 1024 && wfWord v
  | .mirrorAck q => q < 2 ^ 24
  | .snapshot fs cs q => fs.all wfWord && cs.all wfWord && wfWord q
  | .rejoin ms => ms.length ≤ 256 && ms.all wfPage
  | .domainState r a _ b => r.wf && a < 256 && b < 256
  | .memberReq r n m _ => r.wf && n.length = 32 && m < 2 ^ 64
  | .memberResp r n a c _ => r.wf && n.length = 32 && a < 256 && c < 65536
  | .scuttleFuseBlow a b c d => wfWord a && wfWord b && wfWord c && wfWord d
  | .fatalFault c => 1 ≤ c && c ≤ 5
  | .wake c => c ≤ 4
  | .registerWrite c _ d => wfCore c && (d.width = 1 || d.width = 2 || d.width = 4)
  | .jtagInstruction o => o.wf
  | .scheduleSwitch | .read _ _ | .fastRead _ _ | .program _ _ | .erase4K _ | .erase32K _ | .erase64K _ | .eraseChip _
    | .writeStatus _ _ | .writeConfiguration _ _ | .enter4ByteAddress _ | .exit4ByteAddress _ | .clearFlagStatus _
    | .readStatus _ _ | .readFlagStatus _ _ | .readConfiguration _ _ | .readId _ _ | .readSfdp _ _ | .resetEnable _
    | .reset _ | .suspend _ | .resume _ | .securityRegRead _ _ | .securityRegProgram _ _ | .securityRegErase _
    | .writeEnable _ | .writeDisable _ | .vendor _ _ _ | .hrstLow _ | .hrstRise _ | .pageSealed _ | .refillStart _
    | .refillDone _ _ _ | .heelHold | .retirePlatform | .phase | .slotMap | .exclude | .fillRunning | .tableSwitch
    | .retire | .mgmtReset | .deviceReset | .trialConfirm | .settingsCommit | .stagedReady | .patternFlag
    | .copyJournal | .fuseGate | .patternParams | .shank | .quiesce | .heelTimerExpiry | .armedSecondClear
    | .managementReset | .warmHandOver | .devRst | .rootUnwrap | .firmwareCopyUnit | .handOver | .trialDeadline
    | .patternChoice | .patternLoad | .frameReceived _ _ _ _ | .data | .ack | .nak | .train | .replayTimeout
    | .linkLoss | .linkRetrain | .linkKeepalive | .statementDone _ | .domainCollectionEnd _ | .digestDone _ _
    | .swapResult | .shankReleaseSeen _ _ | .claimStart _ _ | .claimSecondLine _ | .claimConfirm _ | .shankDisagree _ _
    | .shankReadbackFault _ _ | .heartbeatSend | .heartbeat _ _ _ | .lacePortLost _ | .lacePortTrained _ _
    | .portKey _ _ | .mirrorRepeat | .mirrorTimeout | .answerCheck _ _ _ _ _ | .drill _ | .keyXfer _ | .domainStateSend
    | .freezeRequest | .mainpgFall | .mainpgRise | .mainPowerTimeout | .vampLaneLock _ | .updatePointOperationDone _
    | .domainMemberSilent _ => true

end Sys2Proof
end

