-- ==== Sys2Proof/Laws/PerInstr.lean ====
section
/-!
SUPPORT. For every command: what a well-formed one names exists in the spec's numbering, be it a VAMP channel (R553), a platform
(R596), a last (R240) or a management core (R48).
-/
set_option Elab.async false

namespace Sys2Proof.Laws
open Sys2Proof

/-- The VAMP channel a command names. -/
def channelOf : Instr → Option Nat
  | .sessionExpired x | .hello x | .sessionClose x | .statusGetDevice x | .statusGetCommand x | .regRead x
    | .regWrite x | .logDrain x | .attest x | .domainAttest x | .stageOpen x | .stageData x | .stageClose x
    | .stageCloseFirmware x | .stageClosePattern x | .stageCloseCerts x | .stageAbort x | .platformCtlHold x
    | .platformCtlRefill x | .platformCtlRecover x | .updateOpen x | .updateClose x | .platformCtlRetire x
    | .platformCtlQuiesce x | .keyImport x | .keyReplace x | .keyDestroy x | .keyInfo x | .fuseRead x
    | .fuseShadowSet x | .fuseProgram x | .fuseLock x | .lifecycleAdvance x | .swap x | .solo x | .soloClear x
    | .freezeRead x | .debugToken x => some x
  | .digestRun o => some o.who
  | _ => none
/-- The platform a command names. -/
def platformOf : Instr → Option Nat
  | .bootDone x | .activateRequest x | .mailboxStatus x | .measureExtend x | .activationCommit x | .activateDeadline x
    | .fillJobStart x | .platformRelease x | .pwrgdHigh x | .pwrgdLow x | .doneRise x | .bootTimerExpiry x
    | .cobblerJobStart x | .cobblerSourceVerified x _ _ _ | .recoveryWaitExpiry x | .cobblerRead x _ _
    | .cobblerErase x | .cobblerProgram x _ | .cobblerCheck x _ _ _ | .writebackStart x => some x
  | _ => none
/-- The last a command names. -/
def lastOf : Instr → Option Nat
  | .lastHeaderRead x _ | .lastHeaderVerified x | .tableStreamDone x _ _ | .pageCheck x _ _ _ => some x
  | _ => none
/-- The core a command names, with HC as 4. -/
def coreOf : Instr → Option Nat
  | .soleApertureRead x _ _ _ | .heelRingTailWrite x _ | .heelTimerSvcWrite x _ | .dgstFeed x _ | .dgstFinish x _
    | .dgstClose x _ | .registerWrite x _ _ => some x
  | .dgstOpen o => some o.who
  | _ => none
/-- A well-formed command names a channel, a platform, a last and a core that exist. -/
def Named.Statement (i : Instr) : Prop :=
  i.wf = true → (∀ n, channelOf i = some n → n ≤ 8) ∧ (∀ n, platformOf i = some n → n < 64) ∧
    (∀ n, lastOf i = some n → n < 1024) ∧ ∀ n, coreOf i = some n → n < 5

/-! What each of the four numbers says of a command, once: the lemma of a command cites the one that it names. -/

variable {i : Instr} {x : Nat}

/-- A command that names none of the four. -/
theorem Named.ofNothing (c : channelOf i = none) (p : platformOf i = none) (l : lastOf i = none) (k : coreOf i = none) :
    Named.Statement i := fun _ => by simp [c, p, l, k]
/-- A command that names a channel. -/
theorem Named.ofChannel (w : i.wf = wfCh x) (c : channelOf i = some x) (p : platformOf i = none) (l : lastOf i = none)
    (k : coreOf i = none) : Named.Statement i := fun h => by rw [w] at h; simp_all [wfCh]
/-- A command that names a platform. -/
theorem Named.ofPlatform (w : i.wf = wfPlat x) (c : channelOf i = none) (p : platformOf i = some x) (l : lastOf i = none)
    (k : coreOf i = none) : Named.Statement i := fun h => by rw [w] at h; simp_all [wfPlat]
/-- A command that names a last. -/
theorem Named.ofLast (w : i.wf = wfLast x) (c : channelOf i = none) (p : platformOf i = none) (l : lastOf i = some x)
    (k : coreOf i = none) : Named.Statement i := fun h => by rw [w] at h; simp_all [wfLast]
/-- A command that names a core, and for which more may be asked. -/
theorem Named.ofCore (w : i.wf = true → wfCore x = true) (c : channelOf i = none) (p : platformOf i = none)
    (l : lastOf i = none) (k : coreOf i = some x) : Named.Statement i := fun h => by
  have := w h; simp_all [wfCore]

theorem Named.stitchBoundary (f : StitchFacts) : Named.Statement (.stitchBoundary f) := Named.ofNothing rfl rfl rfl rfl
theorem Named.stitchCountLoRead (reader : Nat) : Named.Statement (.stitchCountLoRead reader) := Named.ofNothing rfl rfl rfl rfl
theorem Named.scheduleSwitch : Named.Statement .scheduleSwitch := Named.ofNothing rfl rfl rfl rfl
theorem Named.read (h : HostCmd) (r : ReadArgs) : Named.Statement (.read h r) := Named.ofNothing rfl rfl rfl rfl
theorem Named.fastRead (h : HostCmd) (r : ReadArgs) : Named.Statement (.fastRead h r) := Named.ofNothing rfl rfl rfl rfl
theorem Named.program (h : HostCmd) (w : WriteArgs) : Named.Statement (.program h w) := Named.ofNothing rfl rfl rfl rfl
theorem Named.erase4K (h : HostCmd) : Named.Statement (.erase4K h) := Named.ofNothing rfl rfl rfl rfl
theorem Named.erase32K (h : HostCmd) : Named.Statement (.erase32K h) := Named.ofNothing rfl rfl rfl rfl
theorem Named.erase64K (h : HostCmd) : Named.Statement (.erase64K h) := Named.ofNothing rfl rfl rfl rfl
theorem Named.eraseChip (h : HostCmd) : Named.Statement (.eraseChip h) := Named.ofNothing rfl rfl rfl rfl
theorem Named.writeStatus (h : HostCmd) (v : Byte) : Named.Statement (.writeStatus h v) := Named.ofNothing rfl rfl rfl rfl
theorem Named.writeConfiguration (h : HostCmd) (v : Byte)
    : Named.Statement (.writeConfiguration h v) := Named.ofNothing rfl rfl rfl rfl
theorem Named.enter4ByteAddress (h : HostCmd) : Named.Statement (.enter4ByteAddress h) := Named.ofNothing rfl rfl rfl rfl
theorem Named.exit4ByteAddress (h : HostCmd) : Named.Statement (.exit4ByteAddress h) := Named.ofNothing rfl rfl rfl rfl
theorem Named.clearFlagStatus (h : HostCmd) : Named.Statement (.clearFlagStatus h) := Named.ofNothing rfl rfl rfl rfl
theorem Named.readStatus (h : HostCmd) (len : Nat) : Named.Statement (.readStatus h len) := Named.ofNothing rfl rfl rfl rfl
theorem Named.readFlagStatus (h : HostCmd) (len : Nat)
    : Named.Statement (.readFlagStatus h len) := Named.ofNothing rfl rfl rfl rfl
theorem Named.readConfiguration (h : HostCmd) (len : Nat)
    : Named.Statement (.readConfiguration h len) := Named.ofNothing rfl rfl rfl rfl
theorem Named.readId (h : HostCmd) (len : Nat) : Named.Statement (.readId h len) := Named.ofNothing rfl rfl rfl rfl
theorem Named.readSfdp (h : HostCmd) (len : Nat) : Named.Statement (.readSfdp h len) := Named.ofNothing rfl rfl rfl rfl
theorem Named.resetEnable (h : HostCmd) : Named.Statement (.resetEnable h) := Named.ofNothing rfl rfl rfl rfl
theorem Named.reset (h : HostCmd) : Named.Statement (.reset h) := Named.ofNothing rfl rfl rfl rfl
theorem Named.suspend (h : HostCmd) : Named.Statement (.suspend h) := Named.ofNothing rfl rfl rfl rfl
theorem Named.resume (h : HostCmd) : Named.Statement (.resume h) := Named.ofNothing rfl rfl rfl rfl
theorem Named.securityRegRead (h : HostCmd) (len : Nat)
    : Named.Statement (.securityRegRead h len) := Named.ofNothing rfl rfl rfl rfl
theorem Named.securityRegProgram (h : HostCmd) (w : WriteArgs)
    : Named.Statement (.securityRegProgram h w) := Named.ofNothing rfl rfl rfl rfl
theorem Named.securityRegErase (h : HostCmd) : Named.Statement (.securityRegErase h) := Named.ofNothing rfl rfl rfl rfl
theorem Named.writeEnable (h : HostCmd) : Named.Statement (.writeEnable h) := Named.ofNothing rfl rfl rfl rfl
theorem Named.writeDisable (h : HostCmd) : Named.Statement (.writeDisable h) := Named.ofNothing rfl rfl rfl rfl
theorem Named.vendor (h : HostCmd) (w : WriteArgs) (r : ReadArgs)
    : Named.Statement (.vendor h w r) := Named.ofNothing rfl rfl rfl rfl
theorem Named.hrstLow (welt : Fin 64) : Named.Statement (.hrstLow welt) := Named.ofNothing rfl rfl rfl rfl
theorem Named.hrstRise (welt : Fin 64) : Named.Statement (.hrstRise welt) := Named.ofNothing rfl rfl rfl rfl
theorem Named.statusPoll (eyelet : Nat) (status : Byte) (suspendReported : Bool)
    : Named.Statement (.statusPoll eyelet status suspendReported) := Named.ofNothing rfl rfl rfl rfl
theorem Named.eyeletInit (eyelet : Nat) (id : Bytes) : Named.Statement (.eyeletInit eyelet id) := Named.ofNothing rfl rfl rfl rfl
theorem Named.bootDone (p : Nat) : Named.Statement (.bootDone p) := Named.ofPlatform rfl rfl rfl rfl rfl
theorem Named.activateRequest (p : Nat) : Named.Statement (.activateRequest p) := Named.ofPlatform rfl rfl rfl rfl rfl
theorem Named.mailboxStatus (p : Nat) : Named.Statement (.mailboxStatus p) := Named.ofPlatform rfl rfl rfl rfl rfl
theorem Named.measureExtend (p : Nat) : Named.Statement (.measureExtend p) := Named.ofPlatform rfl rfl rfl rfl rfl
theorem Named.activationCommit (p : Nat) : Named.Statement (.activationCommit p) := Named.ofPlatform rfl rfl rfl rfl rfl
theorem Named.activateDeadline (p : Nat) : Named.Statement (.activateDeadline p) := Named.ofPlatform rfl rfl rfl rfl rfl
theorem Named.fillJobStart (p : Nat) : Named.Statement (.fillJobStart p) := Named.ofPlatform rfl rfl rfl rfl rfl
theorem Named.lastHeaderRead (last : Nat) (header : Bytes)
    : Named.Statement (.lastHeaderRead last header) := Named.ofLast rfl rfl rfl rfl rfl
theorem Named.lastHeaderVerified (last : Nat) : Named.Statement (.lastHeaderVerified last) := Named.ofLast rfl rfl rfl rfl rfl
theorem Named.tableStreamDone (last : Nat) (table : Bytes) (cmpFault : Bool)
    : Named.Statement (.tableStreamDone last table cmpFault) := Named.ofLast rfl rfl rfl rfl rfl
theorem Named.pageReadDone (what : ReadFor) (data : Bytes) (cmpFault : Bool)
    : Named.Statement (.pageReadDone what data cmpFault) := Named.ofNothing rfl rfl rfl rfl
theorem Named.pageSealed (welt : Fin 64) : Named.Statement (.pageSealed welt) := Named.ofNothing rfl rfl rfl rfl
theorem Named.platformRelease (p : Nat) : Named.Statement (.platformRelease p) := Named.ofPlatform rfl rfl rfl rfl rfl
theorem Named.pwrgdHigh (p : Nat) : Named.Statement (.pwrgdHigh p) := Named.ofPlatform rfl rfl rfl rfl rfl
theorem Named.pwrgdLow (p : Nat) : Named.Statement (.pwrgdLow p) := Named.ofPlatform rfl rfl rfl rfl rfl
theorem Named.doneRise (p : Nat) : Named.Statement (.doneRise p) := Named.ofPlatform rfl rfl rfl rfl rfl
theorem Named.bootTimerExpiry (p : Nat) : Named.Statement (.bootTimerExpiry p) := Named.ofPlatform rfl rfl rfl rfl rfl
theorem Named.leaseExpiry (which : LeaseId) : Named.Statement (.leaseExpiry which) := Named.ofNothing rfl rfl rfl rfl
theorem Named.refillStart (c : Fin 8) : Named.Statement (.refillStart c) := Named.ofNothing rfl rfl rfl rfl
theorem Named.refillDone (c : Fin 8) (data : Bytes) (cmpFault : Bool)
    : Named.Statement (.refillDone c data cmpFault) := Named.ofNothing rfl rfl rfl rfl
theorem Named.suspectExpiry (c : Fin 8) (page : Nat) : Named.Statement (.suspectExpiry c page) := Named.ofNothing rfl rfl rfl rfl
theorem Named.soleSelfTestDone (c : Fin 8) (trained : Bool) (failing : List Nat)
    : Named.Statement (.soleSelfTestDone c trained failing) := Named.ofNothing rfl rfl rfl rfl
theorem Named.soleApertureRead (core : Nat) (offset : BitVec 28) (len : Nat) (bad : Bool)
    : Named.Statement (.soleApertureRead core offset len bad) := Named.ofCore id rfl rfl rfl rfl
theorem Named.hotRefreshChange (code : Nat) : Named.Statement (.hotRefreshChange code) := Named.ofNothing rfl rfl rfl rfl
theorem Named.cobblerJobStart (p : Nat) : Named.Statement (.cobblerJobStart p) := Named.ofPlatform rfl rfl rfl rfl rfl
theorem Named.cobblerSourceVerified (p : Nat) (header : Bytes) (table : Bytes) (cmpFault : Bool)
    : Named.Statement (.cobblerSourceVerified p header table cmpFault) := Named.ofPlatform rfl rfl rfl rfl rfl
theorem Named.recoveryWaitExpiry (p : Nat) : Named.Statement (.recoveryWaitExpiry p) := Named.ofPlatform rfl rfl rfl rfl rfl
theorem Named.cobblerRead (p : Nat) (data : Bytes) (cmpFault : Bool)
    : Named.Statement (.cobblerRead p data cmpFault) := Named.ofPlatform rfl rfl rfl rfl rfl
theorem Named.cobblerErase (p : Nat) : Named.Statement (.cobblerErase p) := Named.ofPlatform rfl rfl rfl rfl rfl
theorem Named.cobblerProgram (p : Nat) (ready : Bool)
    : Named.Statement (.cobblerProgram p ready) := Named.ofPlatform rfl rfl rfl rfl rfl
theorem Named.cobblerCheck (p : Nat) (ready : Bool) (data : Bytes) (cmpFault : Bool)
    : Named.Statement (.cobblerCheck p ready data cmpFault) := Named.ofPlatform rfl rfl rfl rfl rfl
theorem Named.writebackStart (p : Nat) : Named.Statement (.writebackStart p) := Named.ofPlatform rfl rfl rfl rfl rfl
theorem Named.heelRingTailWrite (core : Nat) (value : Word)
    : Named.Statement (.heelRingTailWrite core value) := Named.ofCore id rfl rfl rfl rfl
theorem Named.heelHold : Named.Statement .heelHold := Named.ofNothing rfl rfl rfl rfl
theorem Named.retirePlatform : Named.Statement .retirePlatform := Named.ofNothing rfl rfl rfl rfl
theorem Named.phase : Named.Statement .phase := Named.ofNothing rfl rfl rfl rfl
theorem Named.slotMap : Named.Statement .slotMap := Named.ofNothing rfl rfl rfl rfl
theorem Named.exclude : Named.Statement .exclude := Named.ofNothing rfl rfl rfl rfl
theorem Named.fillRunning : Named.Statement .fillRunning := Named.ofNothing rfl rfl rfl rfl
theorem Named.tableSwitch : Named.Statement .tableSwitch := Named.ofNothing rfl rfl rfl rfl
theorem Named.retire : Named.Statement .retire := Named.ofNothing rfl rfl rfl rfl
theorem Named.mgmtReset : Named.Statement .mgmtReset := Named.ofNothing rfl rfl rfl rfl
theorem Named.deviceReset : Named.Statement .deviceReset := Named.ofNothing rfl rfl rfl rfl
theorem Named.trialConfirm : Named.Statement .trialConfirm := Named.ofNothing rfl rfl rfl rfl
theorem Named.settingsCommit : Named.Statement .settingsCommit := Named.ofNothing rfl rfl rfl rfl
theorem Named.stagedReady : Named.Statement .stagedReady := Named.ofNothing rfl rfl rfl rfl
theorem Named.patternFlag : Named.Statement .patternFlag := Named.ofNothing rfl rfl rfl rfl
theorem Named.copyJournal : Named.Statement .copyJournal := Named.ofNothing rfl rfl rfl rfl
theorem Named.fuseGate : Named.Statement .fuseGate := Named.ofNothing rfl rfl rfl rfl
theorem Named.patternParams : Named.Statement .patternParams := Named.ofNothing rfl rfl rfl rfl
theorem Named.shank : Named.Statement .shank := Named.ofNothing rfl rfl rfl rfl
theorem Named.quiesce : Named.Statement .quiesce := Named.ofNothing rfl rfl rfl rfl
theorem Named.heelTimerSvcWrite (core : Nat) (value : Word)
    : Named.Statement (.heelTimerSvcWrite core value) := Named.ofCore id rfl rfl rfl rfl
theorem Named.heelTimerExpiry : Named.Statement .heelTimerExpiry := Named.ofNothing rfl rfl rfl rfl
theorem Named.armedSecondClear : Named.Statement .armedSecondClear := Named.ofNothing rfl rfl rfl rfl
theorem Named.managementReset : Named.Statement .managementReset := Named.ofNothing rfl rfl rfl rfl
theorem Named.warmHandOver : Named.Statement .warmHandOver := Named.ofNothing rfl rfl rfl rfl
theorem Named.coldPowerOn (straps : Straps) : Named.Statement (.coldPowerOn straps) := Named.ofNothing rfl rfl rfl rfl
theorem Named.devRst : Named.Statement .devRst := Named.ofNothing rfl rfl rfl rfl
theorem Named.rootUnwrap : Named.Statement .rootUnwrap := Named.ofNothing rfl rfl rfl rfl
theorem Named.firmwareCopyUnit : Named.Statement .firmwareCopyUnit := Named.ofNothing rfl rfl rfl rfl
theorem Named.handOver : Named.Statement .handOver := Named.ofNothing rfl rfl rfl rfl
theorem Named.trialDeadline : Named.Statement .trialDeadline := Named.ofNothing rfl rfl rfl rfl
theorem Named.floorRaise (words : List (Nat × Nat)) : Named.Statement (.floorRaise words) := Named.ofNothing rfl rfl rfl rfl
theorem Named.patternChoice : Named.Statement .patternChoice := Named.ofNothing rfl rfl rfl rfl
theorem Named.patternLoad : Named.Statement .patternLoad := Named.ofNothing rfl rfl rfl rfl
theorem Named.frameReceived (lace : Option (Fin 4)) (bytes : Bytes) (ended codeError : Bool)
    : Named.Statement (.frameReceived lace bytes ended codeError) := Named.ofNothing rfl rfl rfl rfl
theorem Named.data : Named.Statement .data := Named.ofNothing rfl rfl rfl rfl
theorem Named.ack : Named.Statement .ack := Named.ofNothing rfl rfl rfl rfl
theorem Named.nak : Named.Statement .nak := Named.ofNothing rfl rfl rfl rfl
theorem Named.train : Named.Statement .train := Named.ofNothing rfl rfl rfl rfl
theorem Named.replayTimeout : Named.Statement .replayTimeout := Named.ofNothing rfl rfl rfl rfl
theorem Named.linkLoss : Named.Statement .linkLoss := Named.ofNothing rfl rfl rfl rfl
theorem Named.linkRetrain : Named.Statement .linkRetrain := Named.ofNothing rfl rfl rfl rfl
theorem Named.linkKeepalive : Named.Statement .linkKeepalive := Named.ofNothing rfl rfl rfl rfl
theorem Named.sessionExpired (ch : Nat) : Named.Statement (.sessionExpired ch) := Named.ofChannel rfl rfl rfl rfl rfl
theorem Named.hello (ch : Nat) : Named.Statement (.hello ch) := Named.ofChannel rfl rfl rfl rfl rfl
theorem Named.sessionClose (ch : Nat) : Named.Statement (.sessionClose ch) := Named.ofChannel rfl rfl rfl rfl rfl
theorem Named.statusGetDevice (ch : Nat) : Named.Statement (.statusGetDevice ch) := Named.ofChannel rfl rfl rfl rfl rfl
theorem Named.statusGetCommand (ch : Nat) : Named.Statement (.statusGetCommand ch) := Named.ofChannel rfl rfl rfl rfl rfl
theorem Named.regRead (ch : Nat) : Named.Statement (.regRead ch) := Named.ofChannel rfl rfl rfl rfl rfl
theorem Named.regWrite (ch : Nat) : Named.Statement (.regWrite ch) := Named.ofChannel rfl rfl rfl rfl rfl
theorem Named.logDrain (ch : Nat) : Named.Statement (.logDrain ch) := Named.ofChannel rfl rfl rfl rfl rfl
theorem Named.attest (ch : Nat) : Named.Statement (.attest ch) := Named.ofChannel rfl rfl rfl rfl rfl
theorem Named.statementDone (id : Nat) : Named.Statement (.statementDone id) := Named.ofNothing rfl rfl rfl rfl
theorem Named.domainAttest (ch : Nat) : Named.Statement (.domainAttest ch) := Named.ofChannel rfl rfl rfl rfl rfl
theorem Named.domainCollectionEnd (job : Nat) : Named.Statement (.domainCollectionEnd job) := Named.ofNothing rfl rfl rfl rfl
theorem Named.stageOpen (ch : Nat) : Named.Statement (.stageOpen ch) := Named.ofChannel rfl rfl rfl rfl rfl
theorem Named.stageData (ch : Nat) : Named.Statement (.stageData ch) := Named.ofChannel rfl rfl rfl rfl rfl
theorem Named.stageClose (ch : Nat) : Named.Statement (.stageClose ch) := Named.ofChannel rfl rfl rfl rfl rfl
theorem Named.stageCloseFirmware (ch : Nat) : Named.Statement (.stageCloseFirmware ch) := Named.ofChannel rfl rfl rfl rfl rfl
theorem Named.stageClosePattern (ch : Nat) : Named.Statement (.stageClosePattern ch) := Named.ofChannel rfl rfl rfl rfl rfl
theorem Named.stageCloseCerts (ch : Nat) : Named.Statement (.stageCloseCerts ch) := Named.ofChannel rfl rfl rfl rfl rfl
theorem Named.stageAbort (ch : Nat) : Named.Statement (.stageAbort ch) := Named.ofChannel rfl rfl rfl rfl rfl
theorem Named.platformCtlHold (ch : Nat) : Named.Statement (.platformCtlHold ch) := Named.ofChannel rfl rfl rfl rfl rfl
theorem Named.platformCtlRefill (ch : Nat) : Named.Statement (.platformCtlRefill ch) := Named.ofChannel rfl rfl rfl rfl rfl
theorem Named.platformCtlRecover (ch : Nat) : Named.Statement (.platformCtlRecover ch) := Named.ofChannel rfl rfl rfl rfl rfl
theorem Named.updateOpen (ch : Nat) : Named.Statement (.updateOpen ch) := Named.ofChannel rfl rfl rfl rfl rfl
theorem Named.updateClose (ch : Nat) : Named.Statement (.updateClose ch) := Named.ofChannel rfl rfl rfl rfl rfl
theorem Named.platformCtlRetire (ch : Nat) : Named.Statement (.platformCtlRetire ch) := Named.ofChannel rfl rfl rfl rfl rfl
theorem Named.platformCtlQuiesce (ch : Nat) : Named.Statement (.platformCtlQuiesce ch) := Named.ofChannel rfl rfl rfl rfl rfl
theorem Named.keyImport (ch : Nat) : Named.Statement (.keyImport ch) := Named.ofChannel rfl rfl rfl rfl rfl
theorem Named.keyReplace (ch : Nat) : Named.Statement (.keyReplace ch) := Named.ofChannel rfl rfl rfl rfl rfl
theorem Named.keyDestroy (ch : Nat) : Named.Statement (.keyDestroy ch) := Named.ofChannel rfl rfl rfl rfl rfl
theorem Named.keyInfo (ch : Nat) : Named.Statement (.keyInfo ch) := Named.ofChannel rfl rfl rfl rfl rfl
theorem Named.digestRun (ch : Opener)
    : Named.Statement (.digestRun ch) := Named.ofChannel rfl rfl rfl rfl rfl
theorem Named.dgstOpen (core : Opener)
    : Named.Statement (.dgstOpen core) := Named.ofCore id rfl rfl rfl rfl
theorem Named.dgstFeed (core : Nat) (c : Fin 64) : Named.Statement (.dgstFeed core c) := Named.ofCore id rfl rfl rfl rfl
theorem Named.dgstFinish (core : Nat) (c : Fin 64) : Named.Statement (.dgstFinish core c) := Named.ofCore id rfl rfl rfl rfl
theorem Named.dgstClose (core : Nat) (c : Fin 64) : Named.Statement (.dgstClose core c) := Named.ofCore id rfl rfl rfl rfl
theorem Named.digestDone (c : Fin 64) (fault : Option Bool)
    : Named.Statement (.digestDone c fault) := Named.ofNothing rfl rfl rfl rfl
theorem Named.fuseRead (ch : Nat) : Named.Statement (.fuseRead ch) := Named.ofChannel rfl rfl rfl rfl rfl
theorem Named.fuseShadowSet (ch : Nat) : Named.Statement (.fuseShadowSet ch) := Named.ofChannel rfl rfl rfl rfl rfl
theorem Named.fuseProgram (ch : Nat) : Named.Statement (.fuseProgram ch) := Named.ofChannel rfl rfl rfl rfl rfl
theorem Named.fuseLock (ch : Nat) : Named.Statement (.fuseLock ch) := Named.ofChannel rfl rfl rfl rfl rfl
theorem Named.lifecycleAdvance (ch : Nat) : Named.Statement (.lifecycleAdvance ch) := Named.ofChannel rfl rfl rfl rfl rfl
theorem Named.fuseProgramDone (tight loose lockTight lockLoose : Nat)
    : Named.Statement (.fuseProgramDone tight loose lockTight lockLoose) := Named.ofNothing rfl rfl rfl rfl
theorem Named.fuseProgramEnv (tight loose : Nat)
    : Named.Statement (.fuseProgramEnv tight loose) := Named.ofNothing rfl rfl rfl rfl
theorem Named.swap (ch : Nat) : Named.Statement (.swap ch) := Named.ofChannel rfl rfl rfl rfl rfl
theorem Named.swapResult : Named.Statement .swapResult := Named.ofNothing rfl rfl rfl rfl
theorem Named.solo (ch : Nat) : Named.Statement (.solo ch) := Named.ofChannel rfl rfl rfl rfl rfl
theorem Named.soloClear (ch : Nat) : Named.Statement (.soloClear ch) := Named.ofChannel rfl rfl rfl rfl rfl
theorem Named.freezeRead (ch : Nat) : Named.Statement (.freezeRead ch) := Named.ofChannel rfl rfl rfl rfl rfl
theorem Named.debugToken (ch : Nat) : Named.Statement (.debugToken ch) := Named.ofChannel rfl rfl rfl rfl rfl
theorem Named.shankReleaseSeen (aHigh bHigh : Bool)
    : Named.Statement (.shankReleaseSeen aHigh bHigh) := Named.ofNothing rfl rfl rfl rfl
theorem Named.claimStart (aHigh bHigh : Bool) : Named.Statement (.claimStart aHigh bHigh) := Named.ofNothing rfl rfl rfl rfl
theorem Named.claimSecondLine (secondHigh : Bool)
    : Named.Statement (.claimSecondLine secondHigh) := Named.ofNothing rfl rfl rfl rfl
theorem Named.claimConfirm (low3 : Bool) : Named.Statement (.claimConfirm low3) := Named.ofNothing rfl rfl rfl rfl
theorem Named.shankDisagree (aHigh bHigh : Bool) : Named.Statement (.shankDisagree aHigh bHigh) := Named.ofNothing rfl rfl rfl rfl
theorem Named.shankReadbackFault (aHigh bHigh : Bool)
    : Named.Statement (.shankReadbackFault aHigh bHigh) := Named.ofNothing rfl rfl rfl rfl
theorem Named.heartbeatSend : Named.Statement .heartbeatSend := Named.ofNothing rfl rfl rfl rfl
theorem Named.heartbeat (port : Fin 4) (frameOk : Bool) (payload : Bytes)
    : Named.Statement (.heartbeat port frameOk payload) := Named.ofNothing rfl rfl rfl rfl
theorem Named.lacePortLost (port : Fin 4) : Named.Statement (.lacePortLost port) := Named.ofNothing rfl rfl rfl rfl
theorem Named.lacePortTrained (port : Fin 4) (ok : Bool)
    : Named.Statement (.lacePortTrained port ok) := Named.ofNothing rfl rfl rfl rfl
theorem Named.portKey (port : Fin 4) (key : Bytes) : Named.Statement (.portKey port key) := Named.ofNothing rfl rfl rfl rfl
theorem Named.state (records : List (Nat × Bytes)) : Named.Statement (.state records) := Named.ofNothing rfl rfl rfl rfl
theorem Named.mirror (seq : Nat) (isFlag : Bool) (index value : Nat)
    : Named.Statement (.mirror seq isFlag index value) := Named.ofNothing rfl rfl rfl rfl
theorem Named.mirrorAck (seq : Nat) : Named.Statement (.mirrorAck seq) := Named.ofNothing rfl rfl rfl rfl
theorem Named.mirrorRepeat : Named.Statement .mirrorRepeat := Named.ofNothing rfl rfl rfl rfl
theorem Named.mirrorTimeout : Named.Statement .mirrorTimeout := Named.ofNothing rfl rfl rfl rfl
theorem Named.snapshot (flags counters : List Nat) (seq : Nat)
    : Named.Statement (.snapshot flags counters seq) := Named.ofNothing rfl rfl rfl rfl
theorem Named.pageCheck (last page readNo : Nat) (digest : Digest)
    : Named.Statement (.pageCheck last page readNo digest) := Named.ofLast rfl rfl rfl rfl rfl
theorem Named.answerCheck (welt : Fin 64) (addr : BitVec 32) (stitch : Nat) (ownCopyBad partnerCopyBad : Bool)
    : Named.Statement (.answerCheck welt addr stitch ownCopyBad partnerCopyBad) := Named.ofNothing rfl rfl rfl rfl
theorem Named.rejoin (pages : List Nat) : Named.Statement (.rejoin pages) := Named.ofNothing rfl rfl rfl rfl
theorem Named.drill (stitch : Nat) : Named.Statement (.drill stitch) := Named.ofNothing rfl rfl rfl rfl
theorem Named.keyXfer (payload : Bytes) : Named.Statement (.keyXfer payload) := Named.ofNothing rfl rfl rfl rfl
theorem Named.domainState (r : RingHdr) (role : Nat) (debug : Bool) (lead : Nat)
    : Named.Statement (.domainState r role debug lead) := Named.ofNothing rfl rfl rfl rfl
theorem Named.domainStateSend : Named.Statement .domainStateSend := Named.ofNothing rfl rfl rfl rfl
theorem Named.memberReq (r : RingHdr) (nonce : Bytes) (mask : Nat) (certs : Bool)
    : Named.Statement (.memberReq r nonce mask certs) := Named.ofNothing rfl rfl rfl rfl
theorem Named.memberResp (r : RingHdr) (nonce : Bytes) (status code : Nat) (statement : Bytes)
    : Named.Statement (.memberResp r nonce status code statement) := Named.ofNothing rfl rfl rfl rfl
theorem Named.sensorTrip (sensor : Fin 64) (code : Nat)
    : Named.Statement (.sensorTrip sensor code) := Named.ofNothing rfl rfl rfl rfl
theorem Named.envExcursion (sensor : Fin 4) (code : Nat)
    : Named.Statement (.envExcursion sensor code) := Named.ofNothing rfl rfl rfl rfl
theorem Named.scuttleFuseBlow (tight loose lockTight lockLoose : Nat)
    : Named.Statement (.scuttleFuseBlow tight loose lockTight lockLoose) := Named.ofNothing rfl rfl rfl rfl
theorem Named.fatalFault (cause : Nat) : Named.Statement (.fatalFault cause) := Named.ofNothing rfl rfl rfl rfl
theorem Named.freezeRequest : Named.Statement .freezeRequest := Named.ofNothing rfl rfl rfl rfl
theorem Named.mainpgFall : Named.Statement .mainpgFall := Named.ofNothing rfl rfl rfl rfl
theorem Named.mainpgRise : Named.Statement .mainpgRise := Named.ofNothing rfl rfl rfl rfl
theorem Named.wake (cause : Nat) : Named.Statement (.wake cause) := Named.ofNothing rfl rfl rfl rfl
theorem Named.mainPowerTimeout : Named.Statement .mainPowerTimeout := Named.ofNothing rfl rfl rfl rfl
theorem Named.registerWrite (core : Nat) (addr : Word) (value : CoreData)
    : Named.Statement (.registerWrite core addr value) := Named.ofCore (fun h => (Bool.and_eq_true _ _ ▸ h).1) rfl rfl rfl rfl
theorem Named.vampLaneLock (lane : Fin 2) : Named.Statement (.vampLaneLock lane) := Named.ofNothing rfl rfl rfl rfl
theorem Named.updatePointOperationDone (ident : Nat)
    : Named.Statement (.updatePointOperationDone ident) := Named.ofNothing rfl rfl rfl rfl
theorem Named.jtagInstruction (op : JtagOp) : Named.Statement (.jtagInstruction op) := Named.ofNothing rfl rfl rfl rfl
theorem Named.domainMemberSilent (unit : Fin 8) : Named.Statement (.domainMemberSilent unit) := Named.ofNothing rfl rfl rfl rfl

end Sys2Proof.Laws
end

