-- ==== Sys2Proof/Laws/Sole.lean ====
section
/-!
SUPPORT. What the sealed sectors of the sole open to, read off the raw store (R190, R191, R195): the cipher itself stays closed.
-/
namespace Sys2Proof.Laws
open Sys2Proof Sys2Proof.Machine

@[simp] theorem fit_length (n : Nat) (b : Byte) (bs : Bytes) : (fit n b bs).length = n := by
  simp [fit, fill]; omega

/-- Bytes already of the length asked for stay as they are. -/
@[simp] theorem fit_of_length (n : Nat) (b : Byte) (bs : Bytes) (h : bs.length = n) : fit n b bs = bs := by
  simp [fit, fill, ← h]

/-- Block `k` of a run of equally long blocks. -/
theorem bytesAt_blocks (f : Nat → Bytes) (w n k : Nat) (hf : ∀ i, (f i).length = w) (hk : k < n) :
    bytesAt ((List.range n).flatMap f) (w * k) w = f k := by
  have len : ∀ j, ((List.range j).flatMap f).length = w * j := by
    intro j
    induction j with
    | zero => simp
    | succ j ih => simp [List.range_succ, List.flatMap_append, ih, hf, Nat.mul_succ]
  obtain ⟨m, rfl⟩ : ∃ m, n = (k + 1) + m := ⟨n - (k + 1), by omega⟩
  rw [List.range_add, List.range_succ]
  simp only [List.flatMap_append, List.flatMap_cons, List.flatMap_nil, List.append_nil, bytesAt, List.append_assoc]
  rw [List.drop_left' (len k), List.take_left' (hf k)]

/-- A part of a part. -/
theorem bytesAt_bytesAt (b : Bytes) (o n i m : Nat) (h : i + m ≤ n) : bytesAt (bytesAt b o n) i m = bytesAt b (o + i) m := by
  simp only [bytesAt, List.drop_take, List.take_take, List.drop_drop]
  congr 1
  omega

/-- A frame is 4,352 bytes long (R190). -/
theorem sealPage_length (key : BitVec 128) (ep p c f m : Nat) (data : Bytes) :
    (sealPage key ep p c f m data).length = 4352 := by
  simp [sealPage, List.length_flatMap] <;> rfl

/-- Sealed sector `k` of a frame stands at byte 272 `k` of it (R190). -/
theorem sealPage_sector (key : BitVec 128) (ep p c f m k : Nat) (data : Bytes) (hk : k < 16) :
    bytesAt (sealPage key ep p c f m data) (272 * k) 272 =
      sm4Seal key (soleNonce ep 0 c f k) (soleAad p m k) (fit 256 0 (bytesAt data (256 * k) 256)) :=
  bytesAt_blocks _ 272 16 k (by simp) hk

/-- A sector whose raw bytes are sealed as R195 says opens to what was sealed. -/
theorem sectorPlain_of_raw (s : State) (m k p : Nat) (key : BitVec 128) (d : Bytes) (hb : s.pageBound m = some p)
    (hk : s.epochKeyOf p = some key)
    (hr : Memory.readN 0 s.sole.raw (frameBase (pageChan m) (s.frameOf m) + 272 * k) 272 =
      sm4Seal key (soleNonce (s.epochOf p) 0 (pageChan m) (s.frameOf m) k) (soleAad p m k) d) :
    s.sectorPlain m k = some d := by
  simp only [State.sectorPlain, State.openSector, hb, hk, hr, Option.bind_some, sm4Open_sm4Seal]

/-- Sixteen sectors that open to the parts of `data` give `data`. -/
theorem opened_sectors (f : Nat → Option Bytes) (data : Bytes) (hl : data.length = 4096)
    (h : ∀ k, k < 16 → f k = some (bytesAt data (256 * k) 256)) :
    (List.range 16).foldl (fun a k => a.bind (fun b => (f k).map (b ++ ·))) (some []) = some data := by
  have step : ∀ n, n ≤ 16 → (List.range n).foldl
      (fun a k => a.bind (fun b => (f k).map (b ++ ·))) (some []) = some (data.take (256 * n)) := by
    intro n
    induction n with
    | zero => simp
    | succ n ih =>
      intro hn
      rw [List.range_succ, List.foldl_append, ih (by omega)]
      simp [h n (by omega), bytesAt, Nat.mul_succ, List.take_add]
  rw [step 16 (by omega), List.take_of_length_le (by omega)]

/-- A page whose sixteen sectors open to the parts of `data` opens to `data`. -/
theorem pagePlain_of_sectors (s : State) (m : Nat) (data : Bytes) (hl : data.length = 4096)
    (h : ∀ k, k < 16 → s.sectorPlain m k = some (bytesAt data (256 * k) 256)) : s.pagePlain m = some data :=
  opened_sectors _ data hl h

/-- A digest sector whose raw bytes are sealed as R195 says gives the page's entry. -/
theorem pageDigest_of_raw (s : State) (m p : Nat) (key : BitVec 128) (d : Bytes) (hb : s.pageBound m = some p)
    (hk : s.epochKeyOf p = some key)
    (hr : Memory.readN 0 s.sole.raw (digestBase (pageChan m) (digestIndex m)) 272 =
      sm4Seal key (soleNonce (s.epochOf p) 1 (pageChan m) (digestIndex m) 0) (soleAad p (m / 8 * 8) 0) d) :
    s.pageDigest m = some (digestEntry m d) := by
  simp only [State.pageDigest, State.openDigests, State.openSector, hb, hk, hr, Option.bind_some, sm4Open_sm4Seal,
    Option.map_some]

end Sys2Proof.Laws
end

