-- ==== Sys2Proof/Tests/Slice0.lean ====
section
/-!
SUPPORT. The model's own tests: an ill-formed command for every check of WellFormed, single steps on small states, and for every
statement with hypotheses a state and operands that meet them.
-/
set_option Elab.async false

namespace Sys2Proof.Tests
open Sys2Proof Sys2Proof.Machine Sys2Proof.Safety Sys2Proof.Claims

/-! ### A small machine: platform 0 on welt 0, one presented device of 32 pages from the sole and 32 passed through -/

/-- An eyelet of the small machine. -/
def eyeT : EyeletRec := { mode := 3, clock := 200, sizePages := 64, flashDummy := 20, idLen := 3, id := [0xC2, 0x85, 0x3A]
                          statusOp := 0x05, resetRecovery := 10, init := [[0xB7]] }
/-- Pages 0 to 31 stand on eyelet 0 and mirror pages 0 to 31, pages 32 to 63 on eyelet 1. -/
def pdT : PdRec := { sizeLog2 := 24, modes := 0xF, powerupMode := 3, powerupAddr4 := true, clockMax := 166, dummy := 30
                     id := [0xC2, 0x85, 0x3A]
                     segments := [{ pdStart := 0, pageCount := 32, eyeletA := 0, solePage := some 0 },
                                  { pdStart := 32, pageCount := 32, eyeletA := 1 }] }
/-- The boot last of platform 0. -/
def lastT : LastEntry := { entry := 0, pd := 0, segment := 0, boot := true, imageClass := 7, lastEyelet := 0, pageA := 40
                           areaPages := 2 }
/-- The platform. -/
def platT : PlatRec := { cobblerEn := true, updateEn := true, adapterHold := true, welts := [0], bootTimer := 1000
                         recoveryWait := 1000, lasts := [lastT], staging := [{ welt := 0, first := 540672, frames := 64 }] }
/-- The pattern. -/
def patT : Pattern := { sequence := 5, device := { heelPeriod := 2000000, tamperLevel := 1, quiescePermit := 3, eraseMax := 20000, programMax := 300 }
                        eyelets := [(0, eyeT), (1, eyeT)], pds := [(0, pdT)], plats := [(0, platT)] }
/-- A window entry: first page, pages, action code, phases, classes. -/
def winT (start len act phases cls : Nat) : WindowWord :=
  BitVec.ofNat 128 (start * 2 ^ 96 + len * 2 ^ 64 + act * 2 ^ 84 + phases * 2 ^ 88 + cls * 2 ^ 48)
/-- An opcode-map word of a listed opcode: EN, class, QUAD and OCTAL. -/
def mapT (o : Nat) : Nat × Word := (o, BitVec.ofNat 32 (match opRow o with
  | some r => 1 + 2 * r.cls.code + 64 + (if r.octal then 32 else 0)
  | none => 0))

/-- An opcode-map word of a VENDOR opcode: ADDR, DIR, MAXLEN, WEL_REQ. -/
def vT (addr dir maxLen : Nat) (wel : Bool) : Word :=
  BitVec.ofNat 32 (1 + 2 * 15 + 32 + 64 + 256 * addr + 8 * 2048 + 65536 * dir + 2 ^ 20 * maxLen + 2 ^ 29 * b2n wel)
/-- Bytes listed from an address on. -/
def placeT (a : Nat) (b : Bytes) : Memory := b.zipIdx.map (fun x => (a + x.2, x.1))
/-- What mirror page 1 holds. -/
@[irreducible] def pageT : Bytes := fill 4096 7
/-- The small machine: its platform runs in phase RUNTIME with its hold released, both eyelets are ready. -/
def host0 : State := {
  pat := some patT
  sys := { mgmtUp := true }
  boot := { stage := .running }
  plats := [(0, { state := .running, phase := .runtime, hold := false })]
  eyes := [(0, { phase := .ready }), (1, { phase := .ready })]
  sole := { pages := [(1, { state := .valid })], epoch := [(0, 3)], epochKey := [(0, some 5)]
            raw := placeT 4352 (sealPage 5 3 0 0 1 1 pageT) }
  click := {
    dirA := [(0, { cfg := BitVec.ofNat 32 (2 + 1 * 2 ^ 21), bare := BitVec.ofNat 32 0xFFFF })]
    mapA := [0x01, 0x02, 0x03, 0x04, 0x05, 0x06, 0x0B, 0x13, 0x20, 0x42, 0x44, 0x48, 0x50, 0x52, 0x5A, 0x60, 0x66, 0x70, 0x71, 0x72,
      0x75, 0x7A, 0x99, 0x9F, 0xB7].map mapT ++
      [(0xC0, vT 4 2 3 false), (0xC1, vT 0 1 2 true), (0xC2, vT 0 0 0 false)] ++ [0xD8, 0xE9, 0xEE].map mapT
    winA := [(0, winT 0 32 3 15 0xFFFF), (1, winT 32 32 2 15 0xFFFF)] } }
/-- A run that meets no listed address reads as unlisted. -/
theorem readN_unlisted (d : Byte) (m : Memory) (a n : Nat) (h : ∀ e ∈ m, e.1 < a ∨ a + n ≤ e.1) :
    Memory.readN d m a n = fill n d := by
  have one : ∀ (m : Memory) (i : Nat), i < n → (∀ e ∈ m, e.1 < a ∨ a + n ≤ e.1) → Memory.read d m (a + i) = d := by
    intro m i hi h
    induction m with
    | nil => rfl
    | cons e m ih =>
      have h1 := h e (by simp)
      have : ¬ a + i = e.1 := by omega
      simp only [Memory.read, tget, this, if_false]
      exact ih (fun x hx => h x (by simp [hx]))
  apply List.ext_getElem
  · simp [Memory.readN, fill]
  · intro i h1 h2
    simp [Memory.readN, fill, one m i (by simpa [Memory.readN] using h1) h]
/-- What lies above every listed address reads as unlisted. -/
theorem readN_above (d : Byte) (m : Memory) (a n : Nat) (h : ∀ e ∈ m, e.1 < a) : Memory.readN d m a n = fill n d :=
  readN_unlisted d m a n (fun e he => .inl (h e he))
/-- They read back as they are, from any offset. -/
theorem readN_placeT_at (d : Byte) (b : Bytes) (a o n : Nat) (h : o + n ≤ b.length) :
    Memory.readN d (placeT a b) (a + o) n = bytesAt b o n := by
  have one : ∀ (b : Bytes) (k i : Nat) (hi : i < b.length),
      Memory.read d ((b.zipIdx k).map (fun x => (a + x.2, x.1))) (a + k + i) = b[i] := by
    intro b
    induction b with
    | nil => intro k i hi; simp at hi
    | cons x b ih =>
      intro k i hi
      cases i with
      | zero => simp [Memory.read, tget]
      | succ i =>
        have ne : ¬ a + k + (i + 1) = a + k := by omega
        have e := ih (k + 1) i (by simpa using hi)
        have r : a + (k + 1) + i = a + k + (i + 1) := by omega
        rw [r] at e
        simpa [Memory.read, tget, ne] using e
  apply List.ext_getElem
  · simp [Memory.readN, bytesAt]; omega
  · intro i h1 h2
    have hi : o + i < b.length := by simp [bytesAt] at h2; omega
    simpa [Memory.readN, placeT, bytesAt, Nat.add_assoc] using one b 0 (o + i) hi
/-- They read back as they are. -/
theorem readN_placeT (d : Byte) (b : Bytes) (a n : Nat) (h : n ≤ b.length) : Memory.readN d (placeT a b) a n = b.take n := by
  simpa [bytesAt] using readN_placeT_at d b a 0 n (by omega)
/-- Mirror page 1 opens wherever its frame holds it, sealed by the small machine's pattern, key and epoch. -/
theorem page1_sector (s : State) (hb : s.pageBound 1 = some 0) (hk : s.epochKeyOf 0 = some 5) (he : s.epochOf 0 = 3)
    (hf : s.frameOf 1 = 1) (hr : ∀ o n, o + n ≤ 4352 →
      Memory.readN 0 s.sole.raw (4352 + o) n = bytesAt (sealPage 5 3 0 0 1 1 pageT) o n) (k : Nat) (h : k < 16) :
    s.sectorPlain 1 k = some (bytesAt pageT (256 * k) 256) := by
  have len : (bytesAt pageT (256 * k) 256).length = 256 := by
    simp only [bytesAt, pageT, fill, List.length_take, List.length_drop, List.length_replicate]; omega
  refine Laws.sectorPlain_of_raw s 1 k 0 5 _ hb hk ?_
  have e := Laws.sealPage_sector 5 3 0 0 1 1 k pageT h
  rw [Laws.fit_of_length _ _ _ len] at e
  rw [hf, he]
  exact (hr (272 * k) 272 (by omega)).trans e
/-- Every sector of mirror page 1 opens. -/
theorem host0_sector (k : Nat) (hk : k < 16) : host0.sectorPlain 1 k = some (bytesAt pageT (256 * k) 256) :=
  page1_sector host0 (by decide +kernel) (by decide +kernel) (by decide +kernel) (by decide +kernel)
    (fun o n h => readN_placeT_at 0 _ 4352 o n (by rw [Laws.sealPage_length]; exact h)) k hk
/-- No copy of the small machine fails, and mirror page 1 holds what was sealed. -/
theorem host0_opens : SoleOpens host0 ∧ host0.pagePlain 1 = some pageT := by
  refine ⟨fun m k hk hv => ?_, Laws.pagePlain_of_sectors host0 1 pageT (by decide +kernel) host0_sector⟩
  have : m = 1 := by
    by_cases h : m = 1
    · exact h
    · simp [State.pageState, State.page, State.chan, host0, tget, h] at hv
  rw [this, host0_sector k hk]; rfl
/-- A command on welt 0, chip select 0. -/
def hc (op addr : Nat) : HostCmd := ⟨0, 0, BitVec.ofNat 8 op, 0, BitVec.ofNat 32 addr, 10, true⟩
/-- How the small machine decodes a command. -/
def dc (h : HostCmd) : Decoded :=
  (host0.decodeHost h).getD ⟨0, .read, 0, 0, 0, false, 0, 0⟩
/-- WEL stands. -/
def hostW : State := { host0 with pds := [(0, { wel := true, bp := 9, srwd := true, armed := true })] }
/-- The platform is held. -/
def hostH : State := { hostW with plats := [(0, { state := .held })] }
/-- A plain read of `n` bytes. -/
def rd (n : Nat) (flash : Bytes := []) : ReadArgs := { len := n, ready := 400, flash := flash, badSectors := [], badLines := [], overrun := false }
/-- Data to write. -/
def wr (n : Nat) : WriteArgs := ⟨fill n 5, true⟩

/-! ### Host commands -/

theorem witness_HostRegisterReads :
    (∀ op ∈ [0x05, 0x70, 0x71, 0x9F], Takes host0 (hc op 0) (dc (hc op 0))) ∧ host0.drives = true ∧ (hostW.pd 0).bp < 16 := by
  unfold Takes; decide +kernel

theorem witness_HostSfdpAndSecurityReads :
    Takes host0 (hc 0x5A 0xF8) (dc (hc 0x5A 0xF8)) ∧ host0.drives = true ∧ host0.judge (dc (hc 0x5A 0xF8)) = .allow none ∧
    isLate 40 1 8 10 (decide ((host0.pd 0).mode = 3)) = false ∧ Takes host0 (hc 0x48 0) (dc (hc 0x48 0)) := by
  unfold Takes; decide +kernel

theorem witness_HostReadsFromSole :
    (∀ c ∈ [(0x03, 4096), (0x13, 4100)], Takes host0 (hc c.1 c.2) (dc (hc c.1 c.2)) ∧
      host0.judge (dc (hc c.1 c.2)) = .allow (some (0, winT 0 32 3 15 0xFFFF)) ∧
      host0.readSrc 0 1 (winT 0 32 3 15 0xFFFF) = .sole ∧ host0.soleServes 0 1 = true ∧ host0.mirrorOf 0 1 = some 1 ∧
      (∀ q ∈ [40, 180], lateBy (rd 4).ready q 1 (dc (hc c.1 c.2)).dummy 10 (decide ((host0.pd 0).mode = 3)) = false)) ∧
    SoleOpens host0 ∧ host0.pagePlain 1 = some pageT ∧ LinesAgree host0 0 1 pageT ∧
    ReadRow (hc 0x03 4096) (rd 4096) (.read (hc 0x03 4096) (rd 4096)) ∧ OnePage (dc (hc 0x03 4096)) 4096 ∧
    ReadRow (hc 0x0B 4096) (rd 1) (.fastRead (hc 0x0B 4096) (rd 1)) ∧ OnePage (dc (hc 0x0B 8191)) 1 := by
  refine ⟨?_, host0_opens.1, host0_opens.2, fun k l _ h => ?_, ?_⟩
  · unfold Takes; decide +kernel
  · exact absurd h (by simp [State.treadLine, host0, tget])
  · unfold ReadRow OnePage; decide +kernel

theorem witness_HostReadsFromFlash :
    Takes host0 (hc 0x03 0x20005) (dc (hc 0x03 0x20005)) ∧
    host0.judge (dc (hc 0x03 0x20005)) = .allow (some (1, winT 32 32 2 15 0xFFFF)) ∧
    host0.readSrc 0 32 (winT 32 32 2 15 0xFFFF) = .eyelet 1 ∧ (host0.pdRec 0).segmentOf 32 = pdT.segments[1]? ∧
    host0.eyeBad 1 = false ∧ host0.eyeBusy 1 = false ∧ OnePage (dc (hc 0x03 0x20005)) 4 ∧
    host0.pageExcluded 0 32 = false ∧
    lateBy 400 (45 * (host0.eyeRec 1).clock + 1000 * (host0.eyeRec 1).flashDummy) (host0.eyeRec 1).clock
      (dc (hc 0x03 0x20005)).dummy 10 (decide ((host0.pd 0).mode = 3)) = false := by
  unfold Takes OnePage; decide +kernel

theorem witness_HostDenials :
    (∀ c ∈ [(0x03, 0x40000), (0x02, 0x40000), (0x20, 0x40000), (0x52, 0x40000), (0xD8, 0x40000)],
      Takes hostW (hc c.1 c.2) (dc (hc c.1 c.2)) ∧ hostW.judge (dc (hc c.1 c.2)) = .deny 1 none) ∧
    (∀ op ∈ [0x60, 0x42, 0x44], Takes hostW (hc op 0) (dc (hc op 0)) ∧ hostW.judge (dc (hc op 0)) = .deny 9 none) ∧
    (∀ op ∈ [0x01, 0x72, 0xB7, 0xE9, 0x50, 0x06, 0x04, 0x66, 0x99, 0x75, 0x7A],
      Takes { hostW with click := { hostW.click with dirA := [] } } (hc op 0) (dc (hc op 0)) ∧
      State.judge { hostW with click := { hostW.click with dirA := [] } } (dc (hc op 0)) = .deny 8 none) ∧
    (hostW.pd 0).wel = true ∧ (hostW.pd 0).lastRec ≠ some hostW.now ∧ hostW.log.fifo.length < 4096 ∧
    DirRec.bareLog { cfg := BitVec.ofNat 32 (2 ^ 20) } = true := by
  unfold Takes; decide +kernel

theorem witness_HostWritesForwarded :
    (∀ op ∈ [0x02, 0x20, 0x52, 0xD8], Takes hostW (hc op 0x20000) (dc (hc op 0x20000)) ∧
      hostW.judge (dc (hc op 0x20000)) = .allow (some (1, winT 32 32 2 15 0xFFFF)) ∧
      hostW.writeTarget 0 32 (winT 32 32 2 15 0xFFFF) = some (1, 0)) ∧
    winAction (winT 32 32 2 15 0xFFFF) ≠ .mailbox ∧ hostW.eyeBad 1 = false ∧ hostW.eyeBusy 1 = false ∧
    (∀ n ∈ [32, 32 + 7, 32 + 15], (hostW.pdRec 0).segmentOf 32 = (hostW.pdRec 0).segmentOf n) ∧
    (∀ op ∈ [0xC0, 0xC1, 0xC2], opRow op = none ∧ Takes hostW (hc op 0x20000) (dc (hc op 0x20000))) ∧
    omDir (dc (hc 0xC0 0)).word = 2 ∧ omDir (dc (hc 0xC1 0)).word = 1 ∧ omDir (dc (hc 0xC2 0)).word = 0 ∧
    hostW.pageExcluded 0 32 = false ∧ OnePage (dc (hc 0xC0 0x20000)) (min (omMaxLen (dc (hc 0xC0 0x20000)).word) 5) ∧
    lateBy 400 (45 * (hostW.eyeRec 1).clock + 1000 * (hostW.eyeRec 1).flashDummy) (hostW.eyeRec 1).clock
      (dc (hc 0xC0 0x20000)).dummy 10 (decide ((hostW.pd 0).mode = 3)) = false ∧
    hostW.judge (dc (hc 0xC0 0x20000)) = .allow (some (1, winT 32 32 2 15 0xFFFF)) ∧
    hostW.judge (dc (hc 0xC1 0)) = .allow none ∧ (tget {} hostW.click.dirA 0).bareEyelet = some 1 := by
  unfold Takes OnePage; decide +kernel

/-- A VENDOR command with an address goes where its window's target lies, one without goes to BARE_EYELET. -/
theorem witness_VendorTarget :
    VendorTarget hostW (hc 0xC0 0x20000) (dc (hc 0xC0 0x20000)) 1 (some 0) ∧
    VendorTarget hostW (hc 0xC1 0) (dc (hc 0xC1 0)) 1 none :=
  ⟨.inl ⟨1, winT 32 32 2 15 0xFFFF, 0, by decide +kernel⟩, .inr ⟨1, by decide +kernel⟩⟩

theorem witness_HostWriteStatus :
    (∀ op ∈ [0x01, 0x72, 0xB7, 0xE9, 0x50], Takes hostW (hc op 0) (dc (hc op 0)) ∧ hostW.judge (dc (hc op 0)) = .allow none) ∧
    hostW.pdPhase 0 ≠ .held ∧ (∀ m < 4, (hostW.pdRec 0).modes.testBit m = true) ∧
    (∀ m < 4, (State.pdRec { hostW with pat := some { patT with pds := [(0, { pdT with modes := 0 })] } } 0).modes.testBit m = false) ∧
    (∀ op ∈ [0xB7, 0xE9, 0x50], Takes hostH (hc op 0) (dc (hc op 0)) ∧ hostH.judge (dc (hc op 0)) = .allow none) ∧
    hostH.pdPhase 0 = .held := by
  unfold Takes; decide +kernel

/-- Eyelet 0 is busy with a program of the presented device and eyelet 1 with none. -/
def hostB : State := { hostW with eyes := [(0, { phase := .ready, busy := some { kind := .program, pd := 0, start := 0 } })] }
/-- Eyelet 0 holds a suspended program of the presented device. -/
def hostP : State :=
  { hostW with eyes := [(0, { phase := .ready, suspended := [{ kind := .program, pd := 0, start := 0 }] }), (1, { phase := .ready })] }
theorem witness_HostBareCommands :
    (∀ op ∈ [0x06, 0x04, 0x66, 0x99, 0x75, 0x7A], Takes hostB (hc op 0) (dc (hc op 0)) ∧ hostB.judge (dc (hc op 0)) = .allow none) ∧
    (hostB.pd 0).armed = true ∧ (host0.pd 0).armed = false ∧ hostB.drives = true ∧ (hostB.eye 0).suspended = [] ∧
    Takes hostP (hc 0x7A 0) (dc (hc 0x7A 0)) ∧ hostP.judge (dc (hc 0x7A 0)) = .allow none ∧ resumesAt hostP 0 0 = true ∧
    (hostP.eye 0).suspended = [{ kind := .program, pd := 0, start := 0 }] := by
  unfold Takes; decide +kernel

/-- Wn_HRST_N of welt 0 is low. -/
def hostR : State := { hostW with welts := [(0, { hrstLow := true })] }
theorem witness_HostResetPin :
    (0 : Fin 64).val < hostW.weltCount ∧ (63 : Fin 64).val < hostW.weltCount ∧ (hostR.welt 0).hrstLow = true ∧
    ReadRow (hc 0x03 0) (rd 1) (.read (hc 0x03 0) (rd 1)) := by
  unfold ReadRow; decide +kernel

theorem witness_ClearsFlagBits :
    Takes hostW (hc 0x50 0) (dc (hc 0x50 0)) ∧ hostW.judge (dc (hc 0x50 0)) = .allow none ∧ hostW.pdPhase 0 ≠ .held ∧
    Takes hostW (hc 0x99 0) (dc (hc 0x99 0)) ∧ hostW.judge (dc (hc 0x99 0)) = .allow none ∧ (hostW.pd 0).armed = true ∧
    (hostR.welt 0).hrstLow = true ∧ 0 < hostR.weltCount ∧ (∀ k ∈ [0, 1], k / 2 ∈ (hostW.platRec 0).welts) := by
  unfold Takes; decide +kernel

/-! ### Eyelets, the sole and custody -/

theorem witness_EyeletService :
    hostB.live = true ∧ hostB.drives = true ∧ (hostB.eye 0).busy = some { kind := .program, pd := 0, start := 0 } ∧
    (hostB.eye 0).polled ≠ some hostB.now ∧ (BitVec.getLsbD (0xFE : Byte) (hostB.eyeRec 0).busyBit) = false ∧
    FwdOp.suspendSent { kind := .program, pd := 0, start := 0 } = false ∧
    FwdOp.suspendSent { kind := .program, pd := 0, start := 0, suspendSent := true } = true ∧
    hostB.eyeRec? 0 = some eyeT ∧ hostB.pair.role ≠ .active ∧
    State.eyeBusy { hostB with eyes := [(0, { phase := .recovery 0 })] } 0 = false := by
  decide +kernel

/-- A refill of page 5 waits in channel 0. -/
def soleQ : State := { host0 with sole := { host0.sole with chans := [(0, { queue := [5] })] } }
/-- Its read runs, its bytes granted and its digest entry read. -/
def soleR (d : Digest) : State :=
  { host0 with sole := { host0.sole with
      chans := [(0, { running := some { page := 5, welt := 0, credit := 4096, digest := some d } })] } }
theorem witness_SoleRefill :
    soleQ.live = true ∧ (soleQ.chan 0).running = none ∧ (soleQ.chan 0).queue = [5] ∧ soleQ.refillSource 5 = some (0, 5) ∧
    soleQ.eyeBad 0 = false ∧ soleQ.eyeBusy 0 = false ∧ host0.pageBound 5 = some 0 ∧ host0.epochKeyOf 0 = some 5 := by
  decide +kernel
theorem witness_SoleRefill_match (d : Digest) :
    (soleR d).live = true ∧
    ((soleR d).chan 0).running = some { page := 5, welt := 0, credit := 4096, digest := some d } ∧
    (soleR d).refillSource 5 = some (0, 5) ∧ (soleR d).eyeBad 0 = false ∧ (soleR d).eyeBusy 0 = false ∧
    sm3 pageT ≠ sm3 pageT + 1 := by
  refine ⟨rfl, rfl, (by decide +kernel : host0.refillSource 5 = some (0, 5)), rfl, rfl, fun h => ?_⟩
  simpa using h.symm

theorem witness_SoleTestAndAperture :
    host0.live = true ∧ (0 : Fin 8).val < host0.chanCount ∧ (7 : Fin 8).val < host0.chanCount ∧ (host0.chan 0).tested = false ∧
    (host0.chan 0).kept = false ∧ host0.persistFrames 0 = [] ∧ (0xFFF : BitVec 28).toNat % 256 + 1 ≤ 256 ∧
    (tget 0 host0.sel 0 % 64 * 2 ^ 28 + (0x1FFF : BitVec 28).toNat) / 4096 = 1 ∧ (host0.chan (pageChan 1)).aperUsed = false ∧
    host0.pageExists 1 = true ∧ host0.pageState 1 = .valid ∧ host0.pageState 2 ≠ .valid ∧
    (State.chan { host0 with sole := { host0.sole with chans := [(0, { aperUsed := true })] } } (pageChan 1)).aperUsed = true ∧
    State.pageExists { host0 with sys := { host0.sys with variant := .tkl1280 } } ((63 * 2 ^ 28 + 5) / 4096) = false := by
  decide +kernel
/-- The aperture gives what mirror page 1 was sealed from, and all-ones of page 2. -/
theorem test_apertureBytes : apertureBytes host0 1 0x1FFF 1 false = [7] ∧ apertureBytes host0 2 0x2000 2 false = [0xFF, 0xFF] := by
  refine ⟨?_, by decide +kernel⟩
  have h : host0.sectorPlain 1 (0x1FFF / 256 % 16) = _ := host0_sector 15 (by decide)
  have v : host0.pageExists 1 = true ∧ host0.pageState 1 = .valid ∧ false = false := by decide +kernel
  rw [apertureBytes, if_pos v, h]
  decide +kernel

/-- The platform is VERIFIED and its boot last LATCHED. -/
def relT : State := { host0 with plats := [(0, { state := .verified })], latches := [(0, { latched := true })] }
theorem witness_ReleaseOnlyAtBoundary :
    relT.live = true ∧ relT.releasable 0 = true ∧ (relT.plat 0).releaseDue = false ∧ (relT.plat 0).state = .verified ∧
    (host0.plat 0).state ≠ .verified := by
  decide +kernel

/-- Platform 0 as given, of a pattern whose platform uses Pn_PWRGD and Pn_DONE. -/
def platS (t : PlatSt) : State :=
  { host0 with pat := some { patT with plats := [(0, { platT with pwrgdUse := true, doneUse := true })] }, plats := [(0, t)] }
theorem witness_PlatformInputs :
    host0.live = true ∧ host0.platOk 0 = true ∧ host0.platOk 63 = true ∧ host0.drives = true ∧
    (platS { state := .running, phase := .boot, hold := false, bootStart := some 0 }).fw = true ∧
    RingFree (platS { state := .running, phase := .boot, hold := false, bootStart := some 0 }) ∧
    (platS {}).drives = true ∧ ((platS {}).platRec 0).doneUse = true ∧
    ((platS {}).platRec 0).bootTimer ≠ 0xFFFFFFFF ∧
    0 + ((platS {}).platRec 0).bootTimer ≤ State.now { platS {} with stitch := { count := 1000 } } := by
  unfold RingFree; decide +kernel

/-- A command block. -/
def blkT (cmd seq len : Nat) : Bytes := natBE 2 0x4D42 ++ natBE 1 cmd ++ natBE 1 seq ++ natBE 2 len ++ fill 58 0
/-- Platform 0 in a phase, with a command block at the head of its queue. -/
def mbT (st : Custody) (ph : Phase) (b : Bytes) : State :=
  { host0 with plats := [(0, { state := st, phase := ph, hold := false, mboxQueue := [(0, b)] })]
               pds := [(0, { mailbox := [(0x80, 0x41)] })] }
theorem witness_MailboxCommands :
    MailboxHead (mbT .running .boot (blkT 1 3 0)) 0 1 0 (blkT 1 3 0) [] ∧ RingFree (mbT .running .boot (blkT 1 3 0)) ∧
    ((mbT .running .boot (blkT 1 3 0)).plat 0).phaseAsked = false ∧
    MailboxHead (mbT .running .runtime (blkT 1 3 0)) 0 1 0 (blkT 1 3 0) [] ∧
    MailboxHead (mbT .held .held (blkT 1 3 0)) 0 1 0 (blkT 1 3 0) [] ∧
    MailboxHead (mbT .held .held (blkT 3 255 0)) 0 3 0 (blkT 3 255 0) [] ∧
    MailboxHead (mbT .running .boot (blkT 4 0 3968)) 0 4 0 (blkT 4 0 3968) [] ∧
    MailboxHead (mbT .running .update (blkT 4 0 1)) 0 4 0 (blkT 4 0 1) [] ∧
    blkOk (blkT 3 0 1) = false ∧ blkCmd (blkT 3 0 1) = 3 := by
  refine ⟨?_, ?_, ?_, ?_, ?_, ?_, ?_, ?_, ?_⟩ <;> (try unfold MailboxHead) <;> (try unfold RingFree) <;> decide +kernel

/-- The small machine's pattern with a slotted boot last. -/
def patS : Pattern :=
  { patT with
    pds := [(0, { pdT with segments := [{ pdStart := 0, pageCount := 32, eyeletA := 0, eyeletB := some 1, flashPageB := 100, solePage := some 0 }] })]
    plats := [(0, { platT with lasts := [{ lastT with pageB := some 200 }] })] }
/-- An activation that has passed its steps 1 to 4. -/
def actT : Activation := { seq := 9, deadline := 50, ready := true, tables := [(0, fill 384 0, [])] }
/-- Platform 0 of the slotted pattern as given. -/
def slotS (t : PlatSt) : State := { host0 with pat := some patS, plats := [(0, t)] }
theorem witness_ActivationFlow :
    (slotS { state := .running, phase := .update, hold := false, act := some actT }).fw = true ∧
    ((slotS { act := some actT }).plat 0).act = some actT ∧ actT.ready = true ∧ actT.committed = false ∧ actT.writeback = false ∧
    (slotS {}).pair.role = .unpaired ∧ (slotS {}).pair.mirrors = [] ∧ (∀ x ∈ actT.tables, hdrClass x.2.1 < 1024) ∧
    actT.deadline ≤ State.now { slotS {} with stitch := { count := 50 } } := by
  decide +kernel
/-- Every byte of a schedule row is 1: each awl has a grant. -/
def actQ : State :=
  { slotS { state := .running, phase := .update, hold := false, lease := some {}, mboxQueue := [(0, blkT 2 7 0)] } with
    stitch := { active := { rows := [fill 1024 0x11] } } }
theorem witness_ActivationFlow_request :
    MailboxHead actQ 0 2 0 (blkT 2 7 0) [] ∧ actQ.hostLease 0 = true ∧ actQ.activateDeadline 0 = some 8624 ∧
    flagActive (actQ.flag 0) = (actQ.plat 0).map ∧ flagRaise (actQ.flag 0) = false := by
  unfold MailboxHead; decide +kernel

/-! ### Fills and the cobbler -/

theorem witness_FillJobStart :
    (slotS {}).mayFill 0 = true ∧ (slotS {}).epochCounter < epochMax ∧ (slotS {}).raiseWaits 0 = false ∧
    State.mayFill { slotS { raiseOwed := true, raised := 1 } with mem := [(0x40050003, 2)] } 0 = true ∧
    State.raiseWaits { slotS { raiseOwed := true, raised := 1 } with mem := [(0x40050003, 2)] } 0 = true ∧
    State.mayFill { slotS {} with mem := (List.range 8).map (fun i => (0x40041008 + i, 0xFF)) } 0 = true ∧
    epochMax ≤ State.epochCounter { slotS {} with mem := (List.range 8).map (fun i => (0x40041008 + i, 0xFF)) } := by
  decide +kernel

/-- A header of a last of two pages with this table digest. -/
def hdrT (d : Digest) : Bytes :=
  natBE 4 0x4C415354 ++ natBE 2 1 ++ natBE 2 0x180 ++ natBE 2 7 ++ fill 2 0 ++ natBE 4 5 ++ natBE 8 1 ++ natBE 1 1 ++ fill 3 0 ++
  fill 4 0 ++ natBE 4 8192 ++ natBE 4 2 ++ digestBytes d ++ fill 64 0x11 ++ fill 184 0 ++ fill 64 0x22
/-- A held platform whose fill job and latch record are given; welt 0's channel is up and its awl has 5,000 bytes of grant. -/
def fillT (f : FillJob) (y : Latch) (dsec : Option (Nat × Bytes) := none) : State :=
  { host0 with
    plats := [(0, { fill := some f })]
    latches := [(0, y)]
    welts := [(0, { credit := 9000, dsec := dsec })]
    sole := { host0.sole with chans := [(0, { up := true, tested := true })] }
    point := { done := [(1, 1)] } }
/-- The header of last 0 has been read and is to be judged at the boundary. -/
def headT (h : Bytes) : State := { fillT { cur := some 0 } { stage := .header, header := h, formatOk := true } with point := {} }
theorem witness_LastVerification_header :
    HeaderDue (fillT { todo := [0] } {}) 0 lastT { todo := [0] } ∧ (hdrT 3).length = 384 ∧
    (headT (hdrT 3)).headerChecks lastT (sourceEyelet lastT ((headT (hdrT 3)).lastSegment lastT) ((headT (hdrT 3)).latch 0).source)
      ((headT (hdrT 3)).latch 0).header = none ∧
    (headT (fill 384 0)).headerChecks lastT (sourceEyelet lastT ((headT (hdrT 3)).lastSegment lastT)
      ((headT (fill 384 0)).latch 0).source) ((headT (fill 384 0)).latch 0).header = some Code.lastFormatBad := by
  unfold HeaderDue; decide +kernel
/-- The point engine has run for a raise that last 0 of the platform still owes. -/
def raisingT : State := {
  fillT { cur := some 0 } {} with
  plats := [(0, { fill := some { cur := some 0 }, raiseOwed := true, raising := some (0, hdrT 3) })]
  point := { ops := [{ owner := 1, ident := 0, steps := 0, total := 167 }] } }
theorem witness_LastVerification_raising :
    raisingT.live = true ∧ raisingT.opDone 1 0 = true ∧ (raisingT.plat (0 / 16)).raising = some (0 % 16, hdrT 3) ∧
    raisingT.signerChecks (0 / 16) (hdrT 3) ≠ none ∧ hdrClass (hdrT 3) < 1024 ∧
    (sm2Ok (hdrKey (hdrT 3)) ((hdrT 3).take 320) (hdrSig (hdrT 3)) = true →
      State.signerChecks { raisingT with
        pat := some { patT with plats := [(0, { platT with anchors := [sm3 (hdrKey (hdrT 3))] })] } } (0 / 16) (hdrT 3) = none) := by
  refine ⟨rfl, by decide +kernel, by decide +kernel, by decide +kernel, by decide +kernel, fun h => ?_⟩
  simpa [State.signerChecks, State.platRec, State.platRec?, tfind] using h
/-- The latch record of a header read. -/
def yT (st : LatchStage) (d : Digest) : Latch := { stage := st, header := hdrT d, formatOk := true, verdict := st ≠ .signature }
theorem witness_LastVerification_signer :
    (fillT { cur := some 0 } (yT .signature 3)).live = true ∧
    State.opDone { fillT { cur := some 0 } (yT .signature 3) with point := { ops := [{ owner := 1, ident := 0, steps := 0, total := 167 }] } }
      1 0 = true ∧
    ((fillT { cur := some 0 } (yT .signature 3)).plat (0 / 16)).raising = none ∧
    ((fillT { cur := some 0 } (yT .signature 3)).latch 0).stage = .signature := by
  decide +kernel
/-- A signer that no anchor of the platform names fails; an anchored one passes where the open SM2 verification says so. -/
theorem witness_LastVerification_anchor :
    (fillT { cur := some 0 } (yT .signature 3)).signerChecks 0 (hdrT 3) = some Code.lastAnchorUnknown ∧
    (sm2Ok (hdrKey (hdrT 3)) ((hdrT 3).take 320) (hdrSig (hdrT 3)) = true →
      State.signerChecks { host0 with
        pat := some { patT with plats := [(0, { platT with anchors := [sm3 (hdrKey (hdrT 3))] })] } } 0 (hdrT 3) = none) := by
  refine ⟨by simp [State.signerChecks, State.platRec, State.platRec?, tfind, fillT, host0, patT, platT], fun h => ?_⟩
  simpa [State.signerChecks, State.platRec, State.platRec?, tfind] using h
/-- A table of two digests, and the header that names its digest or another. -/
def tableT : Bytes := fill 64 0x33
theorem witness_LastVerification_table :
    (fillT { cur := some 0 } (yT .table (sm3 tableT))).lastEntry? 0 = some lastT ∧
    ((fillT { cur := some 0 } (yT .table (sm3 tableT))).plat 0).fill = some { cur := some 0 } ∧
    (fillT { cur := some 0 } (yT .table (sm3 tableT))).eyeBad 0 = false ∧
    (fillT { cur := some 0 } (yT .table (sm3 tableT))).eyeReady 0 = true ∧
    tableT.length ≤ ((fillT { cur := some 0 } (yT .table (sm3 tableT))).welt 0).credit := by
  decide +kernel
theorem hdrT_fields (d : Digest) : hdrTable (hdrT d) = d ∧ hdrPages (hdrT d) = 2 ∧ (hdrT d).length = 384 := by
  have h : hdrT d = (natBE 4 0x4C415354 ++ natBE 2 1 ++ natBE 2 0x180 ++ natBE 2 7 ++ fill 2 0 ++ natBE 4 5 ++ natBE 8 1 ++
      natBE 1 1 ++ fill 3 0 ++ fill 4 0 ++ natBE 4 8192 ++ natBE 4 2) ++ (digestBytes d ++ (fill 64 0x11 ++ fill 184 0 ++
      fill 64 0x22)) := by simp only [hdrT, List.append_assoc]
  refine ⟨?_, rfl, by simp only [hdrT, List.length_append, natBE_length, fill, List.length_replicate, digestBytes]⟩
  rw [hdrTable, h, bytesAt_append _ _ _ 40 32 (by rfl) (by simp [digestBytes]), digestOfBytes_digestBytes]
theorem witness_LastVerification_digest :
    tableT.length = 32 * hdrPages (hdrT (sm3 tableT)) ∧ sm3 tableT = hdrTable (hdrT (sm3 tableT)) ∧
    sm3 tableT ≠ hdrTable (hdrT (sm3 tableT + 1)) := by
  simp only [hdrT_fields]
  exact ⟨rfl, trivial, fun e => by simpa using e.symm⟩

/-- A digest sector whose second entry is that of `pageT`. -/
def secT : Bytes := fill 32 0 ++ (digestBytes (sm3 pageT) ++ fill 192 0)
theorem secT_entry : digestEntry 1 secT = sm3 pageT := by
  rw [digestEntry, secT, bytesAt_append _ _ _ _ _ (by simp [fill]) (by simp [digestBytes]), digestOfBytes_digestBytes]
/-- The fill of last 0 is at page 1 of its two, whose digest entry is held. -/
def judgeT : State := fillT { cur := some 0, pages := [1] } (yT .pages 3) (some (0, secT))
theorem witness_PageJudgement :
    judgeT.live = true ∧ judgeT.lastEntry? 0 = some lastT ∧ (judgeT.plat 0).fill = some { cur := some 0, pages := [1] } ∧
    judgeT.eyeBad 0 = false ∧ judgeT.eyeReady 0 = true ∧ 4096 ≤ (judgeT.welt 0).credit ∧ (judgeT.welt 0).buf.length < 2 ∧
    sourceEyelet lastT (judgeT.lastSegment lastT) (judgeT.latch 0).source = (0, 0) ∧
    (judgeT.page ((judgeT.lastSegment lastT).solePage.getD 0 + 1)).noFrame = false := by
  decide +kernel
theorem witness_PageJudgement_digest :
    judgeT.heldDigest 0 ((judgeT.lastSegment lastT).solePage.getD 0 + 1) = some (sm3 pageT) :=
  congrArg some secT_entry
theorem witness_PageJudgement_length : pageT.length = 4096 := by decide +kernel
/-- The page waits with one sector left, in a stitch whose schedule gives its channel a FILL slot. -/
def sealT : State := {
  judgeT with
  welts := [(0, { buf := [{ last := 0, page := 1, mirror := 1, data := pageT, left := 1 }] })]
  stitch := { active := { rows := [fill 64 0] } } }
theorem witness_PageJudgement_sealed :
    sealT.live = true ∧ (sealT.welt 0).unsealed = some { last := 0, page := 1, mirror := 1, data := pageT, left := 1 } ∧
    ((sealT.soleWrites (fun _ => [])).welt 0).unsealed.map (·.left) = some 0 ∧ sealT.pageBound 1 = some 0 ∧
    sealT.epochKeyOf 0 = some 5 := by
  refine ⟨rfl, rfl, by decide +kernel, by decide +kernel, by decide +kernel⟩
theorem witness_PageJudgement_latch :
    let s := fillT { cur := some 0 } { stage := .pages, header := hdrT 3, verdict := true, tableOk := some true
                                       matched := [(0, true), (1, true)], written := [(0, true), (1, true)] }
    (s.latch 0).latched = false ∧ ((s.tryLatch 0).latch 0).latched = true := by
  decide +kernel

/-- A recovering platform with a failed entry 0 in the cobbler's queue, whose B side has a good eyelet. -/
def cobQ : State :=
  { slotS { state := .recovering, cobQueue := [0] } with eyes := [(0, { phase := .ready }), (1, { phase := .ready })] }
theorem witness_CobblerJobs_start :
    cobQ.fw = true ∧ cobQ.drives = true ∧ cobQ.env.cleared = false ∧ (cobQ.plat 0).cob = none ∧ (cobQ.platRec 0).cobblerEn = true ∧
    cobQ.lastEntry? 0 = some { lastT with pageB := some 200 } ∧
    cobQ.eyeBad (cobQ.cobTargetEye 0 { entry := 0 } { lastT with pageB := some 200 }).1 = false ∧ cobQ.journalled 0 0 = none ∧
    cobQ.opOf 2 0 = none ∧ cobQ.cobHas 0 { entry := 0 } { lastT with pageB := some 200 } 0 = true ∧
    State.eyeBad { cobQ with eyes := [(0, { retired := true })] }
      (cobQ.cobTargetEye 0 { entry := 0 } { lastT with pageB := some 200 }).1 = true := by
  decide +kernel
/-- A job of a held platform. -/
def cobT (j : CobJob) (y : Latch := {}) : State :=
  { slotS { state := .recovering, cob := some j } with
    latches := [(0, y)], point := { ops := [{ owner := 2, ident := 0, steps := 0, total := 167 }] }
    eyes := [(0, { phase := .ready }), (1, { phase := .ready })] }
/-- The slotted last. -/
def lastS : LastEntry := { lastT with pageB := some 200 }
theorem witness_CobblerJobs_wait :
    CobJobAt (cobT { waiting := some 0, orders := [2] }) 0 { waiting := some 0, orders := [2] } lastS ∧
    0 + ((cobT {}).platRec 0).recoveryWait ≤ State.now { cobT {} with stitch := { count := 1000 } } := by
  unfold CobJobAt; decide +kernel
/-- A source of two pages on eyelet 1 (slot B). -/
def hdrB (d : Digest) : Bytes := (hdrT d).take 24 ++ natBE 1 2 ++ fill 3 0 ++ natBE 4 (4096 * 100) ++ (hdrT d).drop 32
/-- Its platform has its quarter's turn, and no point-engine operation runs for it unless `ops` says so. -/
def srcS (j : CobJob) (y : Latch := {}) (ops : Bool := true) : State := {
  cobT j y with
  cobTurn := [(0, 1)]
  point := if ops then (cobT j y).point else {}
  stitch := { active := { rows := [fill 64 0xFF] } } }
theorem witness_CobblerJobs_header :
    CobJobAt (srcS { credit := 448 }) 0 { credit := 448 } lastS ∧ SourceOpen (srcS { credit := 448 }) 0 { credit := 448 } lastS ∧
    CobJob.header { credit := 448 } = [] ∧ (hdrB 3).length = 384 ∧ 384 ≤ CobJob.credit { credit := 448 } := by
  unfold CobJobAt SourceOpen; decide +kernel
/-- The header of its source has been read. -/
def cobH (h : Bytes) : CobJob := { credit := 64, header := h }
theorem witness_CobblerJobs_verify :
    CobJobAt (srcS (cobH (hdrB 3)) {} false) 0 (cobH (hdrB 3)) lastS ∧ (cobH (hdrB 3)).header ≠ [] ∧
    (srcS (cobH (hdrB 3)) {} false).opOf 2 0 = none ∧
    (srcS (cobH (hdrB 3)) {} false).headerChecks lastS (sourceEyelet lastS ((srcS (cobH (hdrB 3)) {} false).lastSegment lastS)
      ((srcS (cobH (hdrB 3)) {} false).cobSource 0 (cobH (hdrB 3)) 0)) (hdrB 3) = none ∧
    CobJobAt (srcS (cobH (fill 384 0)) {} false) 0 (cobH (fill 384 0)) lastS ∧
    (srcS (cobH (fill 384 0)) {} false).headerChecks lastS (sourceEyelet lastS
      ((srcS (cobH (fill 384 0)) {} false).lastSegment lastS) ((srcS (cobH (fill 384 0)) {} false).cobSource 0 (cobH (fill 384 0)) 0))
      (fill 384 0) ≠ none := by
  unfold CobJobAt; decide +kernel
theorem witness_CobblerJobs_signer :
    CobJobAt (srcS (cobH (hdrB 3))) 0 (cobH (hdrB 3)) lastS ∧ SourceOpen (srcS (cobH (hdrB 3))) 0 (cobH (hdrB 3)) lastS ∧
    (srcS (cobH (hdrB 3))).opDone 2 0 = true := by
  unfold CobJobAt SourceOpen; decide +kernel
/-- Its checks 8 and 9 have passed. -/
def cobG (h : Bytes) : CobJob := { credit := 64, header := h, signed := true }
/-- The failing last's record for a page repair. -/
def againT (h : Bytes) : Latch := { header := h, verdict := true, tableOk := some true, bad := [1] }
theorem witness_CobblerJobs_source :
    CobJobAt (srcS (cobG (hdrB 3))) 0 (cobG (hdrB 3)) lastS ∧ SourceOpen (srcS (cobG (hdrB 3))) 0 (cobG (hdrB 3)) lastS ∧
    (cobG (hdrB 3)).header ≠ [] ∧ tableT.length = 32 * hdrPages (hdrB 3) ∧ tableT.length ≤ (cobG (hdrB 3)).credit ∧
    (srcS (cobG (hdrB 3)) (againT (hdrB 3))).pageRepair 0 (hdrB 3) = true ∧
    (srcS (cobG (hdrB 3)) (againT (hdrB 3))).againPages 0 0 = [1] ∧
    (srcS (cobG (hdrB 3))).pageRepair 0 (hdrB 3) = false ∧ (srcS (cobG (hdrB 3))).epochCounter < epochMax ∧
    epochMax ≤ State.epochCounter { srcS (cobG (hdrB 3)) with mem := (List.range 8).map (fun i => (0x40041008 + i, 0xFF)) } := by
  unfold CobJobAt SourceOpen; decide +kernel
theorem witness_CobblerJobs_digest : sm3 tableT = hdrTable (hdrB (sm3 tableT)) ∧ sm3 tableT ≠ hdrTable (hdrB (sm3 tableT)) + 1 := by
  have h : hdrB (sm3 tableT) = ((hdrT (sm3 tableT)).take 24 ++ natBE 1 2 ++ fill 3 0 ++ natBE 4 (4096 * 100) ++
      natBE 4 8192 ++ natBE 4 2) ++ (digestBytes (sm3 tableT) ++ (fill 64 0x11 ++ fill 184 0 ++ fill 64 0x22)) := rfl
  have e : hdrTable (hdrB (sm3 tableT)) = sm3 tableT := by
    rw [hdrTable, h, bytesAt_append _ _ _ 40 32 (by rfl) (by simp [digestBytes]), digestOfBytes_digestBytes]
  rw [e]
  exact ⟨rfl, fun e => by simpa using e.symm⟩
/-- A job whose rewritten area has been read back. -/
def backT : CobJob := { verified := true, checking := true, whole := true, pages := [0, 1], areaBack := hdrT 3 ++ fill 8192 1 }
theorem witness_CobblerJobs_checking :
    CobJobAt (srcS backT) 0 backT lastS ∧ (srcS backT).opDone 2 0 = true ∧ (srcS backT).signerChecks 0 backT.backHeader ≠ none := by
  exact ⟨⟨rfl, rfl, rfl, rfl, rfl⟩, by decide +kernel, by decide +kernel⟩
theorem witness_CobblerJobs_writeback :
    let s := { slotS { state := .held, writeback := some { mask := 1 } } with stitch := { count := 7 } }
    s.fw = true ∧ s.drives = true ∧ s.env.cleared = false ∧ (s.plat 0).cob = none ∧ (s.plat 0).waitingLost = [] ∧
    (s.plat 0).act = none ∧ (s.plat 0).fill = none ∧ (s.plat 0).map = flagActive (s.flag 0) ∧ s.maskEntries 0 1 = [lastS] := by
  decide +kernel

/-- A verified job that rewrites page 1 and then page 0 of the failing last. -/
def stepT (step : CobStep) : CobJob := { verified := true, step := step, pages := [1, 0], credit := 4096, data := pageT, want := sm3 pageT }
/-- Its platform has its quarter's turn. -/
def stepS (j : CobJob) : State := {
  cobT j with
  cobTurn := [(0, 1)]
  stitch := { active := { rows := [fill 64 0xFF] } }
  sole := { host0.sole with raw := placeT (digestBase 0 0) (sm4Seal 5 (soleNonce 3 1 0 0 0) (soleAad 0 0 0) secT) } }
theorem witness_CobblerSteps :
    (∀ st ∈ [CobStep.read, .erase, .program, .check], CobJobAt (stepS (stepT st)) 0 (stepT st) lastS ∧
      (stepS (stepT st)).cobTurnOf 0 lastS = true) ∧
    (∀ st ∈ [CobStep.read, .erase, .program, .check], lastS.mayWrite ((stepS (stepT st)).cobPlace 0 (stepT st) lastS).1 = true ∧
      (stepS (stepT st)).eyeBusy ((stepS (stepT st)).cobPlace 0 (stepT st) lastS).1 = false ∧
      (stepS (stepT st)).eyeBad ((stepS (stepT st)).cobPlace 0 (stepT st) lastS).1 = false ∧
      (stepS (stepT st)).eyeReady ((stepS (stepT st)).cobPlace 0 (stepT st) lastS).1 = true) ∧
    (stepS (stepT .read)).eyeBad (cobFrom (stepS (stepT .read)) 0 (stepT .read) lastS) = false ∧
    (stepS (stepT .read)).eyeReady (cobFrom (stepS (stepT .read)) 0 (stepT .read) lastS) = true ∧
    RingFree (stepS (stepT .check)) := by
  unfold CobJobAt RingFree
  refine ⟨?_, by decide +kernel, by decide +kernel, by decide +kernel, by decide +kernel⟩
  intro st hst
  simp only [List.mem_cons, List.not_mem_nil, or_false] at hst
  rcases hst with rfl | rfl | rfl | rfl <;> exact ⟨⟨rfl, rfl, rfl, rfl, rfl⟩, rfl⟩
/-- The entry of the page's digest sector judges a page repair. -/
theorem witness_CobblerSteps_digest :
    (stepS (stepT .read)).cobWant 0 lastS (stepT .read) 1 = sm3 pageT ∧ sm3 pageT = (stepT .check).want ∧
    sm3 pageT ≠ sm3 pageT + 1 := by
  have len : secT.length = 256 := by
    simp only [secT, fill, digestBytes, List.length_append, List.length_replicate, natBE_length]
  have h : (stepS (stepT .read)).pageDigest 1 = some (digestEntry 1 secT) := by
    refine Laws.pageDigest_of_raw _ 1 0 5 secT (by decide +kernel) (by decide +kernel) ?_
    refine Eq.trans (readN_placeT 0 _ (digestBase 0 0) 272 (Nat.le_of_eq (by rw [sm4Seal_length, len]))) ?_
    exact List.take_of_length_le (Nat.le_of_eq (by rw [sm4Seal_length, len]))
  refine ⟨?_, rfl, fun e => by simpa using e.symm⟩
  rw [State.cobWant, if_neg (by decide), if_neg (by decide), if_neg (by decide)]
  rw [show (((stepS (stepT .read)).lastSegment lastS).solePage.getD 0 + 1) = 1 from by decide +kernel, h, secT_entry]
  rfl

/-! ### The heel -/

/-- A state with one request at HEAD. -/
def ask (s : State) (req : Nat) (args : Bytes) : State :=
  { s with heel := { s.heel with ring := [(0, { state := 1, req := req, args := fit 16 0 args })], tail := 1 } }
/-- That request. -/
def ent (req : Nat) (args : Bytes) : RingEntry := { state := 1, req := req, args := fit 16 0 args }
/-- Platform 0 with RUNTIME_LOSS, EXCLUDE and PHASE open as the pattern's bits say. -/
def heelP (f : PlatRec) (t : PlatSt) : State := { host0 with pat := some { patT with plats := [(0, f)] }, plats := [(0, t)] }

theorem witness_HeelHoldsAndRetires_hold :
    (∀ r < 4, AtHead (ask host0 0x01 [0, BitVec.ofNat 8 r]) 0x01 2 (ent 0x01 [0, BitVec.ofNat 8 r])) ∧
    host0.platArg 0 = true ∧ host0.platArg 64 = false ∧ (host0.platRec 0).adapterHold = true ∧ (host0.ahead 0).1 = .running ∧
    ((heelP { platT with adapterHold := false } {}).platRec 0).adapterHold = false ∧
    State.hasLost { heelP { platT with runtimeLossHold := true } { state := .running } with
      sole := { pages := [(1, { state := .lost })] } } 0 = true ∧
    ((heelP { platT with runtimeLossHold := true } {}).platRec 0).runtimeLossHold = true ∧ host0.hasLost 0 = false ∧
    0 ∈ State.changedPlats { host0 with patNext := some { patT with plats := [(0, { platT with anchors := [1] })] } } ∧
    0 ∉ host0.changedPlats ∧ (State.ahead { host0 with plats := [(0, { state := .retired })] } 0).1 = .retired := by
  unfold AtHead AtHeadAny; decide +kernel
theorem witness_HeelHoldsAndRetires_platform :
    AtHead (ask host0 0x02 [0, 1]) 0x02 2 (ent 0x02 [0, 1]) ∧ AtHead (ask host0 0x02 [0, 2]) 0x02 2 (ent 0x02 [0, 2]) ∧
    (∀ n ∈ (host0.platRec 0).welts, (State.welt { host0 with welts := [(0, { retired := true })] } n).retired = true) ∧
    .retireWelt 0 ∈ ({ host0 with deferred := [.retireWelt 0] } : State).deferred ∧
    0 ∈ (host0.platRec 0).welts ∧ (host0.welt 0).retired = false ∧ .retireWelt 0 ∉ host0.deferred := by
  unfold AtHead AtHeadAny; decide +kernel
/-- Frame 5 of channel 0, eyelet 1, welt 0 and lace port 3 are permanent faults. -/
def permT : State := { host0 with
  env := { faults := [(faultKey 0 1, { permanent := true }), (faultKey 1 0, { permanent := true }), (faultKey 3 3, { permanent := true })] }
  sole := { host0.sole with chans := [(0, { permanent := [5] })] } }
theorem witness_HeelHoldsAndRetires_channel :
    AtHead (ask permT 0x08 (natBE 1 1 ++ natBE 4 1)) 0x08 5 (ent 0x08 (natBE 1 1 ++ natBE 4 1)) ∧
    0 < permT.chanCount ∧ permT.badFrame 5 = some 5 ∧ permT.badFrame 6 = none ∧ permT.eyeRec? 1 ≠ none ∧ permT.eyeRec? 2 = none ∧ permT.weltBound 0 = true ∧
    permT.weltBound 1 = false ∧ (permT.fault 0 1).permanent = true ∧ (permT.fault 0 0).permanent = false ∧
    (permT.fault 1 0).permanent = true ∧ permT.fitPartner = false ∧ (permT.fault 3 3).permanent = true := by
  unfold AtHead AtHeadAny; decide +kernel

theorem witness_HeelCustodyRequests_phase :
    AtHead (ask host0 0x03 [0, 2]) 0x03 2 (ent 0x03 [0, 2]) ∧ AtHead (ask host0 0x03 [0, 3]) 0x03 2 (ent 0x03 [0, 3]) ∧
    State.ahead { host0 with plats := [(0, { state := .running, phase := .boot })] } 0 = (.running, .boot) ∧
    PlatSt.eventSeen { doneSeen := true } = true ∧ PlatSt.eventSeen {} = false ∧ host0.ahead 0 = (.running, .runtime) ∧
    (host0.platRec 0).updateEn = true ∧ (host0.plat 0).lease = none ∧
    State.ahead { host0 with plats := [(0, { state := .running, phase := .update })] } 0 = (.running, .update) ∧
    (State.ahead { host0 with plats := [] } 0).1 ≠ .running := by
  unfold AtHead AtHeadAny; decide +kernel
/-- A PHASE request for UPDATE that carries out the host's UPDATE_OPEN under lease number 7. -/
def leasedT (en : Bool) : State :=
  let s := heelP { platT with updateEn := en } { state := .running, phase := .runtime, hold := false
                                                 lease := some { holder := .host, number := 7 } }
  { s with heel := { s.heel with ring := [(0, { state := 1, req := 3, args := fit 16 0 [0, 3], lease := 7 })], tail := 1 } }
theorem witness_HeelCustodyRequests_lease :
    (∀ b, AtHeadAny (leasedT b) 0x03 2 { state := 1, req := 3, args := fit 16 0 [0, 3], lease := 7 } ∧
      (leasedT b).platArg 0 = true ∧ (leasedT b).ahead 0 = (.running, .runtime) ∧
      ((leasedT b).platRec 0).updateEn = b ∧
      leaseOpen (leasedT b) 0 { state := 1, req := 3, args := fit 16 0 [0, 3], lease := 7 } = true) ∧
    leaseOpen (leasedT true) 0 (ent 3 [0, 3]) = false := by
  unfold AtHeadAny; decide +kernel
theorem witness_HeelCustodyRequests_boundary :
    (host0.plat 0).hold = false ∧ (State.plat { host0 with plats := [] } 0).hold = true ∧ (host0.latch (16 * 0 + 0)).tableRead = false ∧
    (host0.plat 0).fill = none := by
  decide +kernel
theorem witness_HeelCustodyRequests_slotMap :
    AtHead (ask host0 0x04 [0]) 0x04 1 (ent 0x04 [0]) ∧ State.holdAhead { host0 with plats := [] } 0 = true ∧
    host0.holdAhead 0 = false := by
  unfold AtHead AtHeadAny; decide +kernel
theorem witness_HeelCustodyRequests_exclude :
    let s := { heelP { platT with cobblerEn := false, runDegraded := true } { state := .held } with latches := [(0, { stage := .failed })] }
    AtHead (ask s 0x05 [0, 0]) 0x05 2 (ent 0x05 [0, 0]) ∧ (∃ x ∈ s.bootSet 0, x.entry = 0) ∧ (∃ x ∈ (s.platRec 0).lasts, x.entry = 0) ∧
    s.entryFailed 0 0 = true ∧ (s.platRec 0).cobblerEn = false ∧ (s.platRec 0).runDegraded = true ∧ host0.entryFailed 0 0 = false ∧
    ((heelP { platT with cobblerEn := false } {}).platRec 0).runDegraded = false := by
  unfold AtHead AtHeadAny; decide +kernel
theorem witness_HeelCustodyRequests_fill :
    AtHead (ask host0 0x06 [0, 0]) 0x06 2 (ent 0x06 [0, 0]) ∧ (host0.platRec 0).lasts.find? (fun y => y.entry = 0) = some lastT ∧
    State.entryEmpty { host0 with sole := {} } lastT = true ∧ host0.entryEmpty lastT = false ∧
    (State.ahead host0 0).1 ∈ [.verified, .released, .running] ∧
    (State.ahead { host0 with plats := [] } 0).1 ∉ [.verified, .released, .running] := by
  unfold AtHead AtHeadAny; decide +kernel

/-- A pattern waits for its table switch. -/
def nextT : State := { host0 with patNext := some patT }
theorem witness_HeelResetsAndSwitch :
    AtHead (ask host0 0x09 []) 0x09 0 (ent 0x09 []) ∧ AtHead (ask host0 0x0A []) 0x0A 0 (ent 0x0A []) ∧
    AtHead (ask nextT 0x07 []) 0x07 0 (ent 0x07 []) ∧ AtHead (ask host0 0x0B []) 0x0B 0 (ent 0x0B []) ∧
    host0.mayDeviceReset = false ∧ State.mayDeviceReset { host0 with boot := { stage := .rescue }, plats := [] } = true ∧
    host0.patNext = none ∧ nextT.patNext ≠ none ∧ nextT.heel.switchAsked = none ∧ nextT.ledgerBusy = false ∧
    .tableSwitch ∉ nextT.deferred ∧
    State.trial { host0 with mem := [(bootStateAddr + 3, 4)] } = true ∧ host0.trial = false ∧
    host0.now < 5 ∧ 5 ≤ State.now { host0 with stitch := { count := 5 } } ∧ host0.live = true ∧
    State.ledgerBusy { nextT with heel := { nextT.heel with switchAsked := some 0 } } = false := by
  unfold AtHead AtHeadAny; decide +kernel
/-- On trial with no settings committed, every channel tested. -/
def trialT : State := {
  host0 with
  mem := [(bootStateAddr + 3, 4)]
  boot := { stage := .running, deadline := some 5 }
  sole := { host0.sole with chans := (List.range 8).map (fun c => (c, { tested := true, up := true })) } }
theorem witness_HeelResetsAndSwitch_confirm :
    RingFree trialT ∧ trialT.trial = true ∧ trialT.boot.deadline = some 5 ∧ trialT.now < 5 ∧ trialT.settingsParsed = true ∧
    trialT.pat.isSome = true ∧ trialT.selfTested = true ∧ trialT.asked (fun e => e.req = 0x0B) = false := by
  unfold RingFree; decide +kernel

/-- Settings area 1 holds one byte 0xAB whose SM3 is `d`. -/
def setT (d : Digest) : State :=
  { host0 with
    boot := { stage := .running, writable := 1 }
    mem := [(0x40081000, 0x53), (0x40081001, 0x45), (0x40081002, 0x54), (0x40081003, 0x47), (0x40081013, 1)] ++
      (digestBytes d).zipIdx.map (fun x => (0x40081018 + x.2, x.1)) ++ [(0x40081040, 0xAB)] }
/-- A SETTINGS_COMMIT of an area whose digest agrees, where SM3 of its one byte is the open value 5. -/
theorem witness_HeelFirmwareRequests_settings :
    AtHead (ask (setT 5) 0x0C [1]) 0x0C 1 (ent 0x0C [1]) ∧
    (sm3 [0xAB] = 5 → (ask (setT 5) 0x0C [1]).aheadWork.settingsOk 1 = true) ∧
    (ask host0 0x0C [3]).aheadWork.settingsOk 3 = false := by
  refine ⟨by unfold AtHead AtHeadAny; decide +kernel, fun h => ?_, by decide +kernel⟩
  have e : (ask (setT 5) 0x0C [1]).aheadWork = ask (setT 5) 0x0C [1] := rfl
  have b : (ask (setT 5) 0x0C [1]).bytes (settingsArea 1 + 64) 1 = [0xAB] := by decide +kernel
  have n : fieldAt ((ask (setT 5) 0x0C [1]).bytes (settingsArea 1) 64) 16 4 = 1 := by decide +kernel
  have d : digestOfBytes (bytesAt ((ask (setT 5) 0x0C [1]).bytes (settingsArea 1) 64) 24 32) = 5 := by decide +kernel
  rw [e, State.settingsOk]
  simp only [n, b, d, h]
  decide +kernel
/-- A whole, closed FIRMWARE lease. -/
def leaseT : TargetLease := { length := 4096, next := 4096, closing := some (⟨1, 2, 0x42⟩, false, 9) }
theorem witness_HeelFirmwareRequests_staged :
    AtHead (ask host0 0x0D [0]) 0x0D 1 (ent 0x0D [0]) ∧ AtHead (ask host0 0x0D [1]) 0x0D 1 (ent 0x0D [1]) ∧
    leaseT.closing ≠ none ∧ leaseT.length ≤ leaseT.next ∧ host0.boot.fw = none := by
  unfold AtHead AtHeadAny; decide +kernel
theorem witness_HeelFirmwareRequests_flag :
    AtHead (ask host0 0x0E (natBE 4 65540)) 0x0E 4 (ent 0x0E (natBE 4 65540)) ∧
    (∀ v ∈ [65540, 65543], bitsOf v 15 3 = 0 ∧ bitsOf v 31 16 = (bitsOf (ask host0 0x0E []).aheadWork.patFlag 31 16 + 1) % 65536) ∧
    bitsOf 0x20004 31 16 ≠ (bitsOf (ask host0 0x0E []).aheadWork.patFlag 31 16 + 1) % 65536 := by
  unfold AtHead AtHeadAny; decide +kernel
/-- A copy of pattern slot A is open, its first unit copied. -/
def copyT : State := { host0 with mem := [(copyJournalAddr, 0xA5), (copyJournalAddr + 1, 2), (copyJournalAddr + 5, 128), (copyJournalAddr + 7, 1)] }
theorem witness_HeelFirmwareRequests_journal :
    (∀ a ∈ [natBE 1 0 ++ natBE 1 2 ++ natBE 2 1, natBE 1 0 ++ natBE 1 4 ++ natBE 2 128, natBE 1 1 ++ fill 3 0 ++ natBE 2 2,
        natBE 1 1 ++ fill 3 0 ++ natBE 2 3, [3]],
      AtHead (ask copyT 0x0F a) 0x0F 16 (ent 0x0F a) ∧ fieldAt (fit 16 0 a) 6 2 = 0) ∧
    (ask copyT 0x0F []).aheadWork.copyOpen = true ∧ (ask host0 0x0F []).aheadWork.copyOpen = false ∧
    2 ≤ (ask copyT 0x0F []).aheadWork.copyTarget ∧ (ask copyT 0x0F []).aheadWork.copyNext + 1 = 2 := by
  unfold AtHead AtHeadAny; decide +kernel
/-- PATTERN_PARAMS of the waiting pattern. -/
def parT (period : Nat) : Bytes := natBE 4 period ++ natBE 1 1 ++ natBE 1 0 ++ natBE 8 0
/-- A pattern of that heel period waits. -/
def parS (period : Nat) : State := { host0 with patNext := some { patT with device := { patT.device with heelPeriod := period } } }
theorem witness_HeelFirmwareRequests_params :
    (∀ v ∈ [1000, 60000000, 999, 60000001], AtHead (ask (parS v) 0x11 (parT v)) 0x11 14 (ent 0x11 (parT v)) ∧
      fieldAt (ent 0x11 (parT v)).args 0 4 = v ∧ fieldAt (ent 0x11 (parT v)).args 4 1 ∈ [0, 1, 3] ∧
      fieldAt (ent 0x11 (parT v)).args 6 8 = maskOf ((patT.plats.filter (fun x => x.2.runBlind)).map Prod.fst)) ∧
    host0.periodMax = 60000000 ∧ host0.minTamper.code ≤ 1 ∧
    1 < (State.minTamper { host0 with fuse := { shadow := [(147, { firmA := 3, weakA := 3 })] } }).code := by
  unfold AtHead AtHeadAny; decide +kernel
theorem witness_HeelFirmwareRequests_quiesce :
    (∀ m ∈ [0, 1], AtHead (ask { host0 with plats := [] } 0x13 (natBE 1 m ++ fill 3 0 ++ natBE 4 1000)) 0x13 8
      (ent 0x13 (natBE 1 m ++ fill 3 0 ++ natBE 4 1000))) ∧
    (∀ b, State.quiesceOk { host0 with plats := [] } b 1000 = none ∧ State.quiesceOk { host0 with plats := [] } b 999 = some Code.heelRequestBad ∧
      host0.quiesceOk b 1000 = some Code.phaseRefused ∧
      State.quiesceOk { host0 with plats := [], boot := { fw := some {} } } b 1000 = some Code.busy ∧
      State.quiesceDue { host0 with deferred := [.quiesce b 1000] } = true) ∧ host0.quiesceDue = false ∧ host0.trial = false := by
  unfold AtHead AtHeadAny; decide +kernel

/-- HEAD is next after TAIL. -/
def fullT : State := { host0 with heel := { head := 1 } }
theorem witness_HeelRing :
    host0.live = true ∧ BitVec.toNat (1 : Word) = (host0.heel.tail + 1) % 64 ∧ BitVec.toNat (1 : Word) ≠ host0.heel.head ∧
    BitVec.toNat (0 : Word) = ((State.heel { host0 with heel := { tail := 63, head := 5 } }).tail + 1) % 64 ∧
    BitVec.toNat (1 : Word) = fullT.heel.head ∧ BitVec.toNat (0 : Word) ≠ (host0.heel.tail + 1) % 64 ∧ host0.fw = true ∧
    (∀ i ∈ [0, 63], State.ringPosted { host0 with heel := { head := 63, tail := 1 } } i = true ∧ host0.ringPosted i = false) := by
  decide +kernel

/-- The heel timer's period as given, in the stitch of that offset. -/
def timeT (handed : Bool) (offset : Nat) (armed : Option Nat := none) : State :=
  { host0 with
    heel := { handedOver := handed, startup := false, began := 0, period := 1000, chal := 0xF0F0F0F0, armed := armed }
    stitch := { count := offset }
    fuse := { shadow := [(144, { firmA := 8, weakA := 8 })] } }
/-- A fuse command's pulses are running. -/
def pulseT : State := { timeT true 500 with fuse := { job := some { req := {}, bits := 0, began := 0, entry := 0 } } }
theorem witness_HeelTimer :
    (timeT true 500).live = true ∧ (timeT true 500).heel.expired = none ∧ (0x0F0F0F0F : Word) = ~~~(timeT true 500).heel.chal ∧
    (timeT true 500).heel.serviced = false ∧ (timeT true 500).windowOpen = true ∧ (timeT true 0).heel.began ≤ (timeT true 0).now ∧
    (timeT true 499).heelOffset < (timeT true 499).heelOpen ∧ (timeT true 999).heelOffset + 1 = (timeT true 999).heel.period ∧
    (timeT true 1000).heel.period ≤ (timeT true 1000).heelOffset ∧ (timeT true 1000).heelOpen ≤ (timeT true 1000).heelOffset ∧
    (timeT false 0).heel.handedOver = false ∧ (timeT true 20001 (some 10000)).heel.armed = some 10000 ∧
    (timeT true 0).fuse.job = none ∧ pulseT.fuse.job ≠ none ∧ pulseT.heel.owed = none ∧
    10000 + 10 * (timeT true 20001).heel.period < (timeT true 20001).now ∧ (timeT true 20000).now ≤ 10000 + 10 * (timeT true 0).heel.period := by
  decide +kernel

/-- A firmware image of one page of body, all ones, at slot 0; digests 0x77 and 0x99 stand for its body and its key. -/
def fwHdrT : Bytes :=
  natBE 4 0x544B4657 ++ natBE 2 1 ++ natBE 2 0x180 ++ natBE 4 0 ++ natBE 2 0 ++ fill 2 0 ++ natBE 8 1 ++ natBE 4 4096 ++ natBE 4 4096 ++
  natBE 4 0 ++ natBE 4 1 ++ natBE 32 0x77 ++ fill 64 0x44 ++ fill 184 0 ++ fill 64 0x55
/-- Pattern memory with that header at slot 0, a fuse bank with its key, the ROM at its warm entry. -/
def warmT : State :=
  { host0 with
    pm := placeT 0x1000 fwHdrT
    fuse := { shadow := [(79, { firmA := 0x99, weakA := 0x99 })] }
    sys := { mgmtUp := false, resetOwed := some 3 }
    boot := { stage := .warm } }
/-- A firmware image whose header stands at `base` passes where the open functions say so of it. -/
theorem fwPasses (s : State) (base : Nat) (p : s.pm = placeT base fwHdrT) (k : (s.fwKeyOf (hdrKey fwHdrT)).isSome = true)
    (arb : s.arbCount = 0) (h2 : sm2Ok (hdrKey fwHdrT) (fwHdrT.take 320) (hdrSig fwHdrT) = true)
    (h3 : sm3 (fill 4096 0xFF) = 0x77) : s.imageFails base = none := by
  have len : fwHdrT.length = 384 := by decide +kernel
  have hd : s.fwHeader base = fwHdrT := by
    have e := readN_placeT 0xFF fwHdrT base 384 (Nat.le_of_eq len.symm)
    rw [← len, List.take_length, len] at e
    simpa [State.fwHeader, State.pmBytes, p] using e
  have above : ∀ e ∈ s.pm, e.1 < base + 384 := by
    intro e he
    rw [p] at he
    simp only [placeT, List.mem_map] at he
    obtain ⟨x, hx, rfl⟩ := he
    have := List.snd_lt_of_mem_zipIdx hx
    rw [len] at this
    simpa using this
  have pad : s.pmBytes (base + 384) 65152 = fill 65152 0xFF := readN_above _ _ _ _ above
  have all : (s.pmBytes (base + 384) 65152).all (· == 0xFF) = true := by
    rw [pad, List.all_eq_true]
    intro x hx
    rw [List.eq_of_mem_replicate hx]
    rfl
  have body : s.fwBody base = fill 4096 0xFF := by
    have n : fwBodyLen fwHdrT = 4096 := by decide +kernel
    rw [State.fwBody, hd, n]
    exact readN_above _ _ _ _ (fun e he => Nat.lt_of_lt_of_le (above e he) (by omega))
  have ok : fwFieldsOk fwHdrT = true := by decide +kernel
  have dg : digestOfBytes (bytesAt fwHdrT 40 32) = 0x77 := by decide +kernel
  have v : fwVersion fwHdrT = 0 := by decide +kernel
  cases e : s.fwKeyOf (hdrKey fwHdrT) with
  | none => rw [e] at k; simp at k
  | some j =>
    simp only [State.imageFails, hd, all, body, ok, arb, dg, h2, h3, e, v, Bool.not_true, Bool.or_self, Option.isNone_some,
      Bool.false_eq_true, if_false, Nat.lt_irrefl, ne_eq, not_true]
/-- FW_KEY 0 is the signer's digest. -/
theorem fwKeyT (s : State) (h1 : sm3 (hdrKey fwHdrT) = 0x99) (f : s.fwKey 0 = some 0x99)
    (i : (s.fielded && s.fuseInvalid 2) = false) (r : s.fwRevoked 0 = false) : (s.fwKeyOf (hdrKey fwHdrT)).isSome = true := by
  simp [State.fwKeyOf, h1, f, i, r]
theorem witness_ManagementReset :
    warmT.live = true ∧ warmT.sys.resetOwed = some 3 ∧ warmT.log.fifo.length < 4096 ∧ warmT.heel.ring = [] ∧ warmT.ringRoom = true ∧
    warmT.boot.stage = .warm ∧ host0.boot.stage = .running ∧ host0.heel.switchAsked = none := by
  decide +kernel
/-- The image passes where the open functions say so of it, and fails where its bytes are missing. -/
theorem witness_ManagementReset_warm :
    (sm3 (hdrKey fwHdrT) = 0x99 → sm2Ok (hdrKey fwHdrT) (fwHdrT.take 320) (hdrSig fwHdrT) = true → sm3 (fill 4096 0xFF) = 0x77 →
      warmT.imageFails (fwSlotBase warmT.boot.slot) = none) ∧
    State.imageFails { warmT with pm := [] } (fwSlotBase 0) = some Code.fwImageBad := by
  refine ⟨fun h1 h2 h3 => ?_, by simp [State.imageFails, fwFieldsOk]; decide +kernel⟩
  exact fwPasses warmT 0x1000 rfl (fwKeyT _ h1 (by decide +kernel) (by decide +kernel) (by decide +kernel)) (by decide +kernel) h2 h3

theorem witness_DeviceStarts :
    host0.heel.mode = .on ∧ host0.pwr.mainDown = false ∧ (∀ b, .devRst b ∉ host0.deferred) ∧
    (State.heel { host0 with heel := { mode := .keep } }).mode ≠ .on ∧ host0.pair.role = .unpaired ∧
    State.live { host0 with frz := { frozen := true }, deferred := [.devRst true] } = false ∧
    .devRst true ∈ State.deferred { host0 with frz := { frozen := true }, deferred := [.devRst true] } := by
  decide +kernel

/-- The start of the management domain at a stage. -/
def bootT (st : BootStage) (root : Bool) : State := { host0 with sys := {}, boot := { stage := st, rootDone := root, slot := 1 } }
/-- A FIRMWARE copy of 4 units into slot 1 at its second unit. -/
def copyFw : State :=
  { bootT .copying true with
    mem := [(copyJournalAddr, 0xA5), (copyJournalAddr + 1, 1), (copyJournalAddr + 5, 4), (copyJournalAddr + 7, 1)]
    pm := [(fwSlotBase 1 + 65536, 9), (fwStaging + 65536 + 65535, 8)] }
theorem witness_FirmwareStart :
    (bootT .chosen false).live = true ∧ (bootT .chosen false).scuttlePending = false ∧ (bootT .chosen false).env.cleared = false ∧
    (bootT .chosen false).rootChecks (bootT .chosen false).rootCodeNow = true ∧
    copyFw.live = true ∧ copyFw.copyOpen = true ∧ copyFw.copyTarget < 2 ∧ copyFw.copyNext + 1 < copyFw.copyUnits ∧
    (bootT .chosen true).env.fatalRepeat = false ∧ (bootT .chosen true).boot.woke = false ∧
    confSlot (bootT .chosen true).bootState ≠ (bootT .chosen true).boot.slot ∧ (bootT .chosen true).boot.slot < 2 ∧
    State.trial { bootT .running true with mem := [(bootStateAddr + 3, 4)] } = true ∧
    Nat.testBit (State.bootState { bootT .running true with mem := [(bootStateAddr + 3, 0x80)] }) 7 = true ∧
    State.fuseEnvOk { host0 with fuse := { vfprog := 2500 }, env := { latest := [(24, 2000)] } } = true ∧ host0.fuseLocked 4 = false ∧
    host0.confFloor = some host0.arbCount := by
  decide +kernel
/-- Once the fuses hold a life-cycle root whose ROOT_CHECK the open hash does not meet, the check fails. -/
theorem witness_FirmwareStart_root :
    let s := { bootT .chosen false with fuse := { shadow := [(0, { firmA := 1, weakA := 1 })] } }
    s.rootCodeNow = 1 ∧ ((digestBytes (sm3 (digestBytes (Config.pufUnwrap (s.looseBytes 14 8))))).take 8 ≠ fill 8 0 →
      s.rootChecks s.rootCodeNow = false) := by
  refine ⟨by decide +kernel, fun h => ?_⟩
  have c : ({ bootT .chosen false with fuse := { shadow := [(0, { firmA := 1, weakA := 1 })] } } : State).rootCodeNow = 1 := by decide +kernel
  have l : ({ bootT .chosen false with fuse := { shadow := [(0, { firmA := 1, weakA := 1 })] } } : State).looseBytes 38 2 = fill 8 0 := by
    decide +kernel
  rw [c]
  simp only [State.rootChecks, State.rootOf, Nat.reduceSub, Nat.mul_zero, Nat.add_zero, l]
  simpa using h

/-- Firmware runs and no pattern is in force. -/
def barePat : State := { host0 with pat := none, boot := { stage := .running } }
theorem witness_PatternComesIn_choice :
    barePat.live = true ∧ barePat.sys.mgmtUp = true ∧ barePat.pat = none ∧ barePat.patNext = none ∧ barePat.boot.patChosen = false ∧
    barePat.boot.noPattern = false ∧ barePat.patternSlot = none := by
  decide +kernel

/-! ### The VAMP link -/

/-- The link is up, with 16 frames of credit. -/
def linkT : State :=
  { host0 with vamp := { locked := 3, trained := true, trainRx := true, trainAcked := true, up := true, credits := 16 } }
/-- An ACK frame without its CRC. -/
def ackHdr : Bytes := [2, 0, 0, 0, 0, 0, 0, 16, 0, 0, 0, 0]
/-- A received frame. -/
def rxT (type seq ack : Nat) (payload : Bytes) (more : Bool := true) : RxFrame := ⟨type, more, seq, ack, 9, 0, [], payload⟩
/-- A received frame waits on the link. -/
def rxS (f : RxFrame) : State := { linkT with vamp := { linkT.vamp with rxq := [f] } }
/-- A valid TRAIN payload granting 77 frames. -/
def trainT : Bytes := [0, 1, 0, 0, 0, 77, 8, 0, 0] ++ fill 7 0
/-- A DATA frame sent in stitch 0 and replayed `n` times. -/
def txT (n : Nat) : TxFrame := { seq := 1, payload := [1, 2], sent := some 0, replays := n, incident := 5 }
/-- That frame is kept. -/
def txS (n : Nat) (v : VampSt) : State := { linkT with vamp := { v with tx := [txT n], txSeq := 1 } }
/-- A trained ring port of a running pair. -/
def pairT : State :=
  { host0 with
    pair := { role := .active, pairEn := true, unitId := 5, ports := [(1, { trained := true, keyed := true }), (0, { trained := true })] } }

theorem witness_LinkFrames :
    linkT.linkOn = true ∧ linkT.vamp.locked = 3 ∧ linkT.vamp.lostAt = none ∧
    pairT.live = true ∧ pairT.paired = true ∧ (pairT.port 1).trained = true ∧ (pairT.port 1).retired = false ∧
    laceFrameOk [1, 2, 3] true false = some Code.frameLengthMismatch ∧
    FrameAt (rxS (rxT 2 0 0 [])) 2 (rxT 2 0 0 []) [] ∧ (0 + 65536 - linkT.vamp.peerAck) % 65536 ≤ linkT.vamp.outstanding ∧
    FrameAt (txS 3 (rxS (rxT 3 0 9 [1, 2])).vamp) 3 (rxT 3 0 9 [1, 2]) [] ∧ (txT 3).sent ≠ none ∧
    (txS 3 linkT.vamp).vamp.outstanding < (9 + 65536 - linkT.vamp.peerAck) % 65536 ∧
    FrameAt (rxS (rxT 4 0 0 trainT)) 4 (rxT 4 0 0 trainT) [] ∧ fieldAt trainT 0 2 = 1 ∧ fieldAt trainT 2 1 = 0 ∧
    fieldAt trainT 3 1 = 0 ∧ fieldAt trainT 8 1 = 0 ∧ allZero (bytesAt trainT 9 7) = true ∧
    (∀ n ∈ [0, 1, 2], FrameAt (rxS (rxT 1 n 9 [7])) 1 (rxT 1 n 9 [7]) []) ∧
    linkT.vamp.outstanding < (9 + 65536 - linkT.vamp.peerAck) % 65536 ∧
    ((linkT.vchan 0).rx ++ [7]).length ≤ 65612 ∧ (linkT.vchan 0).tooLong = false ∧
    FrameAt (txS 2 (rxS (rxT 3 0 9 [1, 2])).vamp) 3 (rxT 3 0 9 [1, 2]) [] ∧ (txT 2).sent = some 0 ∧ (txT 2).replays < 3 ∧
    (txT 2).incident ≠ 0 ∧ (txT 2).tag = none := by
  unfold FrameAt; decide +kernel
/-- A frame passes where the open CRC agrees, and is dropped where it does not. -/
theorem witness_LinkFrames_crc :
    (Config.crc32 ackHdr = 0x01020304 → checkFrame (ackHdr ++ [1, 2, 3, 4]) true false = .ok ⟨2, false, 0, 0, 16, 0, [2, 0, 0, 0, 0], []⟩) ∧
    (Config.crc32 ackHdr ≠ 0x01020304 → checkFrame (ackHdr ++ [1, 2, 3, 4]) true false = .error .crc) ∧
    checkFrame ackHdr false false = .error (.other (some Code.frameLengthMismatch)) := by
  have t : (ackHdr ++ [1, 2, 3, 4]).take 12 = ackHdr := rfl
  have l : (ackHdr ++ [1, 2, 3, 4]).length = 16 := rfl
  have f : fieldAt (ackHdr ++ [1, 2, 3, 4]) 12 4 = 0x01020304 := rfl
  refine ⟨fun h => ?_, fun h => ?_, rfl⟩
  · unfold checkFrame
    rw [if_neg (by decide), if_neg (by rw [l, t, h]; decide), if_neg (by decide), if_neg (by decide)]
    congr 1
  · have g : ¬ 0x01020304 = (Config.crc32 ackHdr).toNat := fun e => h (BitVec.eq_of_toNat_eq e.symm)
    unfold checkFrame
    rw [if_neg (by decide), if_pos]
    rw [l, t, f]
    simpa using g

/-- The small machine `n` stitches on. -/
def atStitch (n : Nat) (s : State) : State := { s with stitch := { s.stitch with count := n } }
theorem witness_LinkTrainingAndLoss :
    host0.linkOn = true ∧
    (let s := atStitch 10 { host0 with vamp := { locked := 3, lostAt := some 0 } }
     s.linkOn = true ∧ s.vamp.lostAt = some 0 ∧ 0 + 10 ≤ s.now ∧ s.env.refclkFallback = false ∧ s.vamp.locked = 3 ∧
       s.vamp.trained = false ∧ s.vamp.trainRx = false) ∧
    State.linkOn { host0 with env := { refclkFallback := true } } = true ∧
    (let s := atStitch 500 linkT
     s.linkOn = true ∧ s.vamp.trained = true ∧ s.vamp.lastRx + 500 ≤ s.now ∧ s.vamp.lastTx + 50 ≤ s.now) ∧
    (let s := atStitch 11 (txS 3 linkT.vamp)
     s.linkOn = true ∧ s.vamp.trained = true ∧ s.ackLate = some (txT 3) ∧ 3 ≤ (txT 3).replays) ∧
    (let s := { host0 with vamp := { locked := 1 } }
     s.linkOn = true ∧ s.vamp.locked ||| (1 <<< (1 : Fin 2).val) = 3 ∧ s.vamp.trained = false ∧ s.vamp.trainRx = false ∧
       s.vamp.lostAt = none) ∧
    (let s := atStitch 11 (txS 2 linkT.vamp)
     s.linkOn = true ∧ s.vamp.trained = true ∧ s.vamp.tx = [txT 2] ∧ 0 + 11 ≤ s.now ∧ (txT 2).replays < 3 ∧
       (txT 2).incident ≠ 0 ∧ (txT 2).tag = none) := by
  decide +kernel

/-- A message: opcode, TAG, STATUS 0, FLAGS 0, INCIDENT 0, then the body. -/
def msgT (op tag : Nat) (body : Bytes) : Bytes := envelope op tag 0 false 0 ++ body
/-- The request waits in the inbox of a channel of `s`, and its command runs. -/
def reqS (s : State) (ch op : Nat) (body : Bytes) : State :=
  { s with vamp := { s.vamp with chans := [(ch, { inbox := [msgT op 7 body], cmds := [{ tag := 7, opcode := op, state := 1 }] })] } }
/-- The link is up and session 1 is open. -/
def sesT : State := { linkT with vamp := { linkT.vamp with sessions := [(1, { key := 0xAA })] } }

theorem witness_VampAdmission :
    linkT.canSend 0 = true ∧ sesT.canSend 1 = true ∧ linkT.frz.frozen = false ∧
    fieldAt (msgT 0x77 7 []) 0 2 ∉ vampOpcodes ∧
    (fieldAt (msgT 0x02 7 []) 0 2 ∈ vampOpcodes ∧ fieldAt (msgT 0x02 7 []) 0 2 ∉ plainOpcodes) ∧
    (fieldAt (msgT 0x10 7 [1]) 0 2 ∈ plainOpcodes ∧ bodyOk 0x10 [1] = false) ∧
    (let m := msgT 0x10 7 [0, 0, 0, 0]
     fieldAt m 0 2 ∈ vampOpcodes ∧ fieldAt m 0 2 ∈ plainOpcodes ∧ fieldAt m 0 2 ∉ zeroOnly ∧ 12 ≤ m.length ∧ fieldAt m 4 4 = 0 ∧
       bodyOk (fieldAt m 0 2) (m.drop 12) = true ∧ linkT.running? 0 (fieldAt m 2 2) = none ∧
       (reqS linkT 0 0x10 []).running? 0 (fieldAt m 2 2) ≠ none) ∧
    linkT.boot.stage = .running ∧ ((linkT.vchan 0).cmds.filter (fun c => c.state = 1)).length < 16 ∧
    (State.canSend { linkT with frz := { frozen := true } } 0 = true ∧ fieldAt (msgT 0x10 7 []) 0 2 ≠ 0x00A0) := by
  decide +kernel

/-- The unit is in PROVISION. -/
def provT (s : State) : State := { s with fuse := { s.fuse with shadow := [(0, { firmA := 1, weakA := 1 })] } }
/-- The unit is frozen and its chains are readable. -/
def frozT (s : State) : State := { s with frz := { frozen := true } }
theorem witness_VampReads :
    ReqAt (reqS linkT 0 0x10 (fill 4 0)) 0 0x10 (msgT 0x10 7 (fill 4 0)) [] ∧ fieldAt (fill 4 0) 3 1 = 0 ∧
    fieldAt ((msgT 0x10 7 [0, 7, 0, 1]).drop 12) 3 1 = 1 ∧
    (let b := natBE 4 0x20010000 ++ natBE 4 1
     ReqAt (reqS linkT 0 0x11 b) 0 0x11 (msgT 0x11 7 b) [] ∧ fieldAt ((msgT 0x11 7 b).drop 12) 4 4 = 1 ∧
       fieldAt ((msgT 0x11 7 b).drop 12) 0 4 = 0x20010000) ∧
    (reqS sesT 1 0x12 (fill 8 0)).lifecycle ≠ 1 ∧ (provT (reqS sesT 1 0x12 (fill 8 0))).lifecycle = 1 ∧
    ReqAt (reqS sesT 1 0x12 (fill 8 0)) 1 0x12 (msgT 0x12 7 (fill 8 0)) [] ∧
    selector (fieldAt ((msgT 0x12 7 (fill 8 0)).drop 12) 0 4) = none ∧
    (let b := natBE 4 0x2011000C ++ natBE 4 77
     ReqAt (provT (reqS sesT 1 0x12 b)) 1 0x12 (msgT 0x12 7 b) [] ∧
       selector (fieldAt ((msgT 0x12 7 b).drop 12) 0 4) = some (4, 6)) ∧
    ReqAt (reqS linkT 0 0x20 (natBE 8 1 ++ natBE 4 1)) 0 0x20 (msgT 0x20 7 (natBE 8 1 ++ natBE 4 1)) [] ∧
    linkT.frz.frozen = false ∧
    (∀ c ∈ [0, 7], let b := natBE 4 c ++ natBE 4 0 ++ natBE 4 1
      let m := msgT 0xA0 7 b
      ReqAt (frozT (reqS linkT 0 0xA0 b)) 0 0xA0 m [] ∧ fieldAt (m.drop 12) 0 4 ≤ 7 ∧ 1 ≤ fieldAt (m.drop 12) 8 4 ∧
        fieldAt (m.drop 12) 8 4 ≤ 2048 ∧
        fieldAt (m.drop 12) 4 4 + fieldAt (m.drop 12) 8 4 ≤ chainBytes (fieldAt (m.drop 12) 0 4)) := by
  unfold ReqAt; decide +kernel
theorem witness_VampReads_chain :
    (frozT linkT).chainOk false 0 = true ∧ (frozT linkT).chainOk false 7 = true ∧
    State.chainOk { frozT linkT with fuse := { shadow := [(1, { firmA := 1, weakA := 1 })] } } false 7 = false := by
  decide +kernel
/-- A blank MRAM gives a head at record 0, whatever the open CRC of zeros is. -/
theorem witness_VampReads_drain : linkT.logHead.1 = 0 ∧ 1 ≤ fieldAt ((msgT 0x20 7 (natBE 8 1 ++ natBE 4 1)).drop 12) 0 8 := by
  refine ⟨?_, by decide +kernel⟩
  have a : ∀ x, linkT.headCopy x = if 0 = (Config.crc32 (fill 40 0)).toNat then some (0, 0) else none := by
    intro x
    have b : linkT.bytes x 48 = fill 48 0 := readN_above _ _ _ _ (by simp [linkT, host0])
    unfold State.headCopy
    rw [b]
    rfl
  unfold State.logHead
  rw [a, a]
  by_cases h : 0 = (Config.crc32 (fill 40 0)).toNat
  · rw [if_pos h]; rfl
  · rw [if_neg h]

/-! ### A pattern image that passes R599 -/

/-- The owner's public key in the image. -/
def ownerT : Bytes := fill 64 0x44
/-- A directory entry. -/
def dirE (t off len count : Nat) : Bytes := natBE 2 t ++ fill 2 0 ++ natBE 4 off ++ natBE 4 len ++ natBE 4 count
/-- Header and directory: the sections stand one after another from 256, the windows being none. -/
def imgHeadT : Bytes :=
  natBE 4 0x54504154 ++ natBE 2 1 ++ natBE 2 0x80 ++ natBE 4 4096 ++ natBE 2 8 ++ fill 2 0 ++ natBE 8 9 ++ fill 32 0 ++ ownerT ++
  fill 8 0 ++ dirE 1 256 160 1 ++ dirE 2 416 32 1 ++ dirE 3 448 128 1 ++ dirE 4 576 160 1 ++ dirE 5 736 1024 1 ++ dirE 6 1760 0 0 ++
  dirE 7 1760 32 1 ++ dirE 8 1792 72 1
/-- DEVICE: PERIOD 2 s, ERASE_MAX 20,000, PROGRAM_MAX 300. -/
def imgDeviceT : Bytes := natBE 4 2000000 ++ [1, 0, 3, 0] ++ natBE 4 20000 ++ natBE 4 300 ++ fill 144 0
/-- THRESHOLD: one fault, or one in a second. -/
def imgThresholdT : Bytes := (List.replicate 4 ([1, 1, 0, 0] ++ natBE 4 1000000)).flatten
/-- EYELET 0: octal, 200 MHz, 64 pages. -/
def imgEyeT : Bytes :=
  natBE 2 0 ++ [3, 200] ++ natBE 4 64 ++ [20, 3, 5, 0, 0x80, 0x80, 0, 0] ++ [0xC2, 0x85, 0x3A, 0, 0, 0, 0, 0] ++ natBE 4 10 ++
  natBE 4 1000 ++ natBE 4 1000 ++ natBE 4 1000 ++ natBE 4 1000 ++ fill 84 0
/-- PRESENTED 0 on welt 0: single lines at 100 MHz, 16 MiB, one segment of 32 pages on eyelet 0, no windows. -/
def imgPdT : Bytes :=
  [0, 24, 1, 0, 100, 4, 3, 1] ++ [0xC2, 0x85, 0x3A, 0, 0, 0, 0, 0] ++ natBE 4 0 ++ natBE 2 0 ++ [0, 0] ++ natBE 2 0 ++ [0xFF] ++ fill 5 0 ++
  (natBE 3 0 ++ natBE 3 32 ++ [0, 0x80] ++ natBE 2 0 ++ natBE 2 0 ++ natBE 4 0xFFFFFFFF) ++ fill 112 0
/-- Opcode map 0 enables 0x03 alone. -/
def imgMapT : Bytes := fill 12 0 ++ natBE 4 0x41 ++ fill 1008 0
/-- PLATFORM 0 on welt 0, without lasts. -/
def imgPlatT : Bytes := [0, 0, 0, 0] ++ natBE 2 0x42 ++ fill 2 0 ++ natBE 8 1 ++ natBE 4 0xFFFFFFFF ++ natBE 4 0 ++ fill 8 0
/-- A schedule of one row: no bytes for anyone, point engine 0 to attestation, the log queue granted. -/
def imgRowT : Bytes := fill 56 0 ++ [0x30, 0, 0, 0, 1, 0, 0, 0]
def imgSchedT : Bytes := natBE 2 1 ++ fill 2 0 ++ natBE 4 64 ++ imgRowT
/-- The image before its signature, and the whole image. -/
def imgBodyT : Bytes :=
  imgHeadT ++ imgDeviceT ++ imgThresholdT ++ imgEyeT ++ imgPdT ++ imgMapT ++ imgPlatT ++ imgSchedT ++ fill 2168 0
def imgT : Bytes := imgBodyT ++ fill 64 0x22

/-- Firmware runs without a pattern, pattern slot 0 holds the image, OWNER_KEY 0 is 5, and SET is 1 or no flag is written. -/
def patLoadT (chosen : Bool) (set : Bool := true) : State :=
  { host0 with
    pat := none
    boot := { stage := .running, patChosen := chosen }
    fuse := { shadow := [(111, { firmA := 5, weakA := 5 })] }
    mem := if set then [(patFlagAddr + 3, 4)] else []
    pm := placeT (patSlotBase 0) imgT }
theorem imgT_owner (s : State) (k : s.ownerKey 0 = some 5) (f : s.fielded = false) (h : Config.sm3 ownerT = 5) :
    (s.ownerKeyUsable ownerT).isSome = true := by
  have l : ¬ ownerT.length = 0 := by decide
  simp [State.ownerKeyUsable, State.ownerKeyOf, sm3, f, k, h, l]
/-- Stages 1 to 4 pass for a lease of 4,096 bytes and within a slot. -/
theorem imgT_header (s : State) (o : (s.ownerKeyUsable ownerT).isSome = true) (v : sm2Ok ownerT imgBodyT (fill 64 0x22) = true) :
    s.judgeHeader imgT (fun n => n ≤ 8388608) = none ∧ s.judgeHeader imgT (fun n => n = 4096) = none := by
  have k : imgKey imgT = ownerT := by decide +kernel
  have n : imgLen imgT = 4096 := by decide +kernel
  have t : imgT.take (4096 - 64) = imgBodyT := by decide +kernel
  have d : imgT.drop (4096 - 64) = fill 64 0x22 := by decide +kernel
  have e : ¬ (s.ownerKeyUsable ownerT).isNone = true := by simpa using Option.isSome_iff_ne_none.1 o
  constructor <;>
  · unfold State.judgeHeader
    rw [if_neg (by decide +kernel), if_neg (by decide +kernel), if_neg (by decide +kernel), if_neg (by decide +kernel), k, if_neg e,
      n, t, d, v, if_neg (by decide)]
theorem imgT_directory : judgeDirectory imgT = none := by decide +kernel
/-- No window is listed. -/
theorem imgT_windows : ((List.range 262144).filter (fun i =>
    (pdRecs imgT).any (fun r => fieldAt r 16 4 ≤ i && i < fieldAt r 16 4 + fieldAt r 20 2))) = [] := by
  have p : (pdRecs imgT).all (fun r => decide (fieldAt r 20 2 = 0)) = true := by decide +kernel
  rw [List.filter_eq_nil_iff]
  intro i _ e
  obtain ⟨r, hr, hi⟩ := List.any_eq_true.1 e
  have z := List.all_eq_true.1 p r hr
  simp at z hi
  omega
theorem imgT_fields (c b : Bool) : (patLoadT c b).judgeFields imgT = none := by
  unfold State.judgeFields
  rw [imgT_windows]
  cases c <;> cases b <;> decide +kernel
theorem imgT_layout (c b : Bool) : (patLoadT c b).judgeLayout imgT = none := by cases c <;> cases b <;> decide +kernel
theorem imgT_click : judgeClick imgT = none := by decide +kernel
theorem imgT_timing (c b : Bool) : (patLoadT c b).judgeTiming imgT = none := by cases c <;> cases b <;> decide +kernel
theorem imgT_schedule (c b : Bool) : (patLoadT c b).judgeSchedule imgT = none := by cases c <;> cases b <;> decide +kernel
theorem imgT_read (c b : Bool) : (patLoadT c b).imageAt (patSlotBase 0) = imgT := by
  have l : imgT.length = 4096 := by decide +kernel
  have r : ∀ n, n ≤ 4096 → (patLoadT c b).pmBytes (patSlotBase 0) n = imgT.take n := by
    intro n hn
    exact readN_placeT _ _ _ _ (by rw [l]; exact hn)
  have n : imgLen (imgT.take 128) = 4096 := by decide +kernel
  have w : (patLoadT c b).imageAt (patSlotBase 0) = (patLoadT c b).pmBytes (patSlotBase 0) 4096 := by
    simp only [State.imageAt, r 128 (by decide), n]
    rfl
  rw [w, r 4096 (Nat.le_refl _), ← l, List.take_length]
/-- The image passes every stage where the open functions say so of its key and signature. -/
theorem imgT_judged (c b : Bool) (h : Config.sm3 ownerT = 5) (v : sm2Ok ownerT imgBodyT (fill 64 0x22) = true) :
    (patLoadT c b).judgePattern imgT (fun n => n ≤ 8388608) = none := by
  have o := imgT_owner (patLoadT c b) (by cases c <;> cases b <;> decide +kernel) (by cases c <;> cases b <;> decide +kernel) h
  simp [State.judgePattern, (imgT_header _ o v).1, imgT_directory, imgT_fields, imgT_layout, imgT_click, imgT_timing, imgT_schedule]
theorem witness_PatternComesIn (h : Config.sm3 ownerT = 5) (v : sm2Ok ownerT imgBodyT (fill 64 0x22) = true) :
    (patLoadT true).judgePattern ((patLoadT true).imageAt (patSlotBase (patLoadT true).boot.patSlot)) (fun n => n ≤ 8388608) = none ∧
    (patLoadT false).slotVerifies ((patLoadT false).patFlag % 2) = true ∧ (patLoadT false false).patternSlot = some 0 := by
  refine ⟨?_, ?_, ?_⟩
  · show (patLoadT true).judgePattern ((patLoadT true).imageAt (patSlotBase 0)) (fun n => n ≤ 8388608) = none
    rw [imgT_read, imgT_judged true true h v]
  · have f : (patLoadT false).patFlag % 2 = 0 := by decide +kernel
    rw [f, State.slotVerifies, State.judgeSlot, imgT_read, imgT_judged false true h v]
    rfl
  · have f : (patLoadT false false).patFlag.testBit 2 = false := by decide +kernel
    have a : (patLoadT false false).slotVerifies 0 = true := by
      rw [State.slotVerifies, State.judgeSlot, imgT_read, imgT_judged false false h v]
      rfl
    have b : (patLoadT false false).slotVerifies 1 = false := by decide +kernel
    simp [State.patternSlot, f, a, b]
theorem witness_PatternComesIn_states :
    (patLoadT true).live = true ∧ (patLoadT true).sys.mgmtUp = true ∧ (patLoadT true).pat = none ∧ (patLoadT true).patNext = none ∧
    (patLoadT true).boot.patChosen = true ∧ (patLoadT true).heel.tail = (patLoadT true).heel.head ∧ (patLoadT true).heel.waiting = [] ∧
    (patLoadT true).heel.tail < 64 ∧ (patLoadT true).patFlagSettled = true ∧ RingFree (patLoadT false false) ∧
    (patLoadT false false).heel.ring = [] ∧ (patLoadT false false).deferred = [] ∧
    (patLoadT false false).patFlag.testBit 2 = false ∧ (patLoadT false).boot.patChosen = false ∧ (patLoadT false).boot.noPattern = false ∧
    (patLoadT false).patFlag.testBit 2 = true ∧ (patLoadT false).patFlag.testBit 1 = false ∧ (patLoadT false).patFloor = 0 ∧
    State.judgePattern { patLoadT true with pm := [] } (State.imageAt { patLoadT true with pm := [] } (patSlotBase 0))
      (fun n => n ≤ 8388608) = some { code := Code.patternFormatBad, stage := 1 } := by
  unfold RingFree; decide +kernel

/-! ### Sessions, statements, digests -/

/-- A state of the small machine with its life-cycle word `w` blown. -/
def lcT (w : Nat) (s : State) : State := { s with fuse := { s.fuse with shadow := [(w, { firmA := 1, weakA := 1 })] } }
/-- A HELLO body: nonce, key, ephemeral key, version. -/
def helloT : Bytes := fill 16 1 ++ fill 64 2 ++ fill 64 3 ++ natBE 4 0x00010000
/-- A session. -/
def ssT (n : Nat) : Session := { key := BitVec.ofNat 256 n }
/-- A HELLO whose key agreement has run its steps. -/
def helloS : State :=
  { linkT with
    vamp := { linkT.vamp with jobs := [(3, some ⟨0, 7, 1⟩, .hello helloT)] }
    point := { ops := [{ owner := 4, ident := 4099, engine := some 0, steps := 0, total := 167 }] } }
/-- A token for this unit. -/
def tokenT : Bytes := natBE 4 0x44424754 ++ natBE 2 1 ++ [0, 0] ++ fill 16 0 ++ natBE 4 0 ++ fill 132 0
theorem witness_VampSessions :
    ReqAt (reqS linkT 0 1 helloT) 0 1 (msgT 1 7 helloT) [] ∧ (reqS linkT 0 1 helloT).keysClosed = none ∧
    (reqS linkT 0 1 helloT).adapterKnown (bytesAt ((msgT 1 7 helloT).drop 12) 16 64) = true ∧
    8 ≤ (List.range 8).length + linkT.hellos ∧ linkT.vamp.sessions.length + linkT.hellos < 8 ∧ linkT.patNext = none ∧
    EnginesFree linkT linkT.vamp.ledgerEnd ∧
    helloS.live = true ∧ helloS.vamp.jobs.find? (fun j => 4096 + j.1 = 4096 + 3) = some (3, some ⟨0, 7, 1⟩, .hello helloT) ∧
    helloS.opDone 4 (4096 + 3) = true ∧ helloS.vamp.sessions = [] ∧
    ReqAt (reqS sesT 1 2 []) 1 2 (msgT 2 7 []) [] ∧
    (atStitch 60000000 sesT).session? 1 = some { key := 0xAA } ∧ Session.lastFrame { key := 0xAA } + 60000000 ≤ State.now (atStitch 60000000 sesT) ∧
    ReqAt (reqS sesT 1 0xF0 tokenT) 1 0xF0 (msgT 0xF0 7 tokenT) [] ∧ (reqS sesT 1 0xF0 tokenT).tokenRefuses tokenT = none ∧
    (reqS sesT 1 0xF0 tokenT).tokenRefuses (fill 160 0) = some Code.debugTokenBad ∧
    State.tokenRefuses (provT sesT) tokenT = none ∧ State.tokenSignerBad (provT sesT) tokenT = false ∧ (provT sesT).lifecycle ≠ 0 ∧
    (provT sesT).debugOn = false := by
  unfold ReqAt EnginesFree
  and_intros
  case refine_2.refine_2.refine_2.refine_2.refine_2.refine_2.refine_1.refine_2 =>
    intro e
    rcases e with _ | _ | _ | _ | e <;> simp [linkT, host0, State.now]
  all_goals decide +kernel
/-- In PRODUCTION a key that neither the pattern nor the fuses hold is unknown. -/
theorem witness_VampSessions_unknown (k : Bytes) : (lcT 1 linkT).adapterKnown k = false := by
  have l : (lcT 1 linkT).lifecycle = 2 := by decide +kernel
  have o : ∀ j ∈ [0, 1, 2, 3], (lcT 1 linkT).ownerKey j = none := by decide +kernel
  have f : (lcT 1 linkT).ownerKeyOf k = none := by
    unfold State.ownerKeyOf
    rw [List.find?_eq_none]
    intro j hj
    simp [o j hj]
  have p : (lcT 1 linkT).pat = some patT := rfl
  simp [State.adapterKnown, l, f, p, patT]
/-- A token whose signer no fuse holds is bad in PRODUCTION. -/
theorem witness_VampSessions_signer (b : Bytes) : (lcT 1 linkT).tokenSignerBad b = true := by
  have l : (lcT 1 linkT).lifecycle = 2 := by decide +kernel
  have o : ∀ j ∈ [0, 1, 2, 3], (lcT 1 linkT).ownerKey j = none := by decide +kernel
  have f : (lcT 1 linkT).ownerKeyOf (bytesAt b 32 64) = none := by
    unfold State.ownerKeyOf
    rw [List.find?_eq_none]
    intro j hj
    simp [o j hj]
  simp [State.tokenSignerBad, l, f]

/-- An ATTEST body: nonce, platform 0, no certificates. -/
def attT : Bytes := fill 32 9 ++ natBE 8 1 ++ fill 8 0
/-- A statement of the adapter's, admitted and then filled. -/
def stT (b : Option Bytes) : Statement := ⟨4, .adapter ⟨0, 7, 0x30⟩, fill 32 9, 1, false, 0, b⟩
/-- It is outstanding, and its steps have run. -/
def attS (b : Option Bytes) : State :=
  { linkT with att := { sts := [stT b] }, point := { ops := [{ owner := 3, ident := 4, engine := some 0, steps := 0, total := 84 }] } }
/-- 256 statements are outstanding. -/
def attFull : State := { linkT with att := { sts := List.replicate 256 (stT none) } }
theorem witness_AttestRequests :
    ReqAt (reqS linkT 0 0x30 attT) 0 0x30 (msgT 0x30 7 attT) [] ∧ (reqS linkT 0 0x30 attT).attRefuses = none ∧
    (lcT 3 (reqS linkT 0 0x30 attT)).attRefuses = some Code.keyStoreScuttled ∧ Code.keyStoreScuttled ≠ Code.busy ∧
    (reqS attFull 0 0x30 attT).attRefuses = some Code.busy ∧
    (stT none ∈ (attS none).att.sts ∧ (stT none).body = none) ∧ (∃ x, x ∈ (attS none).snapshots.att.sts) ∧
    (attS (some [1])).live = true ∧ (attS (some [1])).att.sts.find? (fun y => y.id = 4) = some (stT (some [1])) ∧
    (stT (some [1])).asker = .adapter ⟨0, 7, 0x30⟩ ∧ (attS (some [1])).statementDone 4 = true ∧ (attS none).att.sts = [stT none] := by
  unfold ReqAt
  and_intros <;> first | decide +kernel | exact ⟨_, List.mem_cons_self⟩ | simp [attS]
theorem witness_AttestRequests_engines : EnginesFree linkT linkT.stitch.ledgerEnd := by
  refine ⟨by decide +kernel, fun e => ?_⟩
  rcases e with _ | _ | _ | _ | e <;> simp [linkT, host0, State.now]

/-- The unit leads its domain. -/
def leadT : State :=
  { linkT with pair := { role := .active, pairEn := true, unitId := 5, lead := some 5, domainPairs := 3,
                         ports := [(1, { trained := true, keyed := true }), (2, { trained := true, keyed := true })] } }
/-- A ring frame for this unit. -/
def ringT : RingHdr := ⟨1, 2, 5, 6, 77⟩
/-- A domain statement of it collects. -/
def domT : DomainJob := { id := 9, origin := ⟨0, 7, 0x31⟩, nonce := fill 32 9, certs := false, accepted := 0, reachable := [5] }
/-- All eight units have answered. -/
def domAll : DomainJob := { domT with answers := (List.range 8).map (fun k => (k, ⟨0, 0, []⟩)) }
def domS : State := { leadT with att := { domains := [domT], nextId := 10 } }
theorem witness_DomainStatements :
    ReqAt (reqS linkT 0 0x31 (fill 48 0)) 0 0x31 (msgT 0x31 7 (fill 48 0)) [] ∧ (reqS linkT 0 0x31 (fill 48 0)).attRefuses = none ∧
    linkT.paired = false ∧ leadT.attRefuses = none ∧ leadT.paired = true ∧ leadT.pair.lead = some leadT.pair.unitId ∧
    leadT.att.domains.length < 4 ∧ leadT.att.outstanding < 255 ∧ leadT.stitch.ledgerEnd = linkT.stitch.ledgerEnd ∧
    (atStitch 3000 domS).live = true ∧ (atStitch 3000 domS).att.domains.find? (fun x => x.id = 9) = some domT ∧ domT.body = none ∧
    domT.accepted + 3000 ≤ (atStitch 3000 domS).now ∧ domS.att.domains = [domT] ∧ domT.shot = none ∧ domT.ending = false ∧
    (∃ k < domS.domainUnits, tfind domT.answers k = none) ∧ domS.now < domT.accepted + 3000 ∧
    (∀ k < domS.domainUnits, tfind domAll.answers k ≠ none) ∧ domAll.body = none ∧
    (RingFor domS ringT ∧ (fill 32 9).length = 32 ∧ domS.attRefuses = none ∧ domS.boot.stage = .running) ∧
    (RingFor { domS with boot := { stage := .warm } } ringT ∧ State.boot { domS with boot := { stage := .warm } } ≠ domS.boot) ∧
    (domT ∈ domS.att.domains ∧ domT.nonce = fill 32 9 ∧ domS.now ≤ domT.accepted + 3000 ∧ tfind domT.answers ringT.src.val = none) ∧
    domT.nonce ≠ fill 32 8 := by
  unfold ReqAt RingFor RingNew; decide +kernel

/-- Core 1 has set its OPEN arguments: queue `q`, `n` bytes. -/
def dargT (q n : Nat) (ctxs : Tbl Ctx := []) : State :=
  { host0 with dgst := { args := [(4, BitVec.ofNat 32 (8 * q)), (5, BitVec.ofNat 32 n)], ctxs := ctxs } }
/-- Core 1 has set its FEED arguments. -/
def dfeedT (a n : Nat) (x : Ctx) : State :=
  { host0 with dgst := { args := [(4, BitVec.ofNat 32 a), (5, BitVec.ofNat 32 n)], ctxs := [(3, x)] } }
/-- An open context of core 1 with `n` FEEDs waiting. -/
def ctxT (n : Nat) : Ctx := { state := 1, queue := 5, declared := 100, owner := 1, feeds := List.replicate n (.range 0x40040000 1) }
theorem witness_DigestCommands :
    (∀ q ∈ [1, 5], (dargT q 9).dgstMay 1 = true ∧ (dargT q 9).dgstArg 1 0 = 8 * q ∧ (dargT q 9).dgstArg 1 2 = 0 ∧
      0 < (dargT q 9).dgstArg 1 1 ∧ FirstFree (dargT q 9) 0) ∧
    FirstFree (dargT 1 9 ((List.range 63).map (fun c => (c, ctxT 0)))) 63 ∧
    (∀ j, j < 64 → (State.ctx (dargT 1 9 ((List.range 64).map (fun c => (c, ctxT 0)))) j).state ≠ 0) ∧
    (let s := dfeedT 0x40040000 50 (ctxT 7)
     s.dgstMay 1 = true ∧ (s.ctx 3).state = 1 ∧ (s.ctx 3).owner = 1 ∧ ((s.ctx 3).hmac = true → (s.ctx 3).declared ≠ 0) ∧
       s.feedRange (s.dgstArg 1 0) (s.dgstArg 1 1) = true ∧ (s.ctx 3).feeds.length < 8 ∧ (s.ctx 3).finished = false) ∧
    8 ≤ (ctxT 8).feeds.length ∧
    (let s := dfeedT 0x403FFFFF 2 (ctxT 0)
     s.feedRange (s.dgstArg 1 0) (s.dgstArg 1 1) = false ∧ s.dgstArg 1 1 ≠ 0) ∧
    (ctxT 0).state ≠ 0 ∧ (ctxT 0).owner ≠ 2 ∧ (dfeedT 0 0 (ctxT 0)).dgstMay 2 = true := by
  unfold FirstFree; decide +kernel

/-- A context whose final block has run. -/
def ctxDone (dest : Nat) (e : Digest) : Ctx :=
  { state := 1, queue := 5, declared := 2, dest := dest, owner := 1, finished := true, padded := true, hashed := [1, 2], expected := e }
/-- A DIGEST_RUN body with FIRST for `n` bytes. -/
def runT (w n : Nat) : Bytes := natBE 4 w ++ fill 4 0 ++ natBE 8 n ++ fill 48 0
/-- A schedule that codes digest core 1 for VAMP. -/
def vampRow (s : State) : State := { s with stitch := { s.stitch with active := { rows := [fill 58 0 ++ [0x06] ++ fill 5 0] } } }
theorem witness_DigestResults :
    (∀ d ∈ [0, 1], let s := dfeedT 0 0 (ctxDone d 0)
      s.live = true ∧ (s.ctx 3).state = 1 ∧ (s.ctx 3).padded = true ∧ (s.ctx 3).shortDue = false ∧ (s.ctx 3).asked = none ∧
        (s.ctx 3).hmac = false ∧ (s.ctx 3).dest = d) ∧
    ReqAt (reqS sesT 1 0x70 (runT 1 9)) 1 0x70 (msgT 0x70 7 (runT 1 9)) [] ∧
    (fieldAt ((msgT 0x70 7 (runT 1 9)).drop 12) 0 4).testBit 0 = true ∧ (reqS sesT 1 0x70 (runT 1 9)).vampCores = 0 ∧
    (fieldAt ((msgT 0x70 7 (runT 0 9)).drop 12) 0 4).testBit 0 = false ∧
    (sesT.ctx (bitsOf (fieldAt ((msgT 0x70 7 (runT 0 9)).drop 12) 0 4) 13 8)).state = 0 ∧
    (vampRow (reqS sesT 1 0x70 (runT 1 9))).vampCores ≠ 0 ∧ fieldAt ((msgT 0x70 7 (runT 1 9)).drop 12) 0 4 = 1 ∧
    (msgT 0x70 7 (runT 1 9)).length = 76 ∧
    (∀ n ∈ [1, 2 ^ 40], 0 < fieldAt ((msgT 0x70 7 (runT 1 n)).drop 12) 8 8 ∧ fieldAt ((msgT 0x70 7 (runT 1 n)).drop 12) 8 8 ≤ 2 ^ 40) ∧
    FirstFree (vampRow (reqS sesT 1 0x70 (runT 1 9))) 0 := by
  unfold FirstFree ReqAt; decide +kernel
theorem witness_DigestResults_equal :
    sm3 (List.take 2 [1, 2]) = (ctxDone 1 (sm3 [1, 2])).expected ∧ sm3 (List.take 2 [1, 2]) ≠ (ctxDone 1 (sm3 [1, 2] + 1)).expected :=
  ⟨rfl, fun e => by simpa [ctxDone] using e.symm⟩

/-! ### Staging -/

/-- Session 1's unit with a platform lease, or a target lease. -/
def pLease (recv : Tbl Bool) : Lease :=
  { holder := .session 0xAA, purpose := .recovery, mask := 1, length := 4096 * 34, number := 3, received := recv }
def platL (l : Lease) : State := { sesT with plats := [(0, { state := .running, phase := .runtime, hold := false, lease := some l })] }
def tgtT (n next : Nat) : TargetLease := { number := 3, key := 0xAA, length := n, next := next }
/-- A STAGE_OPEN body: purpose, platform, target, mask, length. -/
def openT (pu p t mask len : Nat) : Bytes := [0] ++ natBE 1 pu ++ natBE 1 p ++ natBE 1 t ++ natBE 2 0 ++ natBE 2 mask ++ natBE 4 len
theorem witness_StagingOpenAndData_open :
    (let b := openT 1 0 0 1 (4096 * 34)
     let m := msgT 0x40 7 b
     let s := reqS sesT 1 0x40 b
     ReqAt s 1 0x40 m [] ∧ fieldAt (m.drop 12) 3 1 = 0 ∧ fieldAt (m.drop 12) 2 1 = 0 ∧ 0 < s.weltCount ∧
       (s.platRec 0).updateEn = true ∧ (s.plat 0).state ≠ .retired ∧ (s.plat 0).lease = none ∧ fieldAt (m.drop 12) 1 1 = 1 ∧
       fieldAt (m.drop 12) 6 2 ≠ 0 ∧
       fieldAt (m.drop 12) 6 2 ||| maskOf ((s.platRec 0).lasts.map (·.entry)) = maskOf ((s.platRec 0).lasts.map (·.entry)) ∧
       fieldAt (m.drop 12) 8 4 = 4096 * s.bundlePages 0 (fieldAt (m.drop 12) 6 2) ∧ fieldAt (m.drop 12) 8 4 ≠ 0 ∧
       StagingFits s 0 (fieldAt (m.drop 12) 6 2)) ∧
    (sesT.platRec 1).updateEn = false ∧
    (∀ n ∈ [4096, 8388608], let b := openT 0 0 2 0 n
      let m := msgT 0x40 7 b
      ReqAt (reqS sesT 1 0x40 b) 1 0x40 m [] ∧ fieldAt (m.drop 12) 3 1 = 2 ∧ targetLength 2 (fieldAt (m.drop 12) 8 4) = true) ∧
    sesT.boot.pat = none ∧ sesT.boot.certs = none ∧ sesT.boot.fw = none ∧
    fieldAt ((msgT 0x40 7 (openT 0 0 1 0 69632)).drop 12) 3 1 = 1 ∧
    targetLength 1 (fieldAt ((msgT 0x40 7 (openT 0 0 1 0 69632)).drop 12) 8 4) = true ∧ MayPost sesT := by
  unfold ReqAt StagingFits MayPost RingFree; decide +kernel

/-- A STAGE_DATA body: lease, offset, data. -/
def dataT (off : Nat) (d : Bytes) : Bytes := natBE 4 3 ++ natBE 4 off ++ d
/-- One page of data. -/
@[irreducible] def pageD : Bytes := fill 4096 0x77
theorem pageD_length : pageD.length = 4096 := by decide +kernel
theorem dataT_fields (ch off : Nat) (d : Bytes) (h : off < 2 ^ 32) (s : State) :
    ReqAt (reqS s ch 0x41 (dataT off d)) ch 0x41 (msgT 0x41 7 (dataT off d)) [] ∧
    fieldAt ((msgT 0x41 7 (dataT off d)).drop 12) 0 4 = 3 ∧ fieldAt ((msgT 0x41 7 (dataT off d)).drop 12) 4 4 = off ∧
    (msgT 0x41 7 (dataT off d)).length = 20 + d.length ∧ (msgT 0x41 7 (dataT off d)).drop 20 = d := by
  have e : (natBE 4 off).length = 4 := natBE_length 4 off
  have f : (msgT 0x41 7 (dataT off d)).drop 12 = natBE 4 3 ++ natBE 4 off ++ d := rfl
  refine ⟨⟨by simp [reqS, State.vchan, tget], rfl⟩, by rw [f]; rfl, ?_, ?_, ?_⟩
  · rw [f, fieldAt]
    show beNat (bytesAt (natBE 4 3 ++ natBE 4 off ++ d) 4 4) = off
    rw [List.append_assoc, bytesAt_append _ _ _ 4 4 rfl e]
    rw [beNat_natBE]
    exact Nat.mod_eq_of_lt (by omega)
  · have : msgT 0x41 7 (dataT off d) = envelope 0x41 7 0 false 0 ++ (natBE 4 3 ++ natBE 4 off ++ d) := rfl
    rw [this]
    simp [envelope, natBE_length]
    omega
  · have : msgT 0x41 7 (dataT off d) = (envelope 0x41 7 0 false 0 ++ natBE 4 3 ++ natBE 4 off) ++ d := by
      simp [msgT, dataT]
    rw [this]
    exact List.drop_left' (by simp [envelope, natBE_length])
theorem witness_StagingOpenAndData_data :
    (∀ k ∈ [0, 33], let off := 4096 * k
      PlatLeaseAt (reqS (platL (pLease [])) 1 0x41 (dataT off [])) 1 (msgT 0x41 7 (dataT off [])) 0 (pLease []) ∧ off % 4096 = 0 ∧
        off + 4096 ≤ (pLease []).length ∧ tget false (pLease []).received (off / 4096) = false ∧
        (platL (pLease [])).bundleFrame 0 1 (off / 4096) = some (0, 540672 + k)) ∧
    (let s := reqS { sesT with boot := { stage := .running, pat := some (tgtT 5000 7) } } 1 0x41 (dataT 7 [1, 2])
     TargetAt s 1 (msgT 0x41 7 (dataT 7 [1, 2])) 2 (tgtT 5000 7) ∧ 7 = (tgtT 5000 7).next ∧
       7 + ([1, 2] : Bytes).length ≤ (tgtT 5000 7).length ∧ (tgtT 5000 7).buf.length + ([1, 2] : Bytes).length < 65536 ∧
       8 ≠ (tgtT 5000 7).next) := by
  unfold PlatLeaseAt TargetAt; decide +kernel

/-- All 34 pages have come in. -/
def allRecv : Tbl Bool := (List.range 34).map (fun i => (i, true))
/-- The bundle's first four pages: the header, the table, and two pages of zeros. -/
def datT : Nat → Bytes
  | 0 => fit 4096 0 (hdrT 9)
  | 1 => fit 4096 0 (digestBytes 5 ++ digestBytes 5)
  | _ => fill 4096 0
/-- The staged last. -/
def stagedT : State :=
  { platL (pLease allRecv) with sole := { host0.sole with
      raw := placeT (frameBase 0 540672) ((List.range 4).flatMap (fun i => sealPage 0 3 0 0 (540672 + i) i (datT i))) } }
theorem datT_length (i : Nat) : (datT i).length = 4096 := by
  unfold datT
  split
  · exact Laws.fit_length _ _ _
  · exact Laws.fit_length _ _ _
  · exact List.length_replicate
/-- Each opens to what was sealed. -/
theorem stagedT_page (i : Nat) (h : i < 4) : stagedT.bundlePage 0 1 i = datT i := by
  have fr : stagedT.bundleFrame 0 1 i = some (0, 540672 + i) := by
    rcases i with _ | _ | _ | _ | i
    · decide +kernel
    · decide +kernel
    · decide +kernel
    · decide +kernel
    · omega
  have le : (stagedT.plat 0).lease = some (pLease allRecv) := rfl
  unfold State.bundlePage
  rw [fr, le]
  refine congrArg (fun x : Option Bytes => x.getD []) (Laws.opened_sectors _ _ (datT_length i) (fun k hk => ?_))
  have len : (bytesAt (datT i) (256 * k) 256).length = 256 := by
    simp only [bytesAt, List.length_take, List.length_drop, datT_length]; omega
  have base : frameBase (weltChannel 0) (540672 + i) + 272 * k = frameBase 0 540672 + (4352 * i + 272 * k) := by
    have a : ¬ 540672 + i < 540672 := by omega
    simp only [frameBase, weltChannel, a, Nat.lt_irrefl, if_false]; omega
  have all : ((List.range 4).flatMap (fun i => sealPage 0 3 0 0 (540672 + i) i (datT i))).length = 17408 := by
    simp only [List.length_flatMap, Laws.sealPage_length]; rfl
  have e : Memory.readN 0 stagedT.sole.raw (frameBase (weltChannel 0) (540672 + i) + 272 * k) 272 =
      sm4Seal 0 (soleNonce 3 0 0 (540672 + i) k) (soleAad 0 i k) (bytesAt (datT i) (256 * k) 256) := by
    rw [base]
    refine Eq.trans (readN_placeT_at 0 _ (frameBase 0 540672) (4352 * i + 272 * k) 272 (by rw [all]; omega)) ?_
    rw [← Laws.bytesAt_bytesAt _ (4352 * i) 4352 (272 * k) 272 (by omega),
      Laws.bytesAt_blocks (fun i => sealPage 0 3 0 0 (540672 + i) i (datT i)) 4352 4 i (fun _ => Laws.sealPage_length ..) h,
      Laws.sealPage_sector _ _ _ _ _ _ _ _ hk, Laws.fit_of_length _ _ _ len]
  simp only [State.openFrame, State.openSector, e]
  exact sm4Open_sm4Seal ..
/-- A lease request of session 1: lease 3, flag `f`. -/
def leaseReq (op f : Nat) (s : State) : State := reqS s 1 op (natBE 4 3 ++ if op = 0x42 then natBE 4 f else [])
theorem witness_StagingClose_platform :
    (let s := leaseReq 0x42 0 (platL (pLease []))
     ReqAt s 1 0x42 (msgT 0x42 7 (natBE 4 3 ++ natBE 4 0)) [] ∧ PlatLeaseAt s 1 (msgT 0x42 7 (natBE 4 3 ++ natBE 4 0)) 0 (pLease []) ∧
       (pLease []).nextOffset < (pLease []).length ∧ (s.plat 0).act = none ∧ (s.plat 0).cob = none) ∧
    (pLease allRecv).length ≤ (pLease allRecv).nextOffset ∧ stagedT.maskEntries 0 1 = [lastT] ∧
    stagedT.lastEntry? (16 * 0 + lastT.entry) = some lastT := by
  unfold ReqAt PlatLeaseAt; decide +kernel
/-- Its header passes checks 1 to 7. -/
theorem witness_StagingClose_staged : stagedT.stagedHeader 0 (pLease allRecv) lastT = none := by
  have b0 : stagedT.bundleBase 0 1 lastT.entry = 0 := by decide +kernel
  have hd : stagedT.bundleHeader 0 1 lastT = hdrT 9 := by
    rw [State.bundleHeader, b0, stagedT_page 0 (by omega)]
    decide +kernel
  rw [State.stagedHeader, show (pLease allRecv).mask = 1 from rfl, hd]
  decide +kernel

/-- A target lease of `n` bytes, all of which have come in. -/
def tgtS (k n : Nat) (s : State) : State :=
  { sesT with
    boot := { stage := .running, fw := if k = 1 then some (tgtT n n) else none, pat := if k = 2 then some (tgtT n n) else none
              certs := if k = 3 then some (tgtT n n) else none }
    pm := s.pm
    fuse := s.fuse }
/-- A certificate store without entries. -/
def certHdrT : Bytes :=
  natBE 4 0x43455254 ++ natBE 2 1 ++ natBE 2 0 ++ natBE 8 1 ++ digestBytes (0x1AB21D8355CFA17F8E61194831E81A8F22BEC8C728FEFB747ED035EB5082AA2B) ++ fill 16 0
def fwPm : State := { warmT with pm := placeT fwStaging fwHdrT }
theorem witness_StagingClose_targets :
    (∀ k ∈ [1, 2, 3], let s := leaseReq 0x42 1 (tgtS k 70000 host0)
      ReqAt s 1 0x42 (msgT 0x42 7 (natBE 4 3 ++ natBE 4 1)) [] ∧ TargetAt s 1 (msgT 0x42 7 (natBE 4 3 ++ natBE 4 1)) k (tgtT 70000 70000)) ∧
    (tgtT 70000 70000).length ≤ (tgtT 70000 70000).next ∧ (tgtT 70000 70000).buf = [] ∧ (tgtT 70000 70000).length ≤ 8388608 ∧
    65536 + fwBodyLen fwHdrT = 69632 ∧ fwSequence (tgtS 1 69632 fwPm).boot.header < fwSequence fwHdrT ∧
    RingFree (leaseReq 0x42 1 (tgtS 1 69632 fwPm)) := by
  unfold ReqAt TargetAt RingFree; decide +kernel
theorem witness_StagingClose_firmware :
    (sm3 (hdrKey fwHdrT) = 0x99 → sm2Ok (hdrKey fwHdrT) (fwHdrT.take 320) (hdrSig fwHdrT) = true → sm3 (fill 4096 0xFF) = 0x77 →
      (leaseReq 0x42 1 (tgtS 1 69632 fwPm)).imageFails fwStaging = none) ∧
    (leaseReq 0x42 1 (tgtS 1 69632 host0)).imageFails fwStaging = some Code.fwImageBad := by
  refine ⟨fun h1 h2 h3 => ?_, by simp [State.imageFails, fwFieldsOk]; decide +kernel⟩
  exact fwPasses _ _ rfl (fwKeyT _ h1 (by decide +kernel) (by decide +kernel) (by decide +kernel)) (by decide +kernel) h2 h3
theorem readN_add (d : Byte) (m : Memory) (a n k : Nat) :
    Memory.readN d m a (n + k) = Memory.readN d m a n ++ Memory.readN d m (a + n) k := by
  simp [Memory.readN, List.range_add, Nat.add_assoc]
theorem fieldAt_left (a b : Bytes) (i n : Nat) (h : i + n ≤ a.length) :
    bytesAt (a ++ b) i n = bytesAt a i n ∧ fieldAt (a ++ b) i n = fieldAt a i n := by
  have e : bytesAt (a ++ b) i n = bytesAt a i n := by
    unfold bytesAt
    rw [List.drop_append_of_le_length (by omega), List.take_append_of_le_length (by simp; omega)]
  exact ⟨e, by rw [fieldAt, e, ← fieldAt]⟩
/-- A store without certificates passes, and one without a header fails. -/
theorem witness_StagingClose_certs (s : State) (p : s.pm = placeT patStaging certHdrT) :
    certStoreOk (s.pmBytes patStaging 1048576) = true ∧ certStoreOk (certHdrT.drop 1) = false := by
  refine ⟨?_, by decide +kernel⟩
  have len : certHdrT.length = 64 := by decide +kernel
  have b : s.pmBytes patStaging 1048576 = certHdrT ++ fill 1048512 0xFF := by
    have e : s.pmBytes patStaging 1048576 = Memory.readN 0xFF s.pm patStaging 64 ++ Memory.readN 0xFF s.pm (patStaging + 64) 1048512 :=
      readN_add _ _ _ 64 1048512
    have h : Memory.readN 0xFF s.pm patStaging 64 = certHdrT := by
      have t := readN_placeT 0xFF certHdrT patStaging certHdrT.length (Nat.le_refl _)
      rw [List.take_length] at t
      rw [p]
      rw [len] at t
      exact t
    have r : Memory.readN 0xFF s.pm (patStaging + 64) 1048512 = fill 1048512 0xFF := ?_
    · rw [e, h, r]
    rw [p]
    refine readN_above _ _ _ _ (fun e he => ?_)
    simp only [placeT, List.mem_map] at he
    obtain ⟨x, hx, rfl⟩ := he
    have := List.snd_lt_of_mem_zipIdx hx
    rw [len] at this
    simpa using this
  have f : ∀ i n, i + n ≤ 64 → bytesAt (certHdrT ++ fill 1048512 0xFF) i n = bytesAt certHdrT i n ∧
      fieldAt (certHdrT ++ fill 1048512 0xFF) i n = fieldAt certHdrT i n :=
    fun i n h => fieldAt_left _ _ _ _ (by rw [len]; exact h)
  have c : certCount (certHdrT ++ fill 1048512 0xFF) = 0 := by
    rw [certCount, (f 6 2 (by decide)).2]
    decide +kernel
  have z : ∀ x : Bytes, bytesAt x 64 0 = [] := fun x => by simp [bytesAt]
  have h0 : fieldAt certHdrT 0 4 = 0x43455254 := by decide +kernel
  have h1 : fieldAt certHdrT 4 2 = 1 := by decide +kernel
  have h2 : fieldAt certHdrT 8 8 = 1 := by decide +kernel
  have h3 : allZero (bytesAt certHdrT 48 16) = true := by decide +kernel
  have h4 : digestOfBytes (bytesAt certHdrT 16 32) = sm3Empty := by decide +kernel
  rw [b]
  simp only [certStoreOk, certHeaderOk, c, (f 0 4 (by decide)).2, (f 4 2 (by decide)).2, (f 8 8 (by decide)).2,
    (f 48 16 (by decide)).1, (f 16 32 (by decide)).1, h0, h1, h2, h3, h4, List.range_zero, List.map_nil, List.foldl_nil,
    Nat.mul_zero, Nat.add_zero, Nat.sub_self, z]
  decide +kernel

/-- A pattern lease being closed, at a step of its copy. -/
def closeL (c : CopyStep) : TargetLease := { tgtT 4096 4096 with step := c, closing := some (⟨1, 7, 0x42⟩, false, 999) }
/-- The pattern image of 4,096 bytes has come in; its flag is written once `done`. -/
def stagedPat (done : Bool) : State :=
  let s := leaseReq 0x42 1 (tgtS 2 4096 { patLoadT true with pm := placeT patStaging imgT })
  if done then { s with boot := { s.boot with pat := some (closeL .floored) } } else s
theorem stagedPat_read (b : Bool) : (stagedPat b).pmBytes patStaging 4096 = imgT := by
  have l : imgT.length = 4096 := by decide +kernel
  have pm : (stagedPat b).pm = placeT patStaging imgT := by cases b <;> rfl
  rw [State.pmBytes, pm, readN_placeT 0xFF imgT patStaging 4096 (Nat.le_of_eq l.symm)]
  exact List.take_of_length_le (Nat.le_of_eq l)
/-- It is judged good where the open functions say so. -/
theorem stagedPat_judged (b : Bool) (k : Nat) (h : Config.sm3 ownerT = 5) (v : sm2Ok ownerT imgBodyT (fill 64 0x22) = true) :
    ∃ q, ((stagedPat b).judgeImage ((stagedPat b).pmBytes patStaging 4096) k (fun n => n = 4096)).1 = .inr q ∧ q.sequence = 9 := by
  have o := imgT_owner (stagedPat b) (by cases b <;> decide +kernel) (by cases b <;> decide +kernel) h
  have early : ((stagedPat b).judgeHeader imgT (fun n => n = 4096) <|> judgeDirectory imgT) = none := by
    simp [(imgT_header _ o v).2, imgT_directory]
  have jp : ((stagedPat b).loadBanks imgT).judgePattern imgT (fun n => n = 4096) = none := by
    have o' : (((stagedPat b).loadBanks imgT).ownerKeyUsable ownerT).isSome = true :=
      imgT_owner _ (by cases b <;> decide +kernel) (by cases b <;> decide +kernel) h
    have fld : ((stagedPat b).loadBanks imgT).judgeFields imgT = none := by
      unfold State.judgeFields
      rw [imgT_windows]
      cases b <;> decide +kernel
    have lay : ((stagedPat b).loadBanks imgT).judgeLayout imgT = none := by cases b <;> decide +kernel
    have tim : ((stagedPat b).loadBanks imgT).judgeTiming imgT = none := by cases b <;> decide +kernel
    have sch : ((stagedPat b).loadBanks imgT).judgeSchedule imgT = none := by cases b <;> decide +kernel
    simp [State.judgePattern, (imgT_header _ o' v).2, imgT_directory, imgT_click, fld, lay, tim, sch]
  have ji : ((stagedPat b).judgeImage imgT k (fun n => n = 4096)).1 = .inr (readPattern imgT
      (((((stagedPat b).loadBanks imgT).noteJudged none).ownerKeyUsable (imgKey imgT)).getD 0) k) := by
    unfold State.judgeImage
    simp only [early, Option.isNone_none, if_true, jp]
  rw [stagedPat_read, ji]
  refine ⟨_, rfl, ?_⟩
  show imgSequence imgT = 9
  decide +kernel
/-- The image is newer than the floor, and is judged again when its copy is done. -/
theorem witness_StagingClose_pattern (h : Config.sm3 ownerT = 5) (v : sm2Ok ownerT imgBodyT (fill 64 0x22) = true) :
    (∃ q, ((stagedPat false).judgeImage ((stagedPat false).pmBytes patStaging 4096) (1 - (stagedPat false).patFlag % 2)
      (fun n => n = 4096)).1 = .inr q ∧ (stagedPat false).patFloor < q.sequence) ∧
    PatternAt (stagedPat true) (closeL .floored) .floored ∧ (stagedPat true).patFlag.testBit 1 = false ∧
    ∃ q, ((stagedPat true).judgeImage ((stagedPat true).pmBytes patStaging (closeL .floored).length) ((stagedPat true).patFlag % 2)
      (fun n => n = (closeL .floored).length)).1 = .inr q := by
  obtain ⟨q, hq, n⟩ := stagedPat_judged false (1 - (stagedPat false).patFlag % 2) h v
  obtain ⟨q', hq', _⟩ := stagedPat_judged true ((stagedPat true).patFlag % 2) h v
  have fl : (stagedPat false).patFloor = 0 := by decide +kernel
  refine ⟨⟨q, hq, by omega⟩, ?_, by decide +kernel, q', hq'⟩
  unfold PatternAt CopyReady RingFree
  decide +kernel
/-- The copy journal: open for pattern slot A with `u` units, the next one `n`. -/
def journalT (t u n : Nat) : Memory :=
  [(copyJournalAddr, 0xA5), (copyJournalAddr + 1, BitVec.ofNat 8 t)] ++
  (if u = 0 then [] else [(copyJournalAddr + 5, BitVec.ofNat 8 u)]) ++ (if n = 0 then [] else [(copyJournalAddr + 7, BitVec.ofNat 8 n)])
/-- A copy at a step, with that journal. -/
def copyS (c : CopyStep) (m : Memory) : State := { linkT with boot := { stage := .running, pat := some (closeL c) }, mem := m }
theorem witness_StagingClose_copy :
    (PatternAt (copyS .staging []) (closeL .staging) .staging ∧ (copyS .staging []).copyOpen = false) ∧
    (let s := copyS .copying (journalT 2 3 2)
     PatternAt s (closeL .copying) .copying ∧ s.copyOpen = true ∧ s.copyNext < s.copyUnits) ∧
    (let s := copyS .copying (journalT 2 3 3)
     PatternAt s (closeL .copying) .copying ∧ s.copyOpen = true ∧ s.copyUnits ≤ s.copyNext) ∧
    (PatternAt (copyS .copied []) (closeL .copied) .copied ∧ (copyS .copied []).copyOpen = false) ∧
    (let s := copyS .flagged [(patFlagAddr + 3, 6)]
     PatternAt s (closeL .flagged) .flagged ∧ s.patFlag.testBit 1 = true) := by
  unfold PatternAt CopyReady RingFree; decide +kernel
/-- Slot and staging agree where both are blank, and differ where the open SM3 tells the image from a blank run. -/
theorem witness_StagingClose_compared :
    (let s := copyS .copied []
     sm3 (s.pmBytes (patSlotBase (1 - s.patFlag % 2)) (closeL .copied).length) = sm3 (s.pmBytes patStaging (closeL .copied).length)) ∧
    (sm3 (fill 4096 0xFF) ≠ sm3 imgT →
      let s := { copyS .copied [] with pm := placeT patStaging imgT }
      PatternAt s (closeL .copied) .copied ∧ s.copyOpen = false ∧
      sm3 (s.pmBytes (patSlotBase (1 - s.patFlag % 2)) 4096) ≠ sm3 (s.pmBytes patStaging 4096)) := by
  have l : imgT.length = 4096 := by decide +kernel
  have blank : ∀ a, State.pmBytes (copyS .copied []) a 4096 = fill 4096 0xFF := fun a => readN_above _ _ _ _ (by simp [copyS, linkT, host0])
  refine ⟨by simp only [show (closeL .copied).length = 4096 from rfl, blank], fun h => ⟨?_, by decide +kernel, ?_⟩⟩
  · exact ⟨⟨⟨rfl, rfl, rfl⟩, rfl⟩, rfl, by decide, rfl⟩
  · have st : State.pmBytes { copyS .copied [] with pm := placeT patStaging imgT } patStaging 4096 = imgT :=
      (readN_placeT 0xFF imgT patStaging 4096 (Nat.le_of_eq l.symm)).trans (List.take_of_length_le (Nat.le_of_eq l))
    have f : State.patFlag { copyS .copied [] with pm := placeT patStaging imgT } = 0 := by decide +kernel
    have low : State.pmBytes { copyS .copied [] with pm := placeT patStaging imgT } (patSlotBase 1) 4096 = fill 4096 0xFF := by
      refine readN_unlisted _ _ _ _ (fun e he => .inr ?_)
      simp only [placeT, List.mem_map] at he
      obtain ⟨x, _, rfl⟩ := he
      simp only [patSlotBase, patStaging, Nat.one_ne_zero, if_false]
      omega
    simp only [f, st]
    rw [show (1 - 0 % 2) = 1 from rfl, low]
    exact h
/-- The same of a certificate store. -/
def certS (c : CopyStep) (m : Memory) : State := { linkT with boot := { stage := .running, certs := some (closeL c) }, mem := m }
theorem witness_StagingClose_store :
    (∀ n ∈ [0, 15], let s := certS .copying (journalT 4 16 n)
      CopyReady s ∧ s.boot.pat = none ∧ s.boot.certs = some (closeL .copying) ∧ (closeL .copying).closing ≠ none ∧
        s.copyOpen = true ∧ s.copyNext = n) ∧
    (let s := certS .copying (journalT 4 16 16)
     CopyReady s ∧ s.copyOpen = true ∧ 16 ≤ s.copyNext) ∧
    (CopyReady (certS .copied []) ∧ (certS .copied []).copyOpen = false) := by
  unfold CopyReady RingFree; decide +kernel
theorem witness_StagingEnds :
    (let s := leaseReq 0x43 0 (platL (pLease []))
     let m := msgT 0x43 7 (natBE 4 3)
     ReqAt s 1 0x43 m [] ∧ PlatLeaseAt s 1 m 0 (pLease []) ∧ (s.plat 0).act = none ∧ (s.plat 0).cob = none) ∧
    (let s := leaseReq 0x43 0 (tgtS 1 70000 host0)
     TargetAt s 1 (msgT 0x43 7 (natBE 4 3)) 1 (tgtT 70000 70000)) ∧
    (sesT.platLease 3 = none ∧ sesT.targetOf 3 = none) ∧
    (let s := atStitch 60000000 (tgtS 2 70000 host0)
     s.live = true ∧ s.boot.pat = some (tgtT 70000 70000) ∧ (tgtT 70000 70000).closing = none ∧ (tgtT 70000 70000).lastData + 60000000 ≤ s.now) ∧
    (let s := atStitch 59999999 (tgtS 2 70000 host0)
     s.now < (tgtT 70000 70000).lastData + 60000000) ∧
    (let s := atStitch 60000000 (platL (pLease []))
     s.live = true ∧ (s.plat 0).lease = some (pLease []) ∧ (pLease []).lastData + 60000000 ≤ s.now ∧ (pLease []).verifying = false ∧
       (s.plat 0).act = none ∧ (s.plat 0).cob = none ∧ (pLease []).holder ≠ .host) ∧
    (let l : Lease := { holder := .host }
     let s := { atStitch 60000000 host0 with plats := [(0, { phase := .update, lease := some l })] }
     (s.plat 0).lease = some l ∧ l.holder = .host ∧ (s.plat 0).phase = .update ∧ RingFree s) := by
  unfold ReqAt PlatLeaseAt TargetAt RingFree; decide +kernel

/-! ### PLATFORM_CTL, keys, fuses -/

/-- A PLATFORM_CTL body: action, platform. -/
def ctlT (a p : Nat) : Bytes := [0, 0] ++ natBE 1 a ++ natBE 1 p ++ fill 4 0
/-- That request on channel 0 of a state of the small machine. -/
def ctlS (a p : Nat) (t : PlatSt) : State := reqS { linkT with plats := [(0, t)] } 0 0x50 (ctlT a p)
/-- Platform 0 without ADAPTER_HOLD. -/
def noHold : State := reqS { linkT with pat := some { patT with plats := [(0, {})] } } 0 0x50 (ctlT 0 0)
/-- It runs in RUNTIME; in UPDATE with a host lease. -/
def runT' : PlatSt := { state := .running, phase := .runtime, hold := false }
def updT : PlatSt := { state := .running, phase := .update, hold := false, lease := some { holder := .host } }
theorem witness_PlatformControl :
    (∀ a ∈ [0, 1, 2, 3, 4, 5], CtlAt (ctlS a 0 runT') 0 a 0 (msgT 0x50 7 (ctlT a 0)) []) ∧ CtlAt noHold 0 0 0 (msgT 0x50 7 (ctlT 0 0)) [] ∧
    (noHold.platRec 0).adapterHold = false ∧ (ctlS 0 0 runT').platRec 0 = platT ∧ platT.adapterHold = true ∧ platT.updateEn = true ∧
    MayPost (ctlS 0 0 runT') ∧ State.ringSpare { ctlS 0 0 runT' with heel := { tail := 63 } } = false ∧ (ctlS 1 0 {}).env.cleared = false ∧ (ctlS 1 0 {}).platRec? 0 ≠ none ∧ ((ctlS 1 0 {}).plat 0).state = .held ∧
    (ctlS 1 0 {}).fillWaits 0 = false ∧ (∀ q < 64, (ctlS 1 0 {}).raiseWaits q = false) ∧ (ctlS 1 0 {}).deferred = [] ∧
    CtlAt (ctlS 1 0 { cob := some {} }) 0 1 0 (msgT 0x50 7 (ctlT 1 0)) [] ∧ (ctlS 1 0 { cob := some {} }).fillWaits 0 = true ∧ (ctlS 1 0 {}).epochCounter < epochMax ∧
    ((ctlS 2 0 { state := .quarantined }).plat 0).state = .quarantined ∧
    CtlAt (ctlS 4 0 updT) 0 4 0 (msgT 0x50 7 (ctlT 4 0)) [] ∧ MayPost (ctlS 4 0 updT) ∧ ((ctlS 4 0 updT).plat 0).lease = some { holder := .host } ∧
    (∀ k ∈ [0, 1], let b := natBE 1 0 ++ natBE 1 k ++ [6, 0xFF] ++ natBE 4 1000
      let s := reqS { linkT with plats := [] } 0 0x50 b
      let m := msgT 0x50 7 b
      ReqAt s 0 0x50 m [] ∧ fieldAt (m.drop 12) 2 1 = 6 ∧ fieldAt (m.drop 12) 3 1 = 0xFF ∧ 1000 ≤ fieldAt (m.drop 12) 4 4 ∧
        s.quiesceOk (fieldAt (m.drop 12) 1 1 = 1) (fieldAt (m.drop 12) 4 4) = none ∧ s.ringSpare = true) := by
  unfold CtlAt ReqAt MayPost RingFree; decide +kernel

/-- A blob of form `f` and type SM4 for slot `n`, exportable, under the root. -/
def blobT (f n : Nat) : Bytes := natBE 1 f ++ [1, 1, 1] ++ natBE 2 0xFFFF ++ natBE 2 n ++ fill 20 0 ++ fill 16 1 ++ fill 224 0
/-- A KEY_IMPORT or KEY_REPLACE body. -/
def keyT (f n : Nat) : Bytes := natBE 2 0 ++ natBE 2 n ++ blobT f n
/-- The request in PROVISION, with keys `v` in the volatile slots. -/
def keyS (op f n : Nat) (v : Tbl KeyRec) : State := provT (reqS { linkT with keys := { vol := v } } 0 op (keyT f n))
/-- A key. -/
def recT : KeyRec := { material := 5, type := 1, usage := 1, parent := 0xFFFF, ownGen := 3 }
theorem witness_KeyCommands :
    (∀ n ∈ [1024, 1279], ReqAt (keyS 0x60 0 n []) 0 0x60 (msgT 0x60 7 (keyT 0 n)) [] ∧ (keyS 0x60 0 n []).keyOpRuns = false ∧
      (keyS 0x60 0 n []).pair.role ≠ .active) ∧
    (keyS 0x60 0 15 []).keyRefuses false 15 (blobT 0 15) = some Code.keySlotReserved ∧
    State.keyOpRuns { linkT with vamp := { linkT.vamp with jobs := [(0, none, .key ⟨false, 0, [], none⟩)] } } = true ∧
    ReqAt (keyS 0x60 2 1024 []) 0 0x60 (msgT 0x60 7 (keyT 2 1024)) [] ∧
    (let m := msgT 0x60 7 (keyT 2 1024)
     (keyS 0x60 2 1024 []).keyRefuses false (fieldAt (m.drop 12) 2 2) (m.drop 16) = none ∧ fieldAt (m.drop 16) 0 1 = 2) ∧
    (keyS 0x60 2 1024 []).patNext = none ∧ (keyS 0x60 2 1024 []).vamp.ledgerEnd = linkT.vamp.ledgerEnd ∧
    (keyS 0x60 2 1024 []).stitch.active.rows = [] ∧ (keyS 0x60 2 1024 []).now = linkT.now ∧
    ReqAt (keyS 0x61 0 1024 [(1024, recT)]) 0 0x61 (msgT 0x61 7 (keyT 0 1024)) [] ∧
    (∀ n ∈ [16, 1023, 1024, 1279], let b := natBE 2 0 ++ natBE 2 n
      let s := reqS { linkT with keys := { vol := [(n, recT)], store := [(256 * n + 3, 3)] } } 0 0x62 b
      ReqAt s 0 0x62 (msgT 0x62 7 b) [] ∧ fieldAt ((msgT 0x62 7 b).drop 12) 2 2 = n ∧ s.keyOpRuns = false ∧ s.keysClosed = none ∧
        (match s.keyRec n with | .empty _ => false | _ => true) = true ∧ s.genExhausted n = false ∧ linkT.keyRec n = .empty 0) ∧
    (∀ n ∈ [1280, 16, 0], let b := natBE 2 0 ++ natBE 2 n
      ReqAt (reqS linkT 0 0x63 b) 0 0x63 (msgT 0x63 7 b) [] ∧ fieldAt ((msgT 0x63 7 b).drop 12) 2 2 = n) ∧
    (linkT.slotInfo 16).type ≠ 4 ∧ (linkT.slotInfo 0).type = 4 ∧ linkT.slotState 0 ≠ 2 := by
  unfold ReqAt; decide +kernel
/-- The check value of the test key, where the open block cipher gives zeros for its key. -/
theorem checkT (h : Config.sm4Block (BitVec.ofNat 128 (beNat (fill 16 1))) 0 = 0) :
    checkValue 1 (BitVec.ofNat 256 (beNat (fill 16 1 ++ fill 16 0))) = fill 8 0 := by
  have m : (digestBytes (BitVec.ofNat 256 (beNat (fill 16 1 ++ fill 16 0)))).take (keyLen 1) = fill 16 1 := by decide +kernel
  unfold checkValue
  simp only [m, h]
  decide +kernel
/-- The PLAIN blob passes where the open block cipher gives zeros for its key. -/
theorem witness_KeyCommands_plain (h : Config.sm4Block (BitVec.ofNat 128 (beNat (fill 16 1))) 0 = 0) :
    PlainBlob (keyS 0x60 0 1024 []) false (msgT 0x60 7 (keyT 0 1024)) 1024 (fill 16 1 ++ fill 16 0) ∧
    PlainBlob (keyS 0x61 0 1024 [(1024, recT)]) true (msgT 0x61 7 (keyT 0 1024)) 1024 (fill 16 1 ++ fill 16 0) := by
  have c := checkT h
  unfold PlainBlob
  and_intros
  all_goals try first | decide +kernel | rfl
  · have a : fieldAt ((msgT 0x60 7 (keyT 0 1024)).drop 16) 1 1 = 1 := by decide +kernel
    have b : bytesAt ((msgT 0x60 7 (keyT 0 1024)).drop 16) 8 8 = fill 8 0 := by decide +kernel
    rw [a, b, c]
  · have a : fieldAt ((msgT 0x61 7 (keyT 0 1024)).drop 16) 1 1 = 1 := by decide +kernel
    have b : bytesAt ((msgT 0x61 7 (keyT 0 1024)).drop 16) 8 8 = fill 8 0 := by decide +kernel
    rw [a, b, c]
/-- A blob of a persistent slot whose steps have run. -/
def keyJobT : State := {
  linkT with
  vamp := { linkT.vamp with jobs := [(3, some ⟨0, 7, 0x60⟩, .key ⟨false, 16, blobT 0 16, none⟩)] }
  point := { ops := [{ owner := 4, ident := 4099, engine := some 0, steps := 0, total := 418 }] } }
theorem witness_KeyCommands_job (h : Config.sm4Block (BitVec.ofNat 128 (beNat (fill 16 1))) 0 = 0) :
    keyJobT.live = true ∧
    keyJobT.vamp.jobs.find? (fun j => j.1 = 3) = some (3, some ⟨0, 7, 0x60⟩, .key ⟨false, 16, blobT 0 16, none⟩) ∧
    keyJobT.opDone 4 (4096 + 3) = true ∧ keyJobT.targetRefuses false 16 = none ∧
    keyJobT.unwrapBlob none (blobT 0 16) = .ok (fill 16 1 ++ fill 16 0) ∧
    checkValue (fieldAt (blobT 0 16) 1 1) (BitVec.ofNat 256 (beNat (fill 16 1 ++ fill 16 0))) = bytesAt (blobT 0 16) 8 8 ∧
    keyJobT.genExhausted 16 = false ∧ keyJobT.keys.commit = none := by
  refine ⟨by decide +kernel, by decide +kernel, by decide +kernel, by decide +kernel, rfl, ?_, by decide +kernel, rfl⟩
  rw [show fieldAt (blobT 0 16) 1 1 = 1 from by decide +kernel, checkT h]
  decide +kernel
/-- A record is about to be written. -/
def commitT (r : KeyRec) (n half : Nat) : State :=
  { atStitch 5 linkT with keys := { commit := some { slot := n, half := half, record := r, began := 4 } } }
theorem witness_KeyCommands_commit :
    ∀ r ∈ [recT, {}], ∀ n ∈ [16, 1023], ∀ k ∈ [0, 1], let c : KeyCommit := { slot := n, half := k, record := r, began := 4 }
      (commitT r n k).keys.commit = some c ∧ c.began < (commitT r n k).now ∧ c.record.type < 256 ∧ c.record.usage < 256 ∧
      c.record.parent < 65536 ∧ c.record.parentGen < 2 ^ 32 ∧ (commitT r n k).word keyGenAddr < 0xFFFFFFFF ∧ c.record.bad = false ∧
      (commitT r n k).keys.queue = [] := by
  decide +kernel
theorem witness_KeyCommands_engines : EnginesFree linkT linkT.vamp.ledgerEnd := by
  refine ⟨by decide +kernel, fun e => ?_⟩
  rcases e with _ | _ | _ | _ | e <;> simp [linkT, host0, State.now]

/-- A fuse body: word, mask, signature. -/
def fuseT (w k : Nat) : Bytes := natBE 4 w ++ natBE 4 k ++ fill 64 0
/-- A job of word `w` on bit 0. -/
def jobT (r : FuseReq) : State := { host0 with fuse := { job := some { req := r, bits := 1, began := 0, entry := 3 } } }
/-- Life-cycle word `w` blown, with the request in front. -/
def fuseS (w op : Nat) (b : Bytes) : State := lcT w (reqS linkT 0 op b)
theorem witness_FuseRequests :
    (∀ w ∈ [13, 14, 37, 38, 511], let b := natBE 4 w
      ReqAt (reqS linkT 0 0x80 b) 0 0x80 (msgT 0x80 7 b) [] ∧ fieldAt ((msgT 0x80 7 b).drop 12) 0 4 = w) ∧
    linkT.fuse.job = none ∧ (jobT { word := 152 }).fuse.job ≠ none ∧ linkT.lifecycle ≠ 1 ∧ linkT.fuseReserved = false ∧
    State.fuseReserved { linkT with fuse := { asked := [{}] } } = true ∧ (fuseS 1 0x82 (fuseT 4 1)).fuseReserved = false ∧
    State.ringSpare { reqS linkT 0 0x82 (fuseT 152 1) with heel := { tail := 63 } } = false ∧ (fuseS 1 0x82 (fuseT 4 1)).ringSpare = true ∧
    (fuseS 1 0x83 (natBE 4 3 ++ fill 64 0)).ringSpare = true ∧
    (let b := natBE 2 1 ++ natBE 2 152 ++ natBE 4 9
     let s : State := { reqS linkT 0 0x81 b with fuse := { shadow := [(0, { firmA := 1, weakA := 1 }), (148, { firmA := 4, weakA := 4 })] } }
     let m := msgT 0x81 7 b
     ReqAt s 0 0x81 m [] ∧ fieldAt (m.drop 12) 2 2 = 152 ∧ s.lifecycle = 1 ∧ s.splitBad = false ∧ fieldAt (m.drop 12) 0 2 = 1 ∧
       152 < 152 + s.split) ∧
    (∀ w ∈ [152, 4], ReqAt (reqS linkT 0 0x82 (fuseT w 1)) 0 0x82 (msgT 0x82 7 (fuseT w 1)) [] ∧
      fieldAt ((msgT 0x82 7 (fuseT w 1)).drop 12) 4 4 ≠ 0 ∧ fieldAt ((msgT 0x82 7 (fuseT w 1)).drop 12) 0 4 = w) ∧
    (fuseS 1 0x82 (fuseT 4 1)).lifecycle = 2 ∧ MayPost (reqS linkT 0 0x82 (fuseT 152 1)) ∧
    fieldAt ((msgT 0x82 7 (fuseT 504 0)).drop 12) 4 4 = 0 ∧ 504 ≤ fieldAt ((msgT 0x82 7 (fuseT 504 0)).drop 12) 0 4 ∧
    ReqAt (fuseS 1 0x83 (natBE 4 3 ++ fill 64 0)) 0 0x83 (msgT 0x83 7 (natBE 4 3 ++ fill 64 0)) [] ∧
    fieldAt ((msgT 0x83 7 (natBE 4 3 ++ fill 64 0)).drop 12) 0 4 = 3 ∧ linkT.lifecycle ≤ 1 := by
  unfold ReqAt MayPost RingFree; decide +kernel

/-- VFPROG at 2.5 V and a middle temperature. -/
def blowEnv (s : State) : State := { s with fuse := { s.fuse with vfprog := 2500 }, env := { s.env with latest := [(24, 2000)] } }
/-- FUSE_GATE ARGS for word `w`, bit 0. -/
def gateT (w : Nat) : Bytes := natBE 1 0 ++ natBE 2 w ++ natBE 4 1 ++ natBE 4 0
/-- A job whose environment was bad in a stitch before. -/
def envJ : FuseJob := { req := { word := 152, mask := 1 }, bits := 1, began := 0, entry := 3, abort := some (some Code.fuseProgramEnv) }
def envT : State := { host0 with fuse := { job := some envJ } }
/-- Core SRAM and MRAM say FLOOR_PENDING; SCUTTLE_PENDING. -/
def floorT : State := { blowEnv host0 with mem := [(bootStateAddr + 3, 0x80)], boot := { stage := .running, header := fill 12 0 ++ natBE 2 3 ++ fill 370 0 } }
def scutT : State := { blowEnv host0 with mem := [(tamperWordAddr + 3, 1)] }
theorem witness_FuseBlowing :
    (∀ w ∈ [152, 8], AtHead (ask (blowEnv (provT host0)) 0x10 (gateT w)) 0x10 11 (ent 0x10 (gateT w)) ∧ fieldAt (ent 0x10 (gateT w)).args 0 1 ≤ 1) ∧
    State.fuseRefuses (ask (blowEnv (provT host0)) 0x10 (gateT 152)) (State.gateReq (ask (blowEnv (provT host0)) 0x10 (gateT 152)) (ent 0x10 (gateT 152))) = none ∧
    State.fuseRefuses (ask (blowEnv (provT host0)) 0x10 (gateT 8)) (State.gateReq (ask (blowEnv (provT host0)) 0x10 (gateT 8)) (ent 0x10 (gateT 8))) =
      some Code.fuseWordDenied ∧
    (ask (blowEnv (provT host0)) 0x10 (gateT 152)).fuse.job = none ∧
    (ask (blowEnv (provT host0)) 0x10 (gateT 152)).fuseReserved = false ∧
    (ask (blowEnv (provT host0)) 0x10 (gateT 152)).heel.head < 64 ∧
    (∀ w ∈ [152, 3], (jobT { word := w, mask := 1 }).pwr.mainDown = false ∧ (jobT { word := w, mask := 1 }).heel.owed = none ∧ (jobT { word := w, mask := 1 }).fuse.job.isSome = true) ∧
    (let s := jobT { word := 152, mask := 1 }
     s.fuseEnvOk = false ∧ (s.fuse.job.map (·.abort)) = some none ∧ envT.fuse.job = some envJ ∧ envJ.abort = some (some Code.fuseProgramEnv) ∧
     (∃ t, exec (.fuseProgramDone 1 1 0 0) s = .next t ∧ (t.freshLoose 152) &&& 1 = 1 ∧ (t.freshTight 152) &&& 1 = 1) ∧
     (∃ t, exec (.fuseProgramDone 0 1 0 0) s = .next t ∧ (t.freshLoose 152) &&& 1 = 1 ∧ (t.freshTight 152) &&& 1 ≠ 1) ∧
     ∃ t, exec (.fuseProgramDone 0 0 0 0) s = .next t ∧ (t.freshLoose 152) &&& 1 ≠ 1) ∧
    (floorT.live = true ∧ floorT.boot.stage ≠ .stopped ∧ floorT.bootState.testBit 7 = true ∧ floorT.fuseEnvOk = true ∧ floorT.fuse.job = none ∧
      floorT.fuseLocked 4 = false ∧ floorT.arbCount = 0 ∧ floorT.confFloor = some 3) ∧
    (scutT.live = true ∧ scutT.scuttlePending = true ∧ scutT.vfprogOk = true ∧ scutT.fuse.job = none ∧ scutT.boot.stage ≠ .rom ∧
      scutT.freshLoose 3 = 0 ∧ (1 ||| 0) &&& 0xFFFFFFFF ≠ 0 ∧ (0 ||| 0) &&& 0xFFFFFFFF = 0) := by
  unfold AtHead AtHeadAny
  and_intros <;> first | decide +kernel | (refine ⟨_, rfl, ?_⟩; decide +kernel)

/-! ### Pairs, the lace, the domain -/

/-- All sole channels tested. -/
def testedS (s : State) : State := { s with sole := { s.sole with chans := (List.range 8).map (fun c => (c, { tested := true })) } }
/-- Both partner ports and one ring port run. -/
def portsT : Tbl LacePort := [0, 1, 3].map (fun k => (k, { trained := true, keyed := true, lost := false }))
/-- A unit of a pair with that record, the partner path up. -/
def pairS (q : PairSt) : State := { testedS host0 with pair := { q with pairEn := true, ports := portsT, partnerLost := false, unitId := 5 } }
/-- A claim at stitch 10, in stage `n`, `k` stitches later. -/
def claimS (r : Role) (n k : Nat) : State := atStitch (10 + k) (pairS { role := r, claim := some ⟨10, n⟩ })
/-- The active unit, whose standby is fit and covers platform 0. -/
def swapT (s : State) : State :=
  { s with pair := { role := .active, pairEn := true, ports := portsT, partnerLost := false, unitId := 5, driveA := true
                     partner := { ever := true, flags := 1, shadowOk := 1 } } }
/-- It has read its first line high in two stitches. -/
def readT : State := let s := swapT host0; { s with pair := { s.pair with readA := 2 } }
/-- A fit standby that has seen the shank released. -/
def freeT : State := atStitch 30 (pairS { role := .standby, released := some 28 })
theorem witness_ClaimAndTakeover :
    (let s := pairS { role := .standby, highRun := 2, splitRun := 2 }
     Standby s ∧ s.paired = true ∧ s.pair.released = none ∧ s.fit = true ∧ s.pair.disagree = false ∧ 2 ≤ s.pair.highRun ∧
       2 ≤ s.pair.splitRun ∧ (true != false) = true) ∧
    State.fit (pairS { role := .standby, unfitRelease := true, highRun := 2 }) = false ∧ (pairS { role := .standby }).pair.highRun < 2 ∧
    (pairS { role := .standby, disagree := true }).pair.disagree = true ∧
    (let s := claimS .standby 0 0
     Standby s ∧ s.pair.claim = some ⟨10, 0⟩ ∧ (10 : Nat) = s.now ∧ s.fit = true) ∧
    (let s := claimS .claiming 1 1
     s.live = true ∧ s.pair.role = .claiming ∧ s.pair.claim = some ⟨10, 1⟩ ∧ s.now = 10 + 1 ∧ s.evenUnit = false) ∧
    (∀ k ∈ [2, 3, 4], let s := claimS .claiming 2 k
     s.live = true ∧ s.pair.role = .claiming ∧ s.pair.claim = some ⟨10, 2⟩ ∧ s.now = 10 + k ∧ s.deferred.contains .takeover = false) ∧
    (readT.live = true ∧ readT.pair.role = .active ∧ readT.pair.driveA = true ∧ 2 ≤ readT.pair.readA ∧ readT.env.fatal = none) ∧
    (AtHead (ask freeT 0x12 (natBE 1 1)) 0x12 1 (ent 0x12 (natBE 1 1)) ∧ (ask freeT 0x12 (natBE 1 1)).claimReady = true ∧
      (ask freeT 0x12 (natBE 1 1)).pair.claim = none ∧ (ask (swapT host0) 0x12 (natBE 1 1)).claimReady = false) ∧
    (∀ k ∈ [0, 1], AtHead (ask (swapT host0) 0x12 (natBE 1 k)) 0x12 1 (ent 0x12 (natBE 1 k)) ∧ fieldAt (ent 0x12 (natBE 1 k)).args 0 1 = k) ∧
    (swapT host0).swapReady = true := by
  unfold Standby AtHead AtHeadAny; decide +kernel

/-- Port 0 with the given state. -/
def portS (k : Nat) (q : LacePort) (l3 : Bool) : State :=
  { pairS { role := .standby } with pair := { (pairS { role := .standby }).pair with ports := [(k, q), (3, { lost := l3 })] } }
theorem witness_LacePorts :
    (let s := atStitch 10 (pairS { role := .standby, beatAt := some 0 })
     s.live = true ∧ s.paired = true ∧ s.pair.beatAt = some 0 ∧ 0 + 10 ≤ s.now ∧ s.portRuns 0 = true) ∧
    (∀ k : Fin 4, k ≠ 2 → (pairS { role := .standby }).portRuns k.val = true) ∧
    (pairS { role := .standby }).neighbour 1 ≠ (pairS { role := .standby }).pair.unitId ^^^ 1 ∧ (fill 56 0 : Bytes).length = 56 ∧
    (∀ l ∈ [true, false], let s := atStitch 500 (portS 0 { trained := true, keyed := true, lost := false, lastHeard := some 0 } l)
      s.live = true ∧ s.paired = true ∧ (s.port 0).lost = false ∧ (s.port 0).lastHeard = some 0 ∧ 0 + 500 ≤ s.now ∧ (s.port 3).lost = l) ∧
    (let s := portS 2 {} false
     s.live = true ∧ s.paired = true ∧ (s.port 2).trained = false ∧ (s.port 2).retired = false ∧ (s.port 2).keyed = false ∧
       s.env.refclkFallback = false) ∧
    (let s : State := { portS 0 { trained := true, lost := true } false with keys := { slot4 := some 5 } }
     s.live = true ∧ s.paired = true ∧ (s.port 0).retired = false ∧ s.keys.slot4 ≠ none ∧ (s.port 0).trained = true) := by
  decide +kernel

/-- A MIRROR of platform 3's flag, unacknowledged since stitch 0. -/
def mirT : MirrorMsg := ⟨.flag 3 9, 77, 0, 0⟩
/-- A key on its way to slot `n`. -/
def xferT (n : Nat) : Bytes := natBE 2 n ++ [1, 1] ++ fill 12 0 ++ fill 48 0
/-- Mirror page 1 and its digest sector as they are sealed. -/
def rawT : Memory := Memory.writeN 0 (Memory.writeN 0 [] 4352 (sealPage 5 3 0 0 1 1 pageT)) (digestBase 0 0)
  (sm4Seal 5 (soleNonce 3 1 0 0 0) (soleAad 0 0 0) secT)
/-- A unit of a pair whose sole holds them. -/
def pageS (q : PairSt) : State := { pairS q with sole := { (pairS q).sole with raw := rawT } }
/-- A part of a written run reads back. -/
theorem readN_writeN_at (d : Byte) (m : Memory) (a o n : Nat) (bs : Bytes) (h : o + n ≤ bs.length) :
    Memory.readN d (Memory.writeN d m a bs) (a + o) n = bytesAt bs o n := by
  apply List.ext_getElem
  · simp [Memory.readN, bytesAt]; omega
  · intro i h1 h2
    have hi : o + i < bs.length := by simp [bytesAt] at h2; omega
    simpa [Memory.readN, bytesAt, Nat.add_assoc] using Laws.read_writeN_inside d m a (o + i) bs hi
/-- The page opens to `pageT`, and its entry is its SM3. -/
theorem pageS_opens (q : PairSt) (x : PairSt) (hq : q = x) (hb : (pageS x).pageBound 1 = some 0) (hk : (pageS x).epochKeyOf 0 = some 5)
    (he : (pageS x).epochOf 0 = 3) (hf : (pageS x).frameOf 1 = 1) :
    (pageS q).pagePlain 1 = some pageT ∧ (pageS q).pageDigest 1 = some (sm3 pageT) := by
  subst hq
  have len : (sm4Seal 5 (soleNonce 3 1 0 0 0) (soleAad 0 0 0) secT).length = 272 := by
    rw [sm4Seal_length]
    simp only [secT, fill, digestBytes, List.length_append, List.length_replicate, natBE_length]
  have raw : (pageS q).sole.raw = rawT := by simp only [pageS]
  refine ⟨Laws.pagePlain_of_sectors _ 1 pageT witness_PageJudgement_length (page1_sector _ hb hk he hf (fun o n h => ?_)), ?_⟩
  · rw [raw, rawT, Laws.readN_writeN_disjoint _ _ _ _ _ _ (.inl (by simp only [digestBase]; omega))]
    exact readN_writeN_at _ _ _ _ _ _ (by rw [Laws.sealPage_length]; exact h)
  · have e : Memory.readN 0 (pageS q).sole.raw (digestBase 0 0) 272 = sm4Seal 5 (soleNonce 3 1 0 0 0) (soleAad 0 0 0) secT := by
      rw [raw, rawT, ← len]
      exact Laws.readN_writeN _ _ _ _
    rw [← secT_entry]
    refine Laws.pageDigest_of_raw _ 1 0 5 secT hb hk ?_
    rw [he]
    exact e
theorem witness_PartnerMessages :
    (let s := pairS { role := .standby }
     s.follows = true ∧ s.pat ≠ none ∧ s.platRec? 0 ≠ none ∧ s.partnerHere = true ∧ s.pair.ownReads = [] ∧ (∀ i ∈ [0, 63], (s.plat i).act = none)) ∧
    (let s := pairS { role := .active, mirrors := [mirT] }
     s.partnerHere = true ∧ s.pair.role = .active ∧ s.pair.mirrors.find? (fun x => x.seq = mirT.seq) = some mirT ∧ mirT.item = .flag 3 9 ∧
       (9 : Nat) < 2 ^ 32 ∧ (s.plat 3).act = none ∧ mirT.last + 10 ≤ (atStitch 100 s).now ∧ mirT.first + 100 ≤ (atStitch 100 s).now) ∧
    ((List.replicate 64 5 : List Nat).length = 64 ∧ (List.replicate 1024 6 : List Nat).length = 1024) ∧
    (let s := pairS { role := .active }
     s.live = true ∧ s.mirrorOf (2 * 0) ((4096 : BitVec 32).toNat / 4096) = some 1 ∧ s.pageState 1 = .valid) ∧
    (∀ n ∈ [1024, 1279], (pairS { role := .standby }).keysClosed = none ∧ (pairS { role := .standby }).keyOpRuns = false ∧
      (pairS { role := .standby }).portRuns 0 = true ∧ fieldAt (xferT n) 0 2 = n ∧
      keyPairs (fieldAt (xferT n) 3 1) (fieldAt (xferT n) 2 1) = true ∧ (pairS { role := .standby }).genExhausted n = false ∧
      materialOk (fieldAt (xferT n) 2 1) (fill 16 3 ++ fill 16 0) = true) := by
  decide +kernel
/-- The page's own read is kept at the standby, and the active unit's copy agrees with its entry. -/
theorem witness_PartnerMessages_page :
    (let s := pageS { role := .standby, ownReads := [(0, 1, 2, sm3 pageT)] }
     s.partnerHere = true ∧ s.pair.ownReads = [(0, 1, 2, sm3 pageT)] ∧ s.lastEntry? 0 = some lastT ∧ (s.plat (0 / 16)).act = none ∧
       s.pageDigest ((s.lastSegment lastT).solePage.getD 0 + 1) = some (sm3 pageT)) ∧
    (pageS { role := .active }).pagePlain 1 = some pageT ∧ (pageS { role := .active }).pageDigest 1 = some (sm3 pageT) := by
  refine ⟨⟨rfl, rfl, rfl, rfl, ?_⟩, pageS_opens _ _ rfl (by decide +kernel) (by decide +kernel) (by decide +kernel) (by decide +kernel)⟩
  exact (pageS_opens { role := .standby, ownReads := [(0, 1, 2, sm3 pageT)] } _ rfl rfl rfl rfl rfl).2
/-- A key sealed for the port opens, and one whose tag is not that of its bytes does not. -/
theorem witness_PartnerMessages_key (key : BitVec 128) :
    (let b := natBE 2 1024 ++ [1, 1] ++ fill 12 0 ++ sm4Seal key 0 (natBE 2 1024 ++ [1, 1]) (fill 16 3 ++ fill 16 0)
     fieldAt b 4 12 = 0 ∧ sm4Open key (fieldAt b 4 12) (b.take 4) (b.drop 16) = some (fill 16 3 ++ fill 16 0) ∧
       (fill 16 3 ++ fill 16 0 : Bytes).length = 32 ∧ materialOk 1 (fill 16 3 ++ fill 16 0) = true) ∧
    (let b := natBE 2 1024 ++ [1, 1] ++ fill 12 0
     fieldAt b 0 2 = 1024 ∧ sm4Open key (fieldAt b 4 12) (b.take 4) (b.drop 16) = none) := by
  refine ⟨⟨rfl, ?_, rfl, by decide +kernel⟩, rfl, rfl⟩
  exact sm4Open_sm4Seal key 0 _ _

/-- A link beside a pair. -/
def ctlPair (op : Nat) (q : PairSt) : State := { reqS linkT 0 0x90 (natBE 4 op) with pair := q }
/-- A swap was asked for, its release in stitch 5; the partner is heard in stitch `h` in role `r`. -/
def resT (h r : Nat) : State :=
  atStitch 106 (pairS { role := .standby, swap := some (⟨0, 7, 0x90⟩, 5), partner := { ever := true, heard := h, role := r } })
theorem witness_SwapAndDomain :
    (let s := ctlPair 0 {}
     let m := msgT 0x90 7 (natBE 4 0)
     ReqAt s 0 0x90 m [] ∧ fieldAt (m.drop 12) 0 4 = 0 ∧ s.pair.role ≠ .active) ∧
    State.swapReady (ctlPair 0 { role := .active }) = false ∧
    (let s := swapT (ctlPair 0 {})
     s.pair.role = .active ∧ s.swapReady = true ∧ s.pair.swap = none ∧ RingFree s) ∧
    (∀ x ∈ [(5, 3), (105, 3), (105, 1)], (resT x.1 x.2).live = true ∧ (resT x.1 x.2).pair.swap = some (⟨0, 7, 0x90⟩, 5) ∧ 5 ≤ (resT x.1 x.2).now ∧
      5 ≤ (resT x.1 x.2).pair.partner.heard ∧ (resT x.1 x.2).pair.partner.heard ≤ 5 + 100 ∧ 5 + 100 < (resT x.1 x.2).now) ∧
    (∀ k ∈ [1, 2], let m := msgT 0x90 7 (natBE 4 k)
      ReqAt (ctlPair k { role := .active, solo := true }) 0 0x90 m [] ∧ fieldAt (m.drop 12) 0 4 = k) ∧
    State.paired (ctlPair 1 { role := .active }) = true ∧ PairSt.partnerLost {} = true ∧
    (pairS { role := .standby }).pair.domainSent = none ∧ (pairS { role := .standby }).paired = true ∧
    (let s := pairS { role := .standby, domainSent := some (0, 1, true, 0xFF) }
     s.pair.domainSent = some (s.now, s.domainNow)) ∧
    RingNew leadT ringT ∧
    (let s := atStitch 501 (pairS { role := .standby, members := [(3, { ever := true, silent := false })] })
     s.live = true ∧ s.paired = true ∧ (s.member 3).ever = true ∧ (s.member 3).silent = false ∧ (s.member 3).heard + 500 < s.now) := by
  unfold ReqAt RingFree RingNew; decide +kernel

/-! ### Tamper, freeze, power, the whole machine -/

/-- The block sleeps. -/
def sleepT (m : PowerMode) : State := { host0 with heel := { mode := m }, pwr := { mainpg := false, mainEn := false } }
theorem witness_TamperAndFreeze :
    (∀ i : Fin 64, i = 0 ∨ i = 28 ∨ i = 34 → host0.sensorArmed i.val = true) ∧ host0.sensorArmed 63 = false ∧ host0.heel.mode = .on ∧
    (sleepT .keep).sensorArmed 24 = true ∧ (sleepT .keep).heel.mode ≠ .on ∧ host0.live = true ∧ host0.env.hotOut = false ∧
    host0.env.fatal = none ∧ host0.frz.entering = none ∧ host0.freezeHonoured = true ∧
    State.freezeHonoured (lcT 1 host0) = false ∧
    (∀ c ∈ [0, 7], (frozT host0).chainOk true c = true ∧ (frozT host0).frz.frozen = true ∧ 0 + 4 ≤ chainBytes c) ∧
    State.live { host0 with frz := { coreDebug := true } } = true := by
  decide +kernel
/-- A quiescent entry is accepted and due. -/
def entryT : State := { host0 with deferred := [.quiesce true 1000] }
theorem witness_PowerModes :
    (host0.pwr.mainpg = true ∧ twf {} host0.plats = true ∧ host0.pwr.mainEn = true ∧ host0.heel.mode = .on ∧ host0.pair.role = .unpaired) ∧
    (pairS { role := .active }).pair.role = .active ∧ (sleepT .keep).pwr.mainEn = false ∧
    (sleepT .keep).pwr.mainpg = false ∧ (sleepT .keep).pwr.mainDown = false ∧ (sleepT .keep).pwr.waking = none ∧
    PowerSt.mainDown { mainpg := false, mainDown := true } = true ∧
    (∀ c ∈ [1, 3], State.mayWake (sleepT .bare) c = true) ∧ entryT.heel.mode = .on ∧ entryT.quiesceDue = true ∧ entryT.mayWake 3 = true ∧ (sleepT .bare).heel.mode ≠ .on ∧
    (let s : State := { atStitch 20000 (sleepT .keep) with pwr := { mainpg := false, waking := some (0, 3) } }
     s.pwr.waking = some (0, 3) ∧ 0 + 20000 ≤ s.now ∧ s.pwr.mainpg = false) ∧
    (atStitch 19999 (sleepT .keep)).now < 0 + 20000 := by
  decide +kernel

/-- A quiet stitch. -/
def quietT : StitchFacts := ⟨[], [], [], [], [], [], true, true⟩
/-- A verified platform whose release the boundary brings. -/
def letT : State := { host0 with sole := {}, plats := [(0, { state := .verified })], deferred := [.release 0] }
theorem witness_StitchCounter :
    host0.live = true ∧ (∃ t, exec (.drill 5) host0 = .next t) ∧ Instr.drill 5 ≠ .stitchBoundary quietT ∧
    (∃ r, r ≤ 4 ∧ 4 ≤ r) := ⟨by decide +kernel, ⟨_, rfl⟩, by simp, 4, by decide⟩
/-- A queue of two commands, the first of which writes every margin of a fuse word and a byte of memory. -/
def queueT : State := { floorT with sole := {}, pending := [.floorRaise [(7, 7)], .drill 1], fuse := { floorT.fuse with otp := [(0, { firmA := 1, weakA := 1 })] } }
theorem witness_StepRunsFront : queueT.pending ≠ [] ∧ host0.pending = [] := by simp [queueT, host0]
theorem witness_StepKeepsMemories : (∃ t, Steps queueT t) ∧ MemoriesWf queueT := ⟨⟨_, rfl⟩, by unfold MemoriesWf; decide +kernel⟩
theorem witness_FusesNeverUnblow :
    ∃ t, Steps queueT t ∧ ((tget {} t.fuse.otp 136).loose.testBit 0 = true) ∧ (tget {} t.fuse.otp 0).loose.testBit 0 = true :=
  ⟨_, rfl, by decide +kernel, by decide +kernel⟩
/-- The boundary releases a verified platform. -/
theorem witness_HoldsReleasedAtBoundaries :
    (∃ t, exec (.stitchBoundary quietT) letT = .next t ∧ Releases letT t 0) ∧ twf {} letT.plats = true := by
  unfold Releases
  exact ⟨⟨_, rfl, by decide +kernel⟩, by decide +kernel⟩

/-! ### Well-formed and ill-formed commands -/

/-- A schedule row, straps, a ring header. -/
def strapsT : Straps := ⟨3, false, 0, List.replicate 8 1800⟩
/-- The greatest number each check admits. -/
theorem test_wf :
    (∀ i ∈ [Instr.stitchBoundary ⟨[255], [(7, 9)], [(8 * 524288 - 1, 15)], [7], [(64, 4095)], [1279], true, true⟩, .statusPoll 511 0 false, .bootDone 63,
      .fillJobStart 63, .lastHeaderVerified 1023, .pageReadDone (.fill 1023) [] false, .pageReadDone (.activation 63) [] false,
      .pageReadDone (.rejoin (8 * 524288 - 1)) [] false, .leaseExpiry (.platform 63), .leaseExpiry .certs, .hotRefreshChange 4095,
      .heelRingTailWrite 4 0, .coldPowerOn strapsT, .floorRaise (List.replicate 8 (2 ^ 32 - 1, 0)), .hello 8, .dgstOpen ⟨4, none⟩, .registerWrite 4 0 ⟨0, 2⟩,
      .fuseProgramEnv (2 ^ 32 - 1) 0, .state [(63, [])], .mirror (2 ^ 24 - 1) false 1023 (2 ^ 32 - 1), .rejoin [0],
      .domainState ⟨0, 0, 255, 255, 2 ^ 32 - 1⟩ 255 true 255, .memberReq ringT (fill 32 0) (2 ^ 64 - 1) true, .sensorTrip 63 4095, .fatalFault 5,
      .wake 4, .jtagInstruction (.chainRead 7 0 0), .jtagInstruction (.halt 3)], i.wf = true) := by decide +kernel
/-- For every check a command one number beyond it. -/
theorem test_illFormed :
    (∀ i ∈ [Instr.stitchBoundary ⟨[256], [], [], [], [], [], true, true⟩, .stitchBoundary ⟨[], [(8, 0)], [], [], [], [], true, true⟩,
      .stitchBoundary ⟨[], [(0, 10)], [], [], [], [], true, true⟩, .stitchBoundary ⟨[], [], [(8 * 524288, 0)], [], [], [], true, true⟩,
      .stitchBoundary ⟨[], [], [(0, 16)], [], [], [], true, true⟩, .stitchBoundary ⟨[], [], [], [8], [], [], true, true⟩,
      .stitchBoundary ⟨[], [], [], [], [(65, 0)], [], true, true⟩, .stitchBoundary ⟨[], [], [], [], [(0, 4096)], [], true, true⟩,
      .stitchBoundary ⟨[], [], [], [], [], [1280], true, true⟩, .registerWrite 0 0 ⟨0, 3⟩, .registerWrite 5 0 ⟨0, 4⟩,
      .stitchCountLoRead 17, .statusPoll 512 0 false, .bootDone 64, .lastHeaderVerified 1024, .pageReadDone (.fill 1024) [] false,
      .pageReadDone (.activation 64) [] false, .pageReadDone (.rejoin (8 * 524288)) [] false, .leaseExpiry (.platform 64),
      .hotRefreshChange 4096, .heelRingTailWrite 5 0, .coldPowerOn { strapsT with banks := [] }, .floorRaise [(0, 0)],
      .floorRaise (List.replicate 8 (2 ^ 32, 0)), .hello 9, .dgstOpen ⟨5, none⟩, .fuseProgramEnv (2 ^ 32) 0, .state [(64, [])],
      .mirror (2 ^ 24) false 0 0, .mirror 0 false 1024 0, .mirror 0 false 0 (2 ^ 32), .mirrorAck (2 ^ 24), .snapshot [2 ^ 32] [] 0,
      .rejoin [8 * 524288], .rejoin (List.replicate 257 0), .domainState ⟨0, 0, 256, 0, 0⟩ 0 true 0,
      .domainState ⟨0, 0, 0, 256, 0⟩ 0 true 0, .domainState ringT 256 true 0, .memberReq ringT [] 0 true, .memberReq ringT (fill 32 0) (2 ^ 64) true,
      .memberResp ringT (fill 32 0) 0 65536 [], .sensorTrip 0 4096, .fatalFault 0, .fatalFault 6, .wake 5,
      .jtagInstruction (.chainRead 8 0 0), .jtagInstruction (.halt 4), .jtagInstruction (.readSram 4 0)], i.wf = false) := by
  decide +kernel
/-- No word spells a command, since the table gives no row bits: the queue stays as it is. -/
theorem test_decodeTableWord (nbits w : Nat) : decodeTableWord nbits w = none ∧ State.reset.withFetchWord nbits w = State.reset :=
  ⟨rfl, rfl⟩

/-! ### Single steps -/

/-- The front command runs and the rest stays (FLOOR_RAISE is not due after reset). -/
theorem test_step_front : step { State.reset with pending := [.drill 1, .freezeRequest] } = .next { State.reset with pending := [.freezeRequest] } := by
  rfl
/-- On an empty queue the block idles. -/
theorem test_step_idle : step State.reset = .next State.reset := rfl
/-- READ_STATUS shows WEL in bit 1, BP in bits 5 to 2 and SRWD in bit 7 (the table of R102). -/
theorem test_status : hostW.statusReg 0 = BitVec.ofNat 8 (128 + 4 * 9 + 2) := by decide +kernel
/-- The spec's example of welt 37: sole channel 5 and awl 9 (file 01). -/
theorem test_welt37 : weltChannel 37 = 5 ∧ weltAwl 37 = 9 := by decide
/-- The spec's example of the odd unit 3: with both lines seen released in stitch 7,000,003 its claim stitch is 7,000,063 (file 14). -/
theorem test_claimStitch : State.claimFrom { host0 with pair := { unitId := 3 } } 7000003 = 7000063 := by decide +kernel
/-- The spec's example of the heel: with P = 2,000,000 and K = 12 the window opens at 1,500,000 (file 13). -/
theorem test_heelWindow :
    State.heelOpen { host0 with heel := { startup := false, period := 2000000 }, fuse := { shadow := [(144, { firmA := 12, weakA := 12 })] } } = 1500000 := by
  decide +kernel
/-- The spec's example of an early service: at offset 199,999 the right service code is an expiry (file 13). -/
theorem test_earlyService :
    let s : State := { atStitch 199999 host0 with heel := { startup := false, period := 2000000, chal := 0x71E092B4 }
                                                  fuse := { shadow := [(144, { firmA := 12, weakA := 12 })] } }
    (match exec (.heelTimerSvcWrite 0 0x8E1F6D4B) s with | .next t => decide (t.deferred ≠ []) | _ => false) = true := by decide +kernel
/-- The spec's example of a retired page: page 2,621,441 in spare frame 524,291 reads 0x0800_0309 in SOLE_PAGE_S (file 20). -/
theorem test_retiredPage :
    State.readPage { host0 with sole := { pages := [(2621441, { state := .valid, spare := some 524291 })] } } 2621441 = 0x08000309 := by
  decide +kernel
/-- WRITE_DISABLE clears WEL (R102). -/
theorem test_writeDisable : ∃ t, exec (.writeDisable (hc 0x04 0)) hostW = .next t ∧ (t.pd 0).wel = false := by
  refine ⟨_, rfl, ?_⟩; decide +kernel
/-- A read passed to an eyelet answers the bytes the flash gives (R100, R117). -/
theorem test_flashRead : ∃ t, exec (.read (hc 0x03 0x20005) (rd 3 [1, 2, 3])) host0 = .next t ∧ t.out.getLast? = some (.host 0 [1, 2, 3]) := by
  refine ⟨_, rfl, ?_⟩; decide +kernel

end Sys2Proof.Tests
end

namespace Sys2Proof.Laws
open Sys2Proof Sys2Proof.Machine

/-- The front command of a nonempty queue runs on the state that keeps the rest. -/
theorem step_of_pending_cons {s : State} {c : Instr} {rest : List Instr} (h : s.pending = c :: rest) :
    step s = exec c { s with pending := rest } := by
  simp only [step, h]

/-- The block idles on an empty queue (log entry 41). -/
theorem step_of_pending_nil {s : State} (h : s.pending = []) : step s = .next s := by
  simp only [step, h]

/-- Settles O1: the queue with a command in front, and the empty queue. -/
theorem stepRunsFront : Obligations.StepRunsFront := by
  unfold Obligations.StepRunsFront
  constructor
  · intro c rest s
    exact step_of_pending_cons rfl
  · intro s hs
    exact step_of_pending_nil hs

end Sys2Proof.Laws

namespace Sys2Proof.Laws
open Sys2Proof Sys2Proof.Machine Sys2Proof.Claims

/-! ### A request at HEAD, judged and answered (R479, R481) -/

section Judged
variable {s : State} {req used : Nat} {e : RingEntry}

theorem waits_of_atHeadAny (h : AtHeadAny s req used e) (known : ringCodes.contains req = true) : Waits s req used e := by
  obtain ⟨live, some, room, entry, state, code, -, zeros⟩ := h
  exact { live, some, room, entry, state, code, known, zeros }

/-- The state after the entry `e` at HEAD has been judged: refused with a code, or accepted with `d` left to the boundary. -/
def judged (s : State) (e : RingEntry) (d : Deferred) : Option Nat → State
  | some c => ({ s with heel := answered s false c 0 } : State).ringOrigin e false c
  | none => { s with heel := answered s true Code.ok (s.now + 1), deferred := s.deferred ++ [d] }

/-- A request whose only effect is the change `d` leaves the state `judged`. -/
theorem heelTakeWith_judged (h : AtHeadAny s req used e) (known : ringCodes.contains req = true)
    {judge : State → RingEntry → Option Nat} {effect : State → RingEntry → State} {after : State → RingEntry → Option Nat → State}
    {v : Option Nat} {d : Deferred} (hj : judge s e = v)
    (he : ∀ heel, effect { s with heel := heel } e = ({ s with heel := heel } : State).later d)
    (hr : ∀ t c, after t e (some c) = t.ringOrigin e false c) (ha : ∀ t, after t e none = t.ringOrigin e true Code.ok) :
    s.heelTakeWith req used false judge effect after = judged s e d v := by
  have w := waits_of_atHeadAny h known
  obtain ⟨-, -, -, -, -, -, origin, -⟩ := h
  cases v with
  | some c => rw [heelTakeWith_refused w false judge effect after c hj, ringWrite_advanced, hr]; rfl
  | none =>
    rw [heelTakeWith_accepted w false judge effect after hj, ringWrite_advanced, ha, he]
    simp only [State.ringOrigin, origin]
    rfl

/-- The same for the usual request, judged and carried out on its ARGS. -/
theorem heelReq_judged (h : AtHeadAny s req used e) (known : ringCodes.contains req = true)
    {judge : State → Bytes → Option Nat} {effect : State → Bytes → State} {v : Option Nat} {d : Deferred}
    (hj : judge s e.args = v) (he : ∀ heel, effect { s with heel := heel } e.args = ({ s with heel := heel } : State).later d) :
    s.heelReq req used false judge effect = .next (judged s e d v) :=
  congrArg _ (heelTakeWith_judged h known (judge := fun s e => judge s e.args) (effect := fun s e => effect s e.args)
    hj he (fun _ _ => rfl) (fun _ => rfl))

variable {i : Instr} {d : Deferred} {v : Option Nat}

/-- A request without a verdict against it is accepted. -/
theorem accepts_of_judged (hx : exec i s = .next (judged s e d v)) (hv : v = none) : Accepts s i d := by
  subst hv; exact hx

/-- A request that carries out no UPDATE_OPEN is refused with its verdict, and the ring alone changes. -/
theorem refuses_of_judged {c : Nat} (h : AtHead s req used e) (hx : exec i s = .next (judged s e d v)) (hv : v = some c) :
    Refuses s i c := by
  obtain ⟨⟨-, -, -, -, -, -, origin, -⟩, lease⟩ := h
  subst hv
  simp only [judged, State.ringOrigin, origin, lease] at hx
  exact hx

/-- A refused request that carries out an UPDATE_OPEN also ends the host lease that it took (R288). -/
theorem exec_refused_of_leased {c : Nat} (h : AtHeadAny s req used e) (hl : e.lease ≠ 0)
    (hx : exec i s = .next (judged s e d v)) (hv : v = some c) :
    exec i s = .next (({ s with heel := answered s false c 0 } : State).leaseRefused (argPlat e) e.lease) := by
  obtain ⟨-, -, -, -, -, -, origin, -⟩ := h
  subst hv
  simp only [judged, State.ringOrigin, origin, Bool.false_or, hl, decide_false] at hx
  exact hx

end Judged

/-! ### How the heel judges PHASE, SLOT_MAP, EXCLUDE and FILL_RUNNING (R480) -/

/-- The code PHASE is refused with. -/
def phaseVerdict (s : State) (e : RingEntry) : Option Nat :=
  firstRefusal [
    (!s.platArg (argPlat e) || argTwo e = 0 || 3 < argTwo e, Code.heelRequestBad),
    (s.ahead (argPlat e) = (.running, .boot) && argTwo e = 2 && !(s.plat (argPlat e)).eventSeen, Code.heelEvidenceMissing),
    (!(phaseRow (s.ahead (argPlat e)).1 (s.ahead (argPlat e)).2 (argTwo e) &&
      (argTwo e ≠ 3 || ((s.platRec (argPlat e)).updateEn && leaseOpen s (argPlat e) e))), Code.phaseRefused)]
/-- The change of phase that an accepted PHASE leaves to the boundary, with its cause (R308). -/
def phaseChange (s : State) (e : RingEntry) : Deferred :=
  if argTwo e = 3 then .phase (argPlat e) .update 12
  else if (s.ahead (argPlat e)).2 = .boot then .phase (argPlat e) .runtime (s.plat (argPlat e)).runtimeCause
  else .phase (argPlat e) .runtime 17
/-- The code SLOT_MAP is refused with. -/
def slotMapVerdict (s : State) (e : RingEntry) : Option Nat :=
  firstRefusal [(!s.platArg (argPlat e), Code.heelRequestBad), (!s.holdAhead (argPlat e), Code.phaseRefused)]
/-- The code EXCLUDE is refused with (R280). -/
def excludeVerdict (s : State) (e : RingEntry) : Option Nat :=
  firstRefusal [
    (!s.platArg (argPlat e) || !(s.platRec (argPlat e)).lasts.any (fun x => x.entry = argTwo e), Code.heelRequestBad),
    (!s.entryFailed (argPlat e) (argTwo e) ||
      ((s.platRec (argPlat e)).cobblerEn && !(s.plat (argPlat e)).noSource.testBit (argTwo e)), Code.heelEvidenceMissing),
    (!(s.platRec (argPlat e)).runDegraded || !(s.bootSet (argPlat e)).any (fun x => x.entry = argTwo e), Code.phaseRefused)]
/-- The code FILL_RUNNING is refused with when the entry's record is `x`, if the platform has one (R197; log entry 84). -/
def fillRunningVerdict (s : State) (e : RingEntry) : Option LastEntry → Option Nat
  | none => some Code.heelRequestBad
  | some x => firstRefusal [
      (!s.platArg (argPlat e), Code.heelRequestBad), (!s.entryEmpty x, Code.heelEvidenceMissing),
      ((s.ahead (argPlat e)).1 ∉ [Custody.verified, .released, .running], Code.phaseRefused)]

section Exec
variable {s : State} {e : RingEntry}

-- `delta` unfolds the names of the ARGS inside the `Decidable` terms too, where `simp` would leave two spellings of one test.

theorem exec_phase (h : AtHeadAny s 0x03 2 e) : exec .phase s = .next (judged s e (phaseChange s e) (phaseVerdict s e)) := by
  refine congrArg _ (heelTakeWith_judged h (by decide) ?judge ?effect (fun _ _ => rfl) (fun _ => rfl))
  case judge =>
    unfold phaseVerdict phaseRow leaseOpen
    dsimp only
    delta argPlat argTwo
    by_cases hn : fieldAt e.args 1 1 = 3 <;> cases (s.plat (fieldAt e.args 0 1)).lease <;>
      simp [hn, Prod.ext_iff, Bool.or_assoc]
  case effect =>
    intro heel
    rw [phaseChange, apply_ite (State.later _), apply_ite (State.later _)]
    rfl

theorem exec_slotMap (h : AtHeadAny s 0x04 1 e) :
    exec .slotMap s = .next (judged s e (.slotMap (argPlat e)) (slotMapVerdict s e)) :=
  heelReq_judged h (by decide) rfl (fun _ => rfl)

theorem exec_exclude (h : AtHeadAny s 0x05 2 e) :
    exec .exclude s = .next (judged s e (.exclude (argPlat e) (argTwo e)) (excludeVerdict s e)) :=
  heelReq_judged h (by decide) rfl (fun _ => rfl)

theorem exec_fillRunning (h : AtHeadAny s 0x06 2 e) :
    exec .fillRunning s = .next (judged s e (.fillRunning (argPlat e) (argTwo e))
      (fillRunningVerdict s e ((s.platRec (argPlat e)).lasts.find? (fun y => y.entry = argTwo e)))) := by
  refine heelReq_judged h (by decide) ?_ (fun _ => rfl)
  dsimp only
  delta argPlat argTwo
  cases (s.platRec (fieldAt e.args 0 1)).lasts.find? (fun x => x.entry = fieldAt e.args 1 1) with
  | none => rfl
  | some x => simp [fillRunningVerdict, argPlat, Bool.and_assoc]

end Exec

/-! ### The judgement, case by case -/

section Verdicts
variable {s : State} {e : RingEntry}

theorem phaseVerdict_badArgs (h : s.platArg (argPlat e) = false ∨ argTwo e = 0 ∨ 3 < argTwo e) :
    phaseVerdict s e = some Code.heelRequestBad := by
  simp [phaseVerdict, firstRefusal, h, or_assoc]

theorem phaseVerdict_noRow (hp : s.platArg (argPlat e) = true) (h1 : 1 ≤ argTwo e) (h3 : argTwo e ≤ 3)
    (hr : phaseRow (s.ahead (argPlat e)).1 (s.ahead (argPlat e)).2 (argTwo e) = false) :
    phaseVerdict s e = some Code.phaseRefused := by
  have h0 : argTwo e ≠ 0 := by omega
  have h3' : ¬ 3 < argTwo e := by omega
  have hb : ¬ (s.ahead (argPlat e) = (.running, .boot) ∧ argTwo e = 2) := by
    rintro ⟨ha, hn⟩
    simp [phaseRow, ha, hn] at hr
  simp only [phaseVerdict, firstRefusal, hp, h0, h3', hr, ← Bool.decide_and, hb]
  rfl

theorem phaseVerdict_boot (hp : s.platArg (argPlat e) = true) (ha : s.ahead (argPlat e) = (.running, .boot)) (hn : argTwo e = 2) :
    phaseVerdict s e = if (s.plat (argPlat e)).eventSeen then none else some Code.heelEvidenceMissing := by
  cases hv : (s.plat (argPlat e)).eventSeen <;> simp [phaseVerdict, firstRefusal, phaseRow, hp, ha, hn, hv]

theorem phaseVerdict_toUpdate (hp : s.platArg (argPlat e) = true) (ha : s.ahead (argPlat e) = (.running, .runtime))
    (hn : argTwo e = 3) : phaseVerdict s e =
      if (s.platRec (argPlat e)).updateEn && leaseOpen s (argPlat e) e then none else some Code.phaseRefused := by
  cases hu : (s.platRec (argPlat e)).updateEn && leaseOpen s (argPlat e) e <;>
    simp [phaseVerdict, firstRefusal, phaseRow, hp, ha, hn, hu]

theorem phaseVerdict_fromUpdate (hp : s.platArg (argPlat e) = true) (ha : s.ahead (argPlat e) = (.running, .update))
    (hn : argTwo e = 2) : phaseVerdict s e = none := by
  simp [phaseVerdict, firstRefusal, phaseRow, hp, ha, hn]

theorem exec_phase_boot (h : AtHeadAny s 0x03 2 e) (hp : s.platArg (argPlat e) = true)
    (ha : s.ahead (argPlat e) = (.running, .boot)) (hn : argTwo e = 2) :
    exec .phase s = .next (judged s e (.phase (argPlat e) .runtime (s.plat (argPlat e)).runtimeCause)
      (if (s.plat (argPlat e)).eventSeen then none else some Code.heelEvidenceMissing)) := by
  have hd : phaseChange s e = .phase (argPlat e) .runtime (s.plat (argPlat e)).runtimeCause := by simp [phaseChange, ha, hn]
  rw [exec_phase h, hd, phaseVerdict_boot hp ha hn]

theorem exec_phase_toUpdate (h : AtHeadAny s 0x03 2 e) (hp : s.platArg (argPlat e) = true)
    (ha : s.ahead (argPlat e) = (.running, .runtime)) (hn : argTwo e = 3) :
    exec .phase s = .next (judged s e (.phase (argPlat e) .update 12)
      (if (s.platRec (argPlat e)).updateEn && leaseOpen s (argPlat e) e then none else some Code.phaseRefused)) := by
  have hd : phaseChange s e = .phase (argPlat e) .update 12 := if_pos hn
  rw [exec_phase h, hd, phaseVerdict_toUpdate hp ha hn]

theorem exec_phase_fromUpdate (h : AtHeadAny s 0x03 2 e) (hp : s.platArg (argPlat e) = true)
    (ha : s.ahead (argPlat e) = (.running, .update)) (hn : argTwo e = 2) :
    exec .phase s = .next (judged s e (.phase (argPlat e) .runtime 17) none) := by
  have hd : phaseChange s e = .phase (argPlat e) .runtime 17 := by simp [phaseChange, ha, hn]
  rw [exec_phase h, hd, phaseVerdict_fromUpdate hp ha hn]

theorem slotMapVerdict_badArgs (h : s.platArg (argPlat e) = false) : slotMapVerdict s e = some Code.heelRequestBad := by
  simp [slotMapVerdict, firstRefusal, h]

theorem slotMapVerdict_hold (hp : s.platArg (argPlat e) = true) :
    slotMapVerdict s e = if s.holdAhead (argPlat e) then none else some Code.phaseRefused := by
  cases hh : s.holdAhead (argPlat e) <;> simp [slotMapVerdict, firstRefusal, hp, hh]

theorem excludeVerdict_badArgs
    (h : s.platArg (argPlat e) = false ∨ (s.platRec (argPlat e)).lasts.any (fun x => x.entry = argTwo e) = false) :
    excludeVerdict s e = some Code.heelRequestBad := by
  simp only [excludeVerdict, firstRefusal]
  rcases h with h | h <;> simp only [h, Bool.not_false, Bool.true_or, Bool.or_true, if_true]

section Entry
variable (hp : s.platArg (argPlat e) = true) (hx : (s.platRec (argPlat e)).lasts.any (fun x => x.entry = argTwo e) = true)
include hp hx

theorem excludeVerdict_noEvidence
    (h : s.entryFailed (argPlat e) (argTwo e) = false ∨
      ((s.platRec (argPlat e)).cobblerEn = true ∧ (s.plat (argPlat e)).noSource.testBit (argTwo e) = false)) :
    excludeVerdict s e = some Code.heelEvidenceMissing := by
  simp only [excludeVerdict, firstRefusal, hp, hx]
  rcases h with h | ⟨hc, hs⟩
  · simp [h]
  · simp [hc, hs]

theorem excludeVerdict_evidence (hf : s.entryFailed (argPlat e) (argTwo e) = true)
    (hc : (s.platRec (argPlat e)).cobblerEn = false ∨ (s.plat (argPlat e)).noSource.testBit (argTwo e) = true) :
    excludeVerdict s e =
      if (s.platRec (argPlat e)).runDegraded && (s.bootSet (argPlat e)).any (fun x => x.entry = argTwo e) then none
      else some Code.phaseRefused := by
  have hm : ((s.platRec (argPlat e)).cobblerEn && !(s.plat (argPlat e)).noSource.testBit (argTwo e)) = false := by
    rcases hc with hc | hc <;> simp [hc]
  simp only [excludeVerdict, firstRefusal, hp, hx, hf, hm, ← Bool.not_and]
  cases (s.platRec (argPlat e)).runDegraded && (s.bootSet (argPlat e)).any (fun x => x.entry = argTwo e) <;> rfl

end Entry

theorem fillRunningVerdict_badArgs {x : Option LastEntry} (h : s.platArg (argPlat e) = false ∨ x = none) :
    fillRunningVerdict s e x = some Code.heelRequestBad := by
  cases x with
  | none => rfl
  | some x =>
    have hp := h.resolve_right (Option.some_ne_none x)
    simp [fillRunningVerdict, firstRefusal, hp]

variable {x : LastEntry}

theorem fillRunningVerdict_notEmpty (hp : s.platArg (argPlat e) = true) (hx : s.entryEmpty x = false) :
    fillRunningVerdict s e (some x) = some Code.heelEvidenceMissing := by
  simp [fillRunningVerdict, firstRefusal, hp, hx]

theorem fillRunningVerdict_empty (hp : s.platArg (argPlat e) = true) (hx : s.entryEmpty x = true) :
    fillRunningVerdict s e (some x) =
      if (s.ahead (argPlat e)).1 ∈ [Custody.verified, .released, .running] then none else some Code.phaseRefused := by
  by_cases hs : (s.ahead (argPlat e)).1 ∈ [Custody.verified, .released, .running] <;>
    simp only [fillRunningVerdict, firstRefusal, hp, hx, hs] <;> rfl

end Verdicts

/-! ### What the boundary makes of an accepted request -/

section Boundary
variable (s : State) (all : List Deferred) (p : Nat)

@[simp] theorem sendState_plat (j : Nat) : (s.sendState p).plat j = s.plat j := by
  unfold State.sendState
  dsimp only
  split
  · exact toPartner_plat ..
  · rfl

theorem setCustody_plat_self (next : Custody) (ph : Phase) (cause : Nat) :
    (s.setCustody p next ph cause).plat p = { s.plat p with state := next, phase := ph } := by
  simp [State.setCustody]

theorem setCustody_otherPlats (next : Custody) (ph : Phase) (cause : Nat) : OtherPlats s (s.setCustody p next ph cause) p := by
  intro j hj
  simp [State.setCustody, modPlat_plat_ne s p j _ hj]

theorem modPlat_otherPlats (f : PlatSt → PlatSt) : OtherPlats s (s.modPlat p f) p := fun j hj => modPlat_plat_ne s p j f hj

theorem applyDeferred_phase (ph : Phase) (c : Nat) (h : (s.plat p).hold = false) :
    s.applyDeferred all (.phase p ph c) = s.setCustody p (s.plat p).state ph c := by
  simp [State.applyDeferred, State.phaseNow, h]

theorem applyDeferred_slotMap (h : (s.plat p).hold = true) :
    s.applyDeferred all (.slotMap p) = s.modPlat p (fun t => { t with map := flagActive (s.flag p) }) := by
  simp [State.applyDeferred, h]

theorem applyDeferred_exclude_plat (e j : Nat) :
    (s.applyDeferred all (.exclude p e)).plat j =
      (s.modPlat p (fun t => { t with excluded := t.excluded ||| (1 <<< e) })).plat j := sendState_plat ..

theorem applyDeferred_fillRunning (e : Nat) (ht : (s.latch (16 * p + e)).tableRead = false) (hf : (s.plat p).fill = none) :
    s.applyDeferred all (.fillRunning p e) = s.modPlat p (fun t => { t with fill := some { todo := [e], onRunning := true } }) := by
  simp [State.applyDeferred, State.fillRunningNow, ht, hf]

end Boundary

/-- Settles O25: each request is answered by its verdict, and the boundary applies the change that an accepted one leaves. -/
theorem heelCustodyRequests : Obligations.HeelCustodyRequests := by
  refine ⟨fun s e h => ?phase, fun s e n h hl hn hp ha h3 => ?leased, fun s e h => ?slotMap, fun s e h => ?exclude,
    fun s e h => ?fillRunning, fun s all p c ph hh => ?phaseNow, fun s all p hh => ?slotMapNow, fun s all p e => ?excludeNow,
    fun s all p e ht hf => ?fillNow⟩
  case phase =>
    refine ⟨fun hp => ⟨fun ha hn => ?boot, fun ha hn => ?toUpdate, fun ha hn => ?fromUpdate, fun hr h1 h3 => ?noRow⟩, fun hb => ?bad⟩
    case boot =>
      have hx := exec_phase_boot h.1 hp ha hn
      exact ⟨fun hv => accepts_of_judged hx (by simp [hv]), fun hv => refuses_of_judged h hx (by simp [hv])⟩
    case toUpdate =>
      have hx := exec_phase_toUpdate h.1 hp ha hn
      refine ⟨fun hu ho => accepts_of_judged hx (by simp [hu, ho]), fun hno => refuses_of_judged h hx ?_⟩
      rcases hno with hno | hno <;> simp [hno]
    case fromUpdate => exact accepts_of_judged (exec_phase_fromUpdate h.1 hp ha hn) rfl
    case noRow => exact refuses_of_judged h (exec_phase h.1) (phaseVerdict_noRow hp h1 h3 hr)
    case bad => exact refuses_of_judged h (exec_phase h.1) (phaseVerdict_badArgs hb)
  case leased =>
    subst hl
    have hx := exec_phase_toUpdate h hp ha h3
    exact ⟨fun hu ho => accepts_of_judged hx (by simp [hu, ho]), fun hu => exec_refused_of_leased h hn hx (by simp [hu])⟩
  case slotMap =>
    have hx := exec_slotMap h.1
    refine ⟨fun hp => ⟨fun hh => ?_, fun hh => ?_⟩, fun hp => ?_⟩
    · exact accepts_of_judged hx (by simp [slotMapVerdict_hold hp, hh])
    · exact refuses_of_judged h hx (by simp [slotMapVerdict_hold hp, hh])
    · exact refuses_of_judged h hx (slotMapVerdict_badArgs hp)
  case exclude =>
    have hx := exec_exclude h.1
    refine ⟨fun hp he => ⟨fun hno => ?_, fun hf hc => ⟨fun hd hb => ?_, fun hno => ?_⟩⟩, fun hb => ?_⟩
    · exact refuses_of_judged h hx (excludeVerdict_noEvidence hp he hno)
    · refine accepts_of_judged hx ?_
      rw [excludeVerdict_evidence hp he hf hc, hd, hb]
      rfl
    · refine refuses_of_judged h hx ?_
      rw [excludeVerdict_evidence hp he hf hc]
      rcases hno with hno | hno <;> rw [hno] <;> simp
    · exact refuses_of_judged h hx (excludeVerdict_badArgs hb)
  case fillRunning =>
    have hx := exec_fillRunning h.1
    refine ⟨fun x hp hf => ?_, fun hb => refuses_of_judged h hx (fillRunningVerdict_badArgs hb)⟩
    rw [hf] at hx
    refine ⟨fun he hs => ?_, fun he hs => ?_, fun he => ?_⟩
    · exact accepts_of_judged hx ((fillRunningVerdict_empty hp he).trans (if_pos hs))
    · exact refuses_of_judged h hx ((fillRunningVerdict_empty hp he).trans (if_neg hs))
    · exact refuses_of_judged h hx (fillRunningVerdict_notEmpty hp he)
  case phaseNow =>
    rw [applyDeferred_phase s all p ph c hh, setCustody_plat_self]
    exact ⟨rfl, rfl, setCustody_otherPlats s p _ ph c⟩
  case slotMapNow =>
    rw [applyDeferred_slotMap s all p hh]
    exact ⟨modPlat_plat_self .., modPlat_otherPlats s p _⟩
  case excludeNow =>
    refine ⟨?_, fun j hj => ?_⟩
    · rw [applyDeferred_exclude_plat, modPlat_plat_self]
    · rw [applyDeferred_exclude_plat, modPlat_plat_ne s p j _ hj]
  case fillNow =>
    rw [applyDeferred_fillRunning s all p e ht hf]
    exact ⟨modPlat_plat_self .., modPlat_otherPlats s p _⟩

end Sys2Proof.Laws
